-- ==== Sys2Proof/Word.lean ====
section
/-! DEFINITION. The words of the 7216: the byte, the wider frame fields, the masks and sets the spec
counts in bits, and the index types of the things the part has a fixed number of. -/

namespace Sys2Proof

/-- One byte of a frame, of the configuration image or of a mask. -/
abbrev Byte := BitVec 8

/-- A two-byte frame field, most significant byte first on the wire (Conventions, Byte order). -/
abbrev Half := BitVec 16

/-- A four-byte frame field. -/
abbrev Quad := BitVec 32

/-- A zone mask: Z1 at the least significant position (Conventions, Sets and masks). -/
abbrev ZoneMask := BitVec 8

/-- A line mask: L1 at the least significant position. -/
abbrev LineMask := BitVec 16

/-- A station set: station number n at position n; positions 0 and 31 are always clear. -/
abbrev StationSet := BitVec 32

/-- A station number 1–30, held as the number less one. -/
abbrev Station := Fin 30

/-- A drive line L1–L16, held as the line number less one. -/
abbrev LineId := Fin 16

/-- A zone Z1–Z8, held as the zone number less one. -/
abbrev ZoneId := Fin 8

/-- A page key K1–K4, held as the key number less one. -/
abbrev KeyId := Fin 4

/-- A dial slot 1–6, held as the slot number less one. -/
abbrev SlotId := Fin 6

/-- `x` taken to the nearest limit of the range `lo` to `hi` (Conventions, Configuration values). -/
def clampNat (lo hi x : Nat) : Nat := max lo (min hi x)

/-- `x` taken to the nearest limit of the range `lo` to `hi`, for signed quantities. -/
def clampInt (lo hi x : Int) : Int := max lo (min hi x)

end Sys2Proof
end

