-- ==== Sys2Proof/Syntax.lean ====
section
/-! DEFINITION. The commands the block takes: one constructor per row of spec/opcode_table.json, in the
table's order. A command that is a good frame carries its sender byte and its body's fields in the widths
of the formats section (02_the_yard_line.md, 2.11); a command that is an event of a timer or a pin carries
what names the thing it happens to and what is read from outside at that moment. -/

namespace Sys2Proof

/-- What a line's comparator reads at a supervision slot (R93). -/
inductive SenseResult where
  | normal
  | opened
  | shorted
  deriving DecidableEq, Repr

/-- The two keys KEY_ARMED speaks of (R165). -/
inductive DrillUnitKey where
  | drillKey
  | musterKey
  deriving DecidableEq, Repr

/-- The body of a BEACON, byte for byte the layout of the formats section. -/
structure BeaconBody where
  stampDay : Half
  stampMs : Quad
  standing : Byte
  flags : Byte
  floorHolder : Byte
  floorNumber : Byte
  floorClass : Byte
  holdRemaining : Half
  drillInitiator : Byte
  drillNumber : Byte
  drillStartDay : Half
  drillStartMs : Quad
  drillPhase : Byte
  evacuationLimit : Half
  soundLimit : Half
  expectedSet : StationSet
  reportedSet : StationSet
  ownMuster : Half
  deriving DecidableEq, Repr

/-- The body of a CLAIM: its targets are (station field, zone mask) pairs. -/
structure ClaimBody where
  number : Byte
  cls : Byte
  window : Half
  holdLimit : Half
  targets : List (Byte × ZoneMask)
  deriving DecidableEq, Repr

/-- The body of a DRILL-START. -/
structure DrillStartBody where
  number : Byte
  startDay : Half
  startMs : Quad
  evacuationLimit : Half
  soundLimit : Half
  expectedSet : StationSet
  deriving DecidableEq, Repr

/-- A start bit on YL-RX: how many back-off slots had been counted down since the line became QUIET (R32), and
the character that the start bit begins (R37). -/
structure StartBit where
  counted : Nat
  character : Byte
  deriving DecidableEq, Repr

/-- The commands (rows of spec/opcode_table.json). -/
inductive Instr where
  /-- POWER_ON: the straps as they read, and whether the supply warning stands at the end of the reset. -/
  | powerOn (straps : BitVec 5) (warning : Bool)
  /-- RST_ASSERT. -/
  | rstAssert
  /-- RST_RELEASE: the straps as they read at the start of LOADING. -/
  | rstRelease (straps : BitVec 5)
  /-- CONFIG_IMAGE_READ: what the configuration memory holds from address 0 on (SDI reads high past it). -/
  | configImageRead (memory : List Byte)
  /-- LISTENING_END. -/
  | listeningEnd
  /-- SUPPLY_WARNING. -/
  | supplyWarning
  /-- WARNING_CLEARS. -/
  | warningClears
  /-- WARNING_REASSERTS. -/
  | warningReasserts
  /-- CLEAR_TIMER_EXPIRY: the straps as they read at the start of LOADING. -/
  | clearTimerExpiry (straps : BitVec 5)
  /-- SUPPLY_COLLAPSE. -/
  | supplyCollapse
  /-- DISPLAY_WORD. -/
  | displayWord
  /-- BEACON_TIMER_EXPIRY. -/
  | beaconTimerExpiry
  /-- SCHOOL_TIME_BOUNDARY. -/
  | schoolTimeBoundary
  /-- IDLE_GAP_EXPIRY. -/
  | idleGapExpiry
  /-- BACK_OFF_END. -/
  | backOffEnd
  /-- TRANSMIT_COMPLETE. -/
  | transmitComplete
  /-- COLLISION. -/
  | collision
  /-- RECEIVE_ABORT. -/
  | receiveAbort
  /-- FRAME_REJECTED: the complete frame from its kind byte to its last CRC byte. -/
  | frameRejected (frame : List Byte)
  /-- BEACON. -/
  | beacon (sender : Byte) (body : BeaconBody)
  /-- DAYPLAN: the day and the plan code. -/
  | dayplan (sender : Byte) (day : Half) (code : Byte)
  /-- REMOVE_OVERRIDE: a DAYPLAN whose plan code is 14. -/
  | removeOverride (sender : Byte) (day : Half)
  /-- SHIFT: a SHIFT frame; its kind code is 1 (any code but 1, 2 and 3 is ignored by R127 row 2). -/
  | shift (sender : Byte) (day : Half) (kind first last delta : Byte)
  /-- CANCEL: a SHIFT frame of kind 2. -/
  | cancel (sender : Byte) (day : Half) (first last : Byte)
  /-- CLEAR_ALL: a SHIFT frame of kind 3. -/
  | clearAll (sender : Byte) (day : Half)
  /-- CLAIM. -/
  | claim (sender : Byte) (body : ClaimBody)
  /-- OBJECT. -/
  | object (sender claimant number reason : Byte)
  /-- READY. -/
  | ready (sender holder number : Byte) (readyMask refusedMask : ZoneMask)
  /-- RELEASE. -/
  | release (sender number reason : Byte)
  /-- DRILL_START. -/
  | drillStart (sender : Byte) (body : DrillStartBody)
  /-- SILENCE. -/
  | silence (sender initiator number : Byte)
  /-- MUSTER. -/
  | muster (sender initiator number : Byte) (elapsed : Half)
  /-- DRILL_END. -/
  | drillEnd (sender initiator number reason : Byte)
  /-- YIELD. -/
  | yield (sender state : Byte)
  /-- DIAL_SET. -/
  | dialSet (sender target line : Byte) (position : Half)
  /-- STATUS_ASK. -/
  | statusAsk (sender target page : Byte)
  /-- STATUS_REPLY. -/
  | statusReply (sender asker page : Byte) (content : List Byte)
  /-- INVERT_NEXT_REPLY: a TEST whose action is 1 (a TEST of an action but 1, 2 and 3 has no effect, R43). -/
  | invertNextReply (sender target action line : Byte)
  /-- LOCK_SUPERVISION: a TEST of action 2. -/
  | lockSupervision (sender target line : Byte)
  /-- UNLOCK: a TEST of action 3. -/
  | unlock (sender target line : Byte)
  /-- AGING_EXPIRY of the entry of `peer`. -/
  | agingExpiry (peer : Station)
  /-- SPACING_EXPIRY of the record of `slot`. -/
  | spacingExpiry (slot : SlotId)
  /-- STAGGER_EXPIRY. -/
  | staggerExpiry
  /-- WIDTH_EXPIRY of the energize period of `line`. -/
  | widthExpiry (line : LineId)
  /-- GAP_EXPIRY of the pattern player of `line`. -/
  | gapExpiry (line : LineId)
  /-- CHIME_WIDTH_EXPIRY. -/
  | chimeWidthExpiry
  /-- CHIME_GAP_EXPIRY. -/
  | chimeGapExpiry
  /-- OVERCURRENT flag of `line`. -/
  | overcurrent (line : LineId)
  /-- SUPERVISION_SLOT: `reading` is what the sense input of the line picked at the slot reads. -/
  | supervisionSlot (reading : SenseResult)
  /-- ENTRY_DUE. -/
  | entryDue
  /-- PAGE_KEY_PRESS. -/
  | pageKeyPress (key : KeyId)
  /-- PAGE_KEY_RELEASE. -/
  | pageKeyRelease (key : KeyId)
  /-- REFUSAL_END. -/
  | refusalEnd (key : KeyId)
  /-- WINDOW_CLOSE of the claim of `claimant` in the claim list. -/
  | windowClose (claimant : Station)
  /-- READY_WAIT_END. -/
  | readyWaitEnd
  /-- HOLD_END. -/
  | holdEnd
  /-- TARGET_GRACE_EXPIRY. -/
  | targetGraceExpiry
  /-- DRILL_KEY_PRESS. -/
  | drillKeyPress
  /-- MUSTER_KEY_PRESS. -/
  | musterKeyPress
  /-- KEY_ARMED. -/
  | keyArmed (key : DrillUnitKey)
  /-- DRILL_DEADLINE. -/
  | drillDeadline
  /-- FIRE_PANEL_CHANGE: the level the contact now counts as. -/
  | firePanelChange (asserted : Bool)
  /-- WRITE_COMPLETE. -/
  | writeComplete
  /-- ERASE_COMPLETE. -/
  | eraseComplete
  /-- START_BIT_SEEN. -/
  | startBitSeen (bit : StartBit)
  /-- DELIMITER_RECOGNISED. -/
  | delimiterRecognised
  deriving DecidableEq, Repr

end Sys2Proof
end

