-- ==== Sys2Proof/Decode.lean ====
section
/-! DEFINITION. The commands that a word of spec/opcode_table.json spells. No row of the table gives bits
(its commands are whole frames, timer expiries and pin events), so no word spells a command. How the bytes of
a yard line frame become a command is commandOfFrame, in Machine/Frames.lean. -/

namespace Sys2Proof

/-- The command a word of `nbits` bits spells by the table's bits: none for every word. -/
def decodeTableWord (_nbits _w : Nat) : Option Instr := none

end Sys2Proof
end

