-- ==== Sys2Proof/Config.lean ====
section
/-! DEFINITION. What the spec leaves free (opaque constants: no value of them can be proved) and the
fixed figures of the part (00_scope.md, Figures Used Throughout). -/

namespace Sys2Proof.Config

/-- FREE VALUE (notes/assumptions/1.md). The back-off generator of R32: the n-th number it draws after a reset
that seeded it from a station number and a station timer. R32 gives its seeds and its range and calls it
uniform; it does not give the generator. -/
opaque backOffDraw (number : Option Station) (timer n : Nat) : Nat

/-- FREE VALUE (notes/assumptions/14.md). Whether school time counts twice in the two byte times (1.042 ms) from
the start of the n-th transmission to its delimiter: it counts once or twice, by where in its millisecond the
transmission began, which State does not hold. -/
opaque secondCount (n : Nat) : Bool

/-- FREE VALUE (notes/assumptions/2.md). What a cut erase leaves of the n-th slot it may have reached:
R191 allows blank, programmed and not valid, or as it was. -/
opaque cutEraseSlot : Nat → Nat

/-- FREE VALUE (notes/assumptions/3.md). The item of the warning for a skipped section whose number in
the image is above 255: R200 gives the number as the item and R201 bounds an item by 255. -/
opaque sectionItemAbove255 : Nat → Byte

/-- FREE VALUE (notes/assumptions/27.md). How far, in ms, the slow flash of a key's lamp has run at station timer 0, for
the own claim of a number: R142 gives the rate of the flash and not where it begins. -/
opaque slowFlashPhase (key : KeyId) (number : Byte) : Nat

/-- FREE VALUE (notes/assumptions/27.md). The same of the fast flash, for the refusal that ends at a time. -/
opaque fastFlashPhase (key : KeyId) (refusalEnd : Nat) : Nat

/-- R1: full time 23:59:59.999 of day 65,535, the top of the range. -/
def maxFullTime : Nat := 5662310399999

/-- Milliseconds of one day. -/
def dayMs : Nat := 86400000

/-- R10, R16: offset samples saturate at ±2,147,483,647. -/
def sampleLimit : Int := 2147483647

/-- R27: the transmit queue holds at most 8 frames. -/
def queueLimit : Nat := 8

/-- R34: a frame is given up at its eighth collision. -/
def attemptLimit : Nat := 8

/-- R144: the claim list holds at most four claims. -/
def claimLimit : Nat := 4

/-- R103: a hold stack holds at most three entries. -/
def stackLimit : Nat := 3

/-- R125: the override list holds at most 16 entries. -/
def overrideLimit : Nat := 16

/-- R127: the shift list holds at most 8 records. -/
def shiftLimit : Nat := 8

/-- R142: a level of a key counts when it has held for 50 ms. -/
def debounceMs : Nat := 50

/-- R142: a refusal is shown for 2 s. -/
def refusalMs : Nat := 2000

/-- R142: a slow flash is on for 500 ms and off for 500 ms. -/
def slowFlashMs : Nat := 500

/-- R142: a fast flash is on for 125 ms and off for 125 ms. -/
def fastFlashMs : Nat := 125

/-- R156: the target grace is 2 s. -/
def graceMs : Nat := 2000

/-- R158: a beacon contradicts its sender's floor only 100 ms or more after the view became HELD. -/
def contradictionMs : Nat := 100

/-- R93: one supervision slot. -/
def supervisionMs : Nat := 250

/-- R187: a snapshot write takes 5 ms. -/
def writeMs : Nat := 5

/-- R187: a page erase takes 60 ms. -/
def eraseMs : Nat := 60

/-- R192: the clear timer runs 100 ms. -/
def clearMs : Nat := 100

/-- R207: one display word each 1,000 ms. -/
def displayMs : Nat := 1000

/-- R60: the fixed impulse rest of 300 ms. -/
def impulseRestMs : Nat := 300

/-- R187: slots to a page. -/
def pageSlots : Nat := 32

end Sys2Proof.Config
end

