-- ==== Sys2Proof/Machine/State.lean ====
section
/-! DEFINITION. The state of one 7216, block by block (00_scope.md, Block Overview), as plain data, the
reasons a step could stop, and the state right after a power-on reset. Times are milliseconds of the
station timer unless a docstring says school time. -/

namespace Sys2Proof.Machine

/-! ## Why a step stops -/

/-- No command of this block faults: the spec gives every command an effect or none, and a command that
finds nothing to act on leaves the state as it is. The type is closed and empty. -/
inductive Fault where
  deriving DecidableEq, Repr

/-- The only refusal is the one exec raises for a row without a meaning; no arm raises it now. -/
inductive Refusal where
  /-- Raised by exec alone, for a command that has no meaning yet. Safe: the run stops. -/
  | notModelled (mnemonic : String)
  deriving DecidableEq, Repr

/-! ## Time Base (01_school_time_and_its_agreement.md) -/

/-- R3, R9: how a station's school time was last obtained. The part itself never holds `reference`. -/
inductive Standing where
  | unset
  | free
  | agreed
  | reference
  deriving DecidableEq, Repr

/-- R18: the kinds of movement. -/
inductive MovementKind where
  | adoption
  | slew
  | step
  deriving DecidableEq, Repr

/-- R18: a movement notice. `before` is none for an adoption. -/
structure Movement where
  kind : MovementKind
  amount : Int
  before : Option Nat
  after : Nat
  minute : Bool
  hour : Bool
  day : Bool
  deriving DecidableEq, Repr

/-- R8: the receive stamp of the frame in reception (none inside = UNSET) and the station timer with it. -/
structure ReceiveStamp where
  fullTime : Option Nat
  timer : Nat
  deriving DecidableEq, Repr

/-- The Time Base. -/
structure TimeBase where
  /-- R1: school time as full time (day × 86,400,000 + milliseconds of day), none = UNSET. -/
  fullTime : Option Nat
  /-- R3. -/
  standing : Standing
  /-- R2: the station timer. -/
  timer : Nat
  /-- R5: the next expiry of the beacon timer, none = stopped. -/
  beaconDue : Option Nat
  /-- R5: a BEACON request held until the attempt in progress ends. -/
  heldBeacon : Bool
  /-- R4: B in seconds. -/
  beaconInterval : Nat
  /-- R4: in ms. -/
  stepThreshold : Nat
  /-- R4: in ms per round. -/
  slewLimit : Nat
  deriving DecidableEq, Repr

/-! ## Yard Line Controller (02_the_yard_line.md) -/

/-- A frame the station sends: its kind and what its requester gave it. A BEACON and a STATUS-REPLY carry
no body (R27). -/
inductive OutFrame where
  | beacon
  | statusReply (asker : Station) (page : Byte)
  | claim (body : ClaimBody)
  | object (claimant : Station) (number reason : Byte)
  | ready (holder : Station) (number : Byte) (readyMask refusedMask : ZoneMask)
  | release (number reason : Byte)
  | drillStart (body : DrillStartBody)
  | silence (initiator : Station) (number : Byte)
  | muster (initiator : Station) (number : Byte) (elapsed : Half)
  | drillEnd (initiator : Station) (number reason : Byte)
  | yield (state : Byte)
  deriving DecidableEq, Repr

/-- R27: an entry of the transmit queue. -/
structure QueuedFrame where
  frame : OutFrame
  age : Nat
  attempts : Nat
  selected : Bool
  inverted : Bool
  deriving DecidableEq, Repr

/-- R31–R33: the attempt of the selected frame: none, in its access wait with the back-off slots still to
count, or in transmission with the characters of the frame on YL-TX. -/
inductive Attempt where
  | none
  | waiting (slots : Nat)
  | sending (chars : List Byte)
  deriving DecidableEq, Repr

/-- R37: the receive state: HUNT; HEADER with the characters taken (the kind, the sender, the length); BODY and
CHECK with the characters left to take. -/
inductive ReceiveState where
  | hunt
  | header (taken : Nat)
  | body (left : Nat)
  | check (left : Nat)
  deriving DecidableEq, Repr

/-- R45: the six link counts, 16 bits each. -/
structure LinkCounts where
  goodFrames : Nat
  crcErrors : Nat
  unknownKinds : Nat
  queueDrops : Nat
  giveUps : Nat
  clashes : Nat
  deriving DecidableEq, Repr

/-- The Yard Line Controller. -/
structure YardLine where
  /-- R23: the line-state flag, true = BUSY. -/
  busy : Bool
  /-- R27: the transmit queue, in the order of joining. -/
  queue : List QueuedFrame
  /-- R31–R33. -/
  attempt : Attempt
  /-- R29: the held STATUS-ASKs, (asker, page field). -/
  heldAsks : List (Station × Byte)
  /-- R37. -/
  receive : ReceiveState
  /-- R8: none = no frame in reception. -/
  stamp : Option ReceiveStamp
  /-- R45. -/
  counts : LinkCounts
  /-- R39. -/
  clash : Bool
  /-- R44: the invert-next-reply flag. -/
  invertNext : Bool
  /-- R32: what the back-off generator was seeded with beside the station number: the station timer as it stood
  when the last reset came (notes/assumptions/1.md). -/
  seed : Nat
  /-- R32: how many numbers the generator has drawn since it was seeded. -/
  drawIndex : Nat
  /-- The MODEL's own: which value of Config.secondCount is read next (notes/assumptions/14.md). -/
  sendIndex : Nat
  deriving DecidableEq, Repr

/-! ## Peer Table (03_the_peer_table.md) -/

/-- R47: the states of a peer entry. -/
inductive PeerState where
  | absent
  | present
  | lost
  deriving DecidableEq, Repr

/-- R10, R47: an offset sample in ms, the standing of the beacon that gave it and the station timer at
that beacon's delimiter. -/
structure Sample where
  offset : Int
  standing : Standing
  takenAt : Nat
  deriving DecidableEq, Repr

/-- GENERAL or URGENT (R141, R144). -/
inductive FloorClass where
  | general
  | urgent
  deriving DecidableEq, Repr

/-- R49: a floor summary. -/
structure FloorSummary where
  holder : Station
  number : Byte
  cls : FloorClass
  holdRemaining : Half
  deriving DecidableEq, Repr

/-- R163: the phases of a drill record. -/
inductive DrillPhase where
  | sounding
  | evacuating
  | overdue
  | mustered
  | ended
  deriving DecidableEq, Repr

/-- R49: a drill summary. -/
structure DrillSummary where
  initiator : Station
  number : Byte
  startDay : Half
  startMs : Nat
  phase : DrillPhase
  evacuationLimit : Half
  soundLimit : Half
  expectedSet : StationSet
  reportedSet : StationSet
  ownMuster : Option Nat
  deriving DecidableEq, Repr

/-- R47: an entry of the Peer Table. -/
structure PeerEntry where
  state : PeerState
  lastHeard : Option Nat
  sample : Option Sample
  yielding : Bool
  configFault : Bool
  floor : Option FloorSummary
  drill : Option DrillSummary
  deriving DecidableEq, Repr

/-- R47: the value of an ABSENT entry. -/
def PeerEntry.absent : PeerEntry :=
  { state := .absent, lastHeard := none, sample := none, yielding := false, configFault := false,
    floor := none, drill := none }

/-! ## Dial Unit (04_room_clock_lines.md) -/

/-- R59: the polarity of an impulse. -/
inductive Polarity where
  | pos
  | neg
  deriving DecidableEq, Repr

/-- R59, R62: the state of a clock line record. -/
inductive DialState where
  | stopped
  | inStep
  | advancing
  | holding
  | faulted
  deriving DecidableEq, Repr

/-- R59: the impulse field. -/
inductive Impulse where
  | none
  | waiting
  | inFlight
  deriving DecidableEq, Repr

/-- R58, R59: a dial slot; `line = none` is a slot with no bound line, which holds no record. -/
structure DialSlot where
  line : Option LineId
  /-- 720 or 1,440. -/
  modulus : Nat
  /-- D, none = UNSET. -/
  dial : Option Nat
  polarity : Polarity
  state : DialState
  /-- d, none in STOPPED and FAULTED. -/
  difference : Option Nat
  impulse : Impulse
  lastStart : Option Nat
  pendingSet : Option Nat
  deriving DecidableEq, Repr

/-- The Dial Unit. -/
structure DialUnit where
  slots : Vector DialSlot 6
  /-- R60: W in ms. -/
  width : Nat
  /-- R60: S in ms, raised to at least W + 300. -/
  spacing : Nat
  /-- R60: H in minutes. -/
  holdWindow : Nat
  deriving DecidableEq, Repr

/-! ## Drive Sequencer (05_drive_lines_and_the_output_sequencer.md) -/

/-- R78: line kinds. -/
inductive LineKind where
  | unused
  | bell
  | sounder
  | clock
  | page
  | chime
  deriving DecidableEq, Repr

/-- R79: line states. -/
inductive LineState where
  | off
  | waiting
  | energized
  | faultDisabled
  deriving DecidableEq, Repr

/-- R79, R96: the supervision class. -/
inductive LineClass where
  | unknown
  | normal
  | opened
  | shorted
  deriving DecidableEq, Repr

/-- R82: request classes, in grant order. -/
inductive RequestClass where
  | sounder
  | bell
  | clock
  deriving DecidableEq, Repr

/-- R81: who asked for an energize period. -/
inductive Requester where
  | dial (slot : SlotId)
  | player
  deriving DecidableEq, Repr

/-- R79, R81: an energize request. -/
structure EnergizeRequest where
  cls : RequestClass
  width : Nat
  polarity : Polarity
  requester : Requester
  age : Nat
  deriving DecidableEq, Repr

/-- R87: the states of a pattern player; GAP holds its gap expiry. -/
inductive PlayerState where
  | idle
  | onWait
  | on
  | gap (ends : Nat)
  deriving DecidableEq, Repr

/-- R87: the pattern player of a BELL or SOUNDER line: which pattern it plays (none = the sounder
pattern) and the number, from 0, of its on-phase under way or last played. -/
structure Player where
  state : PlayerState
  pattern : Option (Fin 8)
  phase : Nat
  deriving DecidableEq, Repr

/-- R79: a drive line record with its pattern player. -/
structure LineRecord where
  kind : LineKind
  state : LineState
  cls : LineClass
  sampleResult : Option SenseResult
  sampleRun : Nat
  request : Option EnergizeRequest
  energizeEnd : Option Nat
  player : Player
  deriving DecidableEq, Repr

/-- R86: a bell or chime pattern, in ms (W2 = 0 is none). -/
structure BellPattern where
  w1 : Nat
  gap : Nat
  w2 : Nat
  repeats : Nat
  deriving DecidableEq, Repr

/-- R86: the sounder pattern, in ms. -/
structure SounderPattern where
  w1 : Nat
  gap : Nat
  w2 : Nat
  pause : Nat
  deriving DecidableEq, Repr

/-- R90: the chime player: idle, or the number of its on-phase, the lines taken and the expiry. -/
inductive ChimePlayer where
  | idle
  | on (phase : Nat) (lines : LineMask) (ends : Nat)
  | gap (phase : Nat) (lines : LineMask) (ends : Nat)
  deriving DecidableEq, Repr

/-- The Drive Sequencer. The grant list (R82) is the WAITING lines taken in grant order, and the energized
count (R83) is the number of ENERGIZED counted lines: neither is stored twice. -/
structure Sequencer where
  lines : Vector LineRecord 16
  /-- R80. -/
  budget : Nat
  /-- R80: in ms. -/
  stagger : Nat
  /-- R80. -/
  exclusion : LineMask
  /-- R80: the line at each position of the scan order table. -/
  scanOrder : Vector LineId 16
  bellPatterns : Vector BellPattern 8
  sounderPattern : SounderPattern
  chimePattern : BellPattern
  /-- R83: the station timer at the last grant, none = no grant since the reset. -/
  lastGrant : Option Nat
  chime : ChimePlayer
  /-- R95: the locked line, none = round-robin. -/
  locked : Option LineId
  /-- R94: the pointer, a position of the scan order table. -/
  pointer : Option (Fin 16)
  /-- R93: the next supervision slot, none = supervision does not run. -/
  nextSlot : Option Nat
  deriving DecidableEq, Repr

/-! ## Zone Arbiter (06_zones_and_the_hold_stack.md) -/

/-- R102: in-service levels. -/
inductive Level where
  | idle
  | bell
  | pageGeneral
  | drill
  | pageUrgent
  | yield
  deriving DecidableEq, Repr

/-- R102: a bell: plan day and relative index, effective full time, pattern. -/
structure Bell where
  day : Nat
  index : Nat
  effective : Int
  pattern : Fin 8
  deriving DecidableEq, Repr

/-- R102: the owner of a zone or of a stack entry; it decides the level. -/
inductive Owner where
  | bell (b : Bell)
  | floor (holder : Station) (number : Byte) (cls : FloorClass)
  | drill (initiator : Station) (number : Byte)
  | yield
  deriving DecidableEq, Repr

/-- R102: a zone record. `owner = none` is IDLE; the current level is the owner's level. -/
structure Zone where
  bellLine : Option LineId
  pageLine : Option LineId
  sounderLine : Option LineId
  owner : Option Owner
  /-- R103: the hold stack, its TOP entry first. -/
  stack : List Owner
  deferred : Option Bell
  cutBell : Option Bell
  /-- R114: the current bell is marked started. -/
  bellStarted : Bool
  sounderOn : Bool
  pageOn : Bool
  deriving DecidableEq, Repr

/-- The Zone Arbiter. -/
structure ZoneArbiter where
  zones : Vector Zone 8
  /-- R117: the TRUNK-SELECT output. -/
  trunkSelect : Bool
  deriving DecidableEq, Repr

/-! ## Bell Scheduler (07_bell_plans.md) -/

/-- R121: an entry of the bell list. -/
structure BellEntry where
  timeOfDay : Nat
  zones : ZoneMask
  pattern : Fin 8
  deriving DecidableEq, Repr

/-- R122: a day plan: a window into the bell list. -/
structure PlanWindow where
  base : Nat
  count : Nat
  deriving DecidableEq, Repr

/-- R122: a plan code: P0–P7 or a no-bell day (code 15). -/
inductive PlanCode where
  | plan (p : Fin 8)
  | noBell
  deriving DecidableEq, Repr

/-- R124: where the active plan came from. -/
inductive PlanSource where
  | weekdayMap
  | override
  deriving DecidableEq, Repr

/-- R123, R127: a shift record. -/
inductive ShiftRecord where
  | shift (first last : Nat) (delta : Int)
  | cancel (first last : Nat)
  deriving DecidableEq, Repr

/-- R130: the mark of an entry of the active plan; an unusable entry carries none (R122). -/
inductive Mark where
  | unusable
  | opened
  | taken
  | passed
  deriving DecidableEq, Repr

/-- The Bell Scheduler. The next entry and its due time (R130) are found from the marks, the shift list,
the active plan and the plan day; they are not stored twice. -/
structure BellScheduler where
  entries : Vector BellEntry 128
  plans : Vector PlanWindow 8
  weekday : Vector PlanCode 7
  /-- R123: in s. -/
  lateLimit : Nat
  planDay : Option Nat
  activePlan : Option PlanCode
  source : PlanSource
  /-- R123: (day, plan code), in ascending day order. -/
  overrides : List (Nat × PlanCode)
  /-- R123: in arrival order. -/
  shifts : List ShiftRecord
  /-- R130: one per entry of the active plan's window, in relative index order. -/
  marks : List Mark
  /-- R123: the taken set, as list indices. -/
  taken : List Nat
  missed : Nat
  deriving DecidableEq, Repr

/-! ## Floor Unit (08_the_announcement_floor.md) -/

/-- R145: what a target names: one station, or all (code 31). -/
inductive TargetStation where
  | one (station : Station)
  | all
  deriving DecidableEq, Repr

/-- A target of a page key or of a claim. -/
structure Target where
  station : TargetStation
  zones : ZoneMask
  deriving DecidableEq, Repr

/-- R141: a page key record, its usable targets only. -/
structure PageKey where
  cls : FloorClass
  window : Nat
  holdLimit : Nat
  targets : List Target
  deriving DecidableEq, Repr

/-- R142: the counted level of a key: armed or not, held or not, and when a shown refusal's 2 s end. -/
structure KeyInput where
  armed : Bool
  held : Bool
  refusalEnd : Option Nat
  deriving DecidableEq, Repr

/-- R143: a HELD floor view. -/
structure FloorView where
  holder : Station
  number : Byte
  cls : FloorClass
  holdEnd : Nat
  heldSince : Nat
  accepted : ZoneMask
  deriving DecidableEq, Repr

/-- R144: an entry of the claim list. -/
structure ClaimEntry where
  claimant : Station
  number : Byte
  cls : FloorClass
  targets : List Target
  holdLimit : Nat
  windowEnd : Nat
  objected : Bool
  deriving DecidableEq, Repr

/-- R145: the states of the own claim record outside IDLE. -/
inductive OwnPhase where
  | claiming
  | gathering
  | chiming
  | live
  deriving DecidableEq, Repr

/-- R145: the own claim record outside IDLE. -/
structure OwnClaim where
  phase : OwnPhase
  key : KeyId
  number : Byte
  cls : FloorClass
  window : Nat
  holdLimit : Nat
  targets : List Target
  ownZones : ZoneMask
  expected : StationSet
  /-- The responder table: the ready mask of each station that has answered. -/
  responders : Vector (Option ZoneMask) 30
  readyWaitEnd : Option Nat
  deriving DecidableEq, Repr

/-- The Floor Unit. -/
structure FloorUnit where
  keys : Vector PageKey 4
  inputs : Vector KeyInput 4
  /-- R141: in ms. -/
  readyWait : Nat
  /-- R143: none = FREE. -/
  view : Option FloorView
  /-- R144. -/
  claims : List ClaimEntry
  /-- R145: none = IDLE. -/
  own : Option OwnClaim
  /-- R145. -/
  counter : Byte
  /-- R154: the MIC-LIVE output. -/
  micLive : Bool
  deriving DecidableEq, Repr

/-! ## Drill Unit (09_drills_and_fire_panel_yield.md) -/

/-- R163: end reasons. -/
inductive EndReason where
  | manual
  | yield
  deriving DecidableEq, Repr

/-- R163: a drill record. -/
structure DrillRecord where
  initiator : Station
  number : Byte
  /-- School full time. -/
  start : Nat
  /-- In s. -/
  evacuationLimit : Nat
  /-- In s. -/
  soundLimit : Nat
  expected : StationSet
  reported : StationSet
  muster : Vector (Option Nat) 30
  phase : DrillPhase
  endReason : Option EndReason
  finalElapsed : Option Nat
  deriving DecidableEq, Repr

/-- The Drill Unit. -/
structure DrillUnit where
  record : Option DrillRecord
  /-- R164: the drill number counter. -/
  counter : Byte
  /-- R164: in s. -/
  evacuationLimit : Nat
  /-- R164: in s. -/
  soundLimit : Nat
  /-- R164. -/
  schoolWide : Bool
  /-- R165. -/
  drillArmed : Bool
  /-- R165. -/
  musterArmed : Bool
  /-- R181: the own contact as it counts. -/
  contact : Bool
  /-- R181. -/
  peerCause : Bool
  /-- R181: the station's yielding state. -/
  yielding : Bool
  deriving DecidableEq, Repr

/-! ## Dial Store (10_the_dial_store_and_supply_failure.md) -/

/-- R186: a dial position (none = UNSET) and polarity in a snapshot. -/
structure DialReading where
  dial : Option Nat
  polarity : Polarity
  deriving DecidableEq, Repr

/-- R186: a snapshot without its check; `time` is day and minute of day, none = UNSET. -/
structure Snapshot where
  sequence : Nat
  time : Option (Nat × Nat)
  dials : Vector DialReading 6
  deriving DecidableEq, Repr

/-- R186: a slot of the store: blank, or programmed with a snapshot and a check. -/
inductive StoreSlot where
  | blank
  | programmed (snapshot : Snapshot) (check : Byte)
  deriving DecidableEq, Repr

/-- R187: the activity of the store, with the expiry of the write or erase under way. -/
inductive Activity where
  | idle
  | writing (snapshot : Snapshot) (ends : Nat)
  | erasing (ends : Nat)
  deriving DecidableEq, Repr

/-- R192: the supply state. -/
inductive SupplyState where
  | run
  | holdUp
  deriving DecidableEq, Repr

/-- The Dial Store with the supply monitor. -/
structure DialStore where
  pages : Vector (Vector StoreSlot 32) 2
  /-- R187: the write position. -/
  page : Fin 2
  /-- R187: 0 to 32. -/
  next : Nat
  lastSequence : Option Nat
  /-- R187: day and minute of the last snapshot written (none inside = UNSET); none = none written. -/
  lastTime : Option (Option (Nat × Nat))
  activity : Activity
  /-- R189: the pending-snapshot flag. -/
  pendingSnapshot : Bool
  /-- R192. -/
  supply : SupplyState
  /-- R192: whether the supply monitor's warning is asserted. -/
  warning : Bool
  /-- R192: the clear timer's expiry, none = stopped. -/
  clearTimer : Option Nat
  /-- The MODEL's own: which value of Config.cutEraseSlot is read next (notes/assumptions/2.md). -/
  cutIndex : Nat
  deriving DecidableEq, Repr

/-! ## Settings Port (11_start_up_settings_port_and_display.md) -/

/-- R196: the config state. -/
inductive ConfigState where
  | loading
  | listening
  | running
  | configFault
  deriving DecidableEq, Repr

/-- R203: the fault codes of CONFIG-FAULT. -/
inductive FaultCode where
  | strapFault
  | configFault
  deriving DecidableEq, Repr

/-- R206: reset causes. -/
inductive ResetCause where
  | powerOn
  | resetInput
  | powerDip
  deriving DecidableEq, Repr

/-- R201: the kinds of a config warning. -/
inductive WarningKind where
  | clamped
  | defaulted
  | unusable
  deriving DecidableEq, Repr

/-- R201: a config warning. -/
structure Warning where
  kind : WarningKind
  sectionCode : Nat
  item : Byte
  deriving DecidableEq, Repr

/-- The Settings Port. -/
structure SettingsPort where
  config : ConfigState
  /-- R203: none outside CONFIG-FAULT. -/
  faultCode : Option FaultCode
  /-- R197: none before the straps are read and after a strap fault. -/
  number : Option Station
  /-- The configuration image as loaded. -/
  image : Option (List Byte)
  /-- R205: the held image CRC. -/
  imageCrc : Option Half
  /-- R201: the first eight warnings of the load, in load order. -/
  warnings : List Warning
  /-- R201: holds at 255. -/
  warningTotal : Nat
  cause : ResetCause
  /-- R198: CSC, on while the image is being read. -/
  csc : Bool
  /-- R207: CSD, on while a display word is being shifted. -/
  csd : Bool
  /-- R196: the end of LISTENING. -/
  listeningEnd : Option Nat
  /-- R207: the next display word, none = none is shifted. -/
  displayDue : Option Nat
  /-- R207: the last word shifted. -/
  displayWord : Option (BitVec 24)
  deriving DecidableEq, Repr

/-! ## The station -/

/-- The state of the part, and the queue of commands that wait (first in, first out). -/
structure State where
  /-- R192: the part has supply; false between a collapse and the next power-on. -/
  powered : Bool
  /-- R206: the RST input is asserted. -/
  rst : Bool
  tb : TimeBase
  ylc : YardLine
  pt : Vector PeerEntry 30
  du : DialUnit
  dsq : Sequencer
  za : ZoneArbiter
  bs : BellScheduler
  fu : FloorUnit
  dru : DrillUnit
  ds : DialStore
  sp : SettingsPort
  pending : List Instr
  deriving DecidableEq, Repr

/-! ## Reset values -/

/-- R22, power-on column; the agreement parameters stand at their defaults until the load. -/
def TimeBase.powerOn : TimeBase :=
  { fullTime := none, standing := .unset, timer := 0, beaconDue := none, heldBeacon := false,
    beaconInterval := 10, stepThreshold := 2000, slewLimit := 40 }

/-- R45: every count at 0. -/
def LinkCounts.zero : LinkCounts :=
  { goodFrames := 0, crcErrors := 0, unknownKinds := 0, queueDrops := 0, giveUps := 0, clashes := 0 }

/-- R46: the YLC after a reset that came at the station timer `seed`; `sendIndex` is the model's own. -/
def YardLine.afterReset (seed sendIndex : Nat) : YardLine :=
  { busy := true, queue := [], attempt := .none, heldAsks := [], receive := .hunt, stamp := none,
    counts := LinkCounts.zero, clash := false, invertNext := false, seed, drawIndex := 0, sendIndex }

/-- R57. -/
def peersAfterReset : Vector PeerEntry 30 := Vector.replicate 30 PeerEntry.absent

/-- A slot as it stands at a reset with the given position and polarity and no line bound (R58, R77). -/
def DialSlot.unbound (dial : Option Nat) (polarity : Polarity) : DialSlot :=
  { line := none, modulus := 720, dial, polarity, state := .stopped, difference := none,
    impulse := .none, lastStart := none, pendingSet := none }

/-- R77, power-on column with no valid snapshot; the parameters stand at their defaults (R60). -/
def DialUnit.powerOn : DialUnit :=
  { slots := Vector.replicate 6 (DialSlot.unbound none .neg), width := 600, spacing := 2000,
    holdWindow := 120 }

/-- R87: an idle player. -/
def Player.idle : Player := { state := .idle, pattern := none, phase := 0 }

/-- R100: a line after any reset, of the effective kind `kind`. -/
def LineRecord.afterReset (kind : LineKind) : LineRecord :=
  { kind, state := .off, cls := .unknown, sampleResult := none, sampleRun := 0, request := none,
    energizeEnd := none, player := Player.idle }

/-- R86: the default bell pattern. -/
def BellPattern.default : BellPattern := { w1 := 3000, gap := 1000, w2 := 0, repeats := 1 }

/-- R86: the default sounder pattern. -/
def SounderPattern.default : SounderPattern := { w1 := 1000, gap := 500, w2 := 1000, pause := 1500 }

/-- R86: the default chime pattern. -/
def BellPattern.chimeDefault : BellPattern := { w1 := 500, gap := 300, w2 := 800, repeats := 1 }

/-- R80: L1 to L16 in line order. -/
def defaultScanOrder : Vector LineId 16 := Vector.ofFn id

/-- R100; the configuration stands at its defaults until the load. -/
def Sequencer.afterReset : Sequencer :=
  { lines := Vector.replicate 16 (LineRecord.afterReset .unused), budget := 4, stagger := 100,
    exclusion := 0, scanOrder := defaultScanOrder,
    bellPatterns := Vector.replicate 8 BellPattern.default, sounderPattern := SounderPattern.default,
    chimePattern := BellPattern.chimeDefault, lastGrant := none, chime := .idle, locked := none,
    pointer := none, nextSlot := none }

/-- R120: a zone with no lines, IDLE. -/
def Zone.afterReset : Zone :=
  { bellLine := none, pageLine := none, sounderLine := none, owner := none, stack := [],
    deferred := none, cutBell := none, bellStarted := false, sounderOn := false, pageOn := false }

/-- R120. -/
def ZoneArbiter.afterReset : ZoneArbiter :=
  { zones := Vector.replicate 8 Zone.afterReset, trunkSelect := false }

/-- R121: the default entry. -/
def BellEntry.default : BellEntry := { timeOfDay := 0, zones := 0, pattern := 0 }

/-- R139, power-on column, before an image is loaded: no list, no plans, no plan day. -/
def BellScheduler.powerOn : BellScheduler :=
  { entries := Vector.replicate 128 BellEntry.default, plans := Vector.replicate 8 { base := 0, count := 0 },
    weekday := Vector.replicate 7 .noBell, lateLimit := 30, planDay := none, activePlan := none,
    source := .weekdayMap, overrides := [], shifts := [], marks := [], taken := [], missed := 0 }

/-- R141: a key record with every field at its default. -/
def PageKey.default : PageKey := { cls := .general, window := 400, holdLimit := 120, targets := [] }

/-- R142: a key that is not held, right after a reset. -/
def KeyInput.open : KeyInput := { armed := false, held := false, refusalEnd := none }

/-- R142: a key after a reset: not armed, and held or not as it was. -/
def KeyInput.afterReset (i : KeyInput) : KeyInput := { KeyInput.open with held := i.held }

/-- R162; the claim counter and the keys as they stood are given. -/
def FloorUnit.afterReset (counter : Byte) (inputs : Vector KeyInput 4) : FloorUnit :=
  { keys := Vector.replicate 4 PageKey.default, inputs := inputs.map KeyInput.afterReset,
    readyWait := 1500, view := none, claims := [], own := none, counter, micLive := false }

/-- R185; the drill number counter is given. -/
def DrillUnit.afterReset (counter : Byte) : DrillUnit :=
  { record := none, counter, evacuationLimit := 600, soundLimit := 180, schoolWide := false,
    drillArmed := false, musterArmed := false, contact := false, peerCause := false, yielding := false }

/-- R195 over two blank pages (R190, no valid slot). -/
def DialStore.blank : DialStore :=
  { pages := Vector.replicate 2 (Vector.replicate 32 .blank), page := 0, next := 0, lastSequence := none,
    lastTime := none, activity := .idle, pendingSnapshot := false, supply := .run, warning := false,
    clearTimer := none, cutIndex := 0 }

/-- R208; the straps are not yet read. -/
def SettingsPort.afterReset (cause : ResetCause) (imageCrc : Option Half) : SettingsPort :=
  { config := .loading, faultCode := none, number := none, image := none, imageCrc, warnings := [],
    warningTotal := 0, cause, csc := false, csd := false, listeningEnd := none, displayDue := none, displayWord := none }

/-- The part right after a power-on reset over a blank dial store, held by the RST input before the straps
are read (R206: LOADING waits for the release), with no command waiting. -/
def State.reset : State :=
  { powered := true, rst := true, tb := TimeBase.powerOn, ylc := YardLine.afterReset 0 0,
    pt := peersAfterReset, du := DialUnit.powerOn, dsq := Sequencer.afterReset,
    za := ZoneArbiter.afterReset, bs := BellScheduler.powerOn, fu := FloorUnit.afterReset 0 (Vector.replicate 4 KeyInput.open),
    dru := DrillUnit.afterReset 0, ds := DialStore.blank, sp := SettingsPort.afterReset .powerOn none,
    pending := [] }

end Sys2Proof.Machine
end

