-- ==== Sys2Proof/Machine/Operands.lean ====
section
/-! DEFINITION. The operand forms of the part: names read from a byte, sets and masks, coded values, and
school time as day and milliseconds of day (00_scope.md, Conventions). -/

namespace Sys2Proof.Machine

/-! ## Names -/

/-- A station named by a byte: 1–30, and nothing else (Conventions, Frame fields). -/
def stationOfByte (b : Byte) : Option Station :=
  if h : 1 ≤ b.toNat ∧ b.toNat ≤ 30 then some ⟨b.toNat - 1, by omega⟩ else none

/-- The number of a station. -/
def stationNumber (n : Station) : Nat := n.val + 1

/-- The byte that carries a station number. -/
def stationByte (n : Station) : Byte := BitVec.ofNat 8 (stationNumber n)

/-- A line named by a code 1–16, and nothing else. -/
def lineOfCode (c : Nat) : Option LineId :=
  if h : 1 ≤ c ∧ c ≤ 16 then some ⟨c - 1, by omega⟩ else none

/-- The code 1–16 of a line. -/
def lineCode (l : LineId) : Nat := l.val + 1

/-- A target field names this station: the own number, or 31 for all stations (R40). -/
def targetsOwn (own : Option Station) (target : Byte) : Bool :=
  target == 31#8 || (own.isSome && stationOfByte target == own)

/-! ## Sets and masks -/

/-- The set that holds one station. -/
def stationSet (n : Station) : StationSet := 1#32 <<< stationNumber n

/-- The station is a member of the set. -/
def inSet (set : StationSet) (n : Station) : Bool := set.getLsbD (stationNumber n)

/-- R49, R170: positions 0 and 31 taken clear. -/
def legalSet (set : StationSet) : StationSet := set &&& 0x7FFFFFFE#32

/-- `a` is a subset of `b`. -/
def subset (a b : StationSet) : Bool := a &&& b == a

/-- The zone is named by the mask. -/
def inZones (mask : ZoneMask) (z : ZoneId) : Bool := mask.getLsbD z.val

/-- The mask of one zone. -/
def zoneBit (z : ZoneId) : ZoneMask := 1#8 <<< z.val

/-- The line is named by the mask. -/
def inLines (mask : LineMask) (l : LineId) : Bool := mask.getLsbD l.val

/-- The mask of one line. -/
def lineBit (l : LineId) : LineMask := 1#16 <<< l.val

/-- Every line, in ascending line order. -/
def allLines : List LineId := List.finRange 16

/-- Every zone, Z1 first. -/
def allZones : List ZoneId := List.finRange 8

/-- Every station number, 1 first. -/
def allStations : List Station := List.finRange 30

/-- Every dial slot, slot 1 first. -/
def allSlots : List SlotId := List.finRange 6

/-- Every page key, K1 first. -/
def allKeys : List KeyId := List.finRange 4

/-- The set of the stations that `p` holds of. -/
def stationsWith (p : Station → Bool) : StationSet :=
  allStations.foldl (fun set n => if p n then set ||| stationSet n else set) 0

/-- The mask of the lines that `p` holds of. -/
def linesWith (p : LineId → Bool) : LineMask :=
  allLines.foldl (fun mask l => if p l then mask ||| lineBit l else mask) 0

/-- The zones of a mask, Z1 first. -/
def zonesOf (mask : ZoneMask) : List ZoneId := allZones.filter (inZones mask)

/-- How many zones a mask names. -/
def zoneCount (mask : ZoneMask) : Nat := (zonesOf mask).length

/-! ## Coded values -/

/-- R9: a standing code above 3 is taken as UNSET. -/
def standingOfByte (b : Byte) : Standing :=
  if b == 1#8 then .free else if b == 2#8 then .agreed else if b == 3#8 then .reference else .unset

/-- The code of a standing. -/
def standingCode : Standing → Nat
  | .unset => 0
  | .free => 1
  | .agreed => 2
  | .reference => 3

/-- R49, R148: a class code above 1 is taken as URGENT. -/
def classOfByte (b : Byte) : FloorClass := if b == 0#8 then .general else .urgent

/-- The code of a class. -/
def classByte : FloorClass → Byte
  | .general => 0
  | .urgent => 1

/-- R144: a class at or above another. -/
def classAtOrAbove : FloorClass → FloorClass → Bool
  | .urgent, _ => true
  | .general, .general => true
  | .general, .urgent => false

/-- R49: a drill phase byte 1–5. -/
def phaseOfByte (b : Byte) : Option DrillPhase :=
  if b == 1#8 then some .sounding else if b == 2#8 then some .evacuating
  else if b == 3#8 then some .overdue else if b == 4#8 then some .mustered
  else if b == 5#8 then some .ended else none

/-- The code of a drill phase. -/
def phaseCode : DrillPhase → Nat
  | .sounding => 1
  | .evacuating => 2
  | .overdue => 3
  | .mustered => 4
  | .ended => 5

/-- R163: the running phases. -/
def DrillPhase.running : DrillPhase → Bool
  | .sounding | .evacuating | .overdue => true
  | .mustered | .ended => false

/-- R177: a DRILL-END reason code. -/
def endReasonOfByte (b : Byte) : EndReason := if b == 2#8 then .yield else .manual

/-- The code of an end reason. -/
def endReasonByte : EndReason → Byte
  | .manual => 1
  | .yield => 2

/-- R125: a DAYPLAN plan code 0–7 or 15. -/
def planOfCode (c : Nat) : Option PlanCode :=
  if h : c < 8 then some (.plan ⟨c, h⟩) else if c = 15 then some .noBell else none

/-- The code of a plan. -/
def planCodeNat : PlanCode → Nat
  | .plan p => p.val
  | .noBell => 15

/-- The opposite polarity. -/
def Polarity.opposite : Polarity → Polarity
  | .pos => .neg
  | .neg => .pos

/-- R96: the class a sample result gives. -/
def classOfSense : SenseResult → LineClass
  | .normal => .normal
  | .opened => .opened
  | .shorted => .shorted

/-- R79: OPEN or SHORT. -/
def LineClass.faulted : LineClass → Bool
  | .opened | .shorted => true
  | .unknown | .normal => false

/-- R83: the kinds counted against the drive budget. -/
def LineKind.counted : LineKind → Bool
  | .bell | .sounder | .clock => true
  | .unused | .page | .chime => false

/-- R82: SOUNDER before BELL before CLOCK. -/
def RequestClass.rank : RequestClass → Nat
  | .sounder => 0
  | .bell => 1
  | .clock => 2

/-- R102: the levels in order. -/
def Level.rank : Level → Nat
  | .idle => 0
  | .bell => 1
  | .pageGeneral => 2
  | .drill => 3
  | .pageUrgent => 4
  | .yield => 5

/-- R102: the level a floor of a class takes. -/
def FloorClass.level : FloorClass → Level
  | .general => .pageGeneral
  | .urgent => .pageUrgent

/-- R102: the level an owner takes. -/
def Owner.level : Owner → Level
  | .bell _ => .bell
  | .floor _ _ c => c.level
  | .drill _ _ => .drill
  | .yield => .yield

/-- R102: the current level of a zone. -/
def Zone.level (z : Zone) : Level :=
  match z.owner with
  | none => .idle
  | some o => o.level

/-- R117: a page level. -/
def Level.isPage : Level → Bool
  | .pageGeneral | .pageUrgent => true
  | .idle | .bell | .drill | .yield => false

/-- R102: the owner is the floor of this holder and claim number. -/
def Owner.isFloor (holder : Station) (number : Byte) : Owner → Bool
  | .floor h n _ => h == holder && n == number
  | .bell _ | .drill _ _ | .yield => false

/-- R102: the owner is a floor. -/
def Owner.anyFloor : Owner → Bool
  | .floor _ _ _ => true
  | .bell _ | .drill _ _ | .yield => false

/-- R102: the owner is the drill of this reference. -/
def Owner.isDrill (initiator : Station) (number : Byte) : Owner → Bool
  | .drill i n => i == initiator && n == number
  | .bell _ | .floor _ _ _ | .yield => false

/-- R102: the owner is a drill. -/
def Owner.anyDrill : Owner → Bool
  | .drill _ _ => true
  | .bell _ | .floor _ _ _ | .yield => false

/-- The target a CLAIM's pair names: 1–30, or 31 for all; any other station field names nothing (R148). -/
def targetOfPair (p : Byte × ZoneMask) : Option Target :=
  if p.1 == 31#8 then some { station := .all, zones := p.2 }
  else (stationOfByte p.1).map fun n => { station := .one n, zones := p.2 }

/-- The pair a CLAIM carries for a target: 31 is carried as 31 (R146). -/
def Target.pair (t : Target) : Byte × ZoneMask :=
  match t.station with
  | .all => (31#8, t.zones)
  | .one n => (stationByte n, t.zones)

/-- R145, R152: the zones of this station that a target list names. -/
def zonesTargeted (own : Option Station) (targets : List Target) : ZoneMask :=
  targets.foldl (fun mask t =>
    match t.station with
    | .all => mask ||| t.zones
    | .one n => if own = some n then mask ||| t.zones else mask) 0

/-! ## School time -/

/-- R1: full time from a day number and milliseconds of day. -/
def fullTimeOf (day ms : Nat) : Nat := day * Config.dayMs + ms

/-- The day number of a full time. -/
def dayOf (t : Nat) : Nat := t / Config.dayMs

/-- The milliseconds of day of a full time. -/
def msOfDay (t : Nat) : Nat := t % Config.dayMs

/-- The minute of day of a full time. -/
def minuteOfDay (t : Nat) : Nat := msOfDay t / 60000

/-- R9, R49, R170: a millisecond-of-day field above 86,399,999 takes that value. -/
def legalMs (ms : Nat) : Nat := min ms 86399999

/-- R10, R16: saturation of an offset sample. -/
def saturateSample (o : Int) : Int := clampInt (-Config.sampleLimit) Config.sampleLimit o

end Sys2Proof.Machine
end

