-- ==== Sys2Proof/Machine/Flags.lean ====
section
/-! DEFINITION. Counts that hold at their top, and the flag bytes the frames carry. -/

namespace Sys2Proof.Machine

/-- R45, R136: a 16-bit count holds at 65,535. -/
def countUp (n by_ : Nat) : Nat := min 65535 (n + by_)

/-- R201: the warning total holds at 255. -/
def warningCountUp (n : Nat) : Nat := min 255 (n + 1)

/-- The flags byte of a BEACON: yielding, config fault, line fault present. -/
def beaconFlags (yielding configFault lineFault : Bool) : Byte :=
  (if yielding then 1#8 else 0#8) ||| (if configFault then 2#8 else 0#8) |||
    (if lineFault then 4#8 else 0#8)

/-- The flags byte of the GENERAL page: clash flag, yielding. -/
def generalFlags (clash yielding : Bool) : Byte :=
  (if clash then 1#8 else 0#8) ||| (if yielding then 2#8 else 0#8)

/-- A good frame is counted (R38). -/
def YardLine.countGood (y : YardLine) : YardLine :=
  { y with counts := { y.counts with goodFrames := countUp y.counts.goodFrames 1 } }

/-- A frame discarded for framing, length or CRC is counted (R38). -/
def YardLine.countCrcError (y : YardLine) : YardLine :=
  { y with counts := { y.counts with crcErrors := countUp y.counts.crcErrors 1 } }

/-- A frame of an unknown kind is counted (R38). -/
def YardLine.countUnknown (y : YardLine) : YardLine :=
  { y with counts := { y.counts with unknownKinds := countUp y.counts.unknownKinds 1 } }

/-- A frame reported DROPPED at a full queue is counted (R30). -/
def YardLine.countDrop (y : YardLine) : YardLine :=
  { y with counts := { y.counts with queueDrops := countUp y.counts.queueDrops 1 } }

/-- A frame removed after its eighth collision is counted (R34). -/
def YardLine.countGiveUp (y : YardLine) : YardLine :=
  { y with counts := { y.counts with giveUps := countUp y.counts.giveUps 1 } }

/-- R39: a station clash is counted and the clash flag set. -/
def YardLine.noteClash (y : YardLine) : YardLine :=
  { y with counts := { y.counts with clashes := countUp y.counts.clashes 1 }, clash := true }

end Sys2Proof.Machine
end

