-- ==== Sys2Proof/Machine/Crc.lean ====
section
/-! DEFINITION. The two checks of the part: CRC-16 of frames and images (R25) and CRC-8 of snapshots
(R186), and the byte order of wider fields. -/

namespace Sys2Proof.Machine

/-- A two-byte field, most significant byte first. -/
def bytes16 (n : Nat) : List Byte := [BitVec.ofNat 8 (n / 256), BitVec.ofNat 8 n]

/-- A four-byte field, most significant byte first. -/
def bytes32 (n : Nat) : List Byte :=
  [BitVec.ofNat 8 (n / 16777216), BitVec.ofNat 8 (n / 65536), BitVec.ofNat 8 (n / 256), BitVec.ofNat 8 n]

/-- The number a list of bytes spells, most significant byte first. -/
def natOfBytes (bs : List Byte) : Nat := bs.foldl (fun n b => n * 256 + b.toNat) 0

/-- One bit shift of the CRC-16 register, polynomial x^16 + x^12 + x^5 + 1. -/
def crc16Bit (reg : Half) : Half := if reg.msb then (reg <<< 1) ^^^ 0x1021#16 else reg <<< 1

/-- One byte into the CRC-16 register, most significant bit first. -/
def crc16Byte (reg : Half) (b : Byte) : Half :=
  let r := reg ^^^ (b.zeroExtend 16 <<< 8)
  crc16Bit (crc16Bit (crc16Bit (crc16Bit (crc16Bit (crc16Bit (crc16Bit (crc16Bit r)))))))

/-- R25: the CRC-16 of a run of bytes; the register starts at 0xFFFF, with no final inversion. -/
def crc16 (bs : List Byte) : Half := bs.foldl crc16Byte 0xFFFF#16

/-- One bit shift of the CRC-8 register, polynomial x^8 + x^2 + x + 1. -/
def crc8Bit (reg : Byte) : Byte := if reg.msb then (reg <<< 1) ^^^ 0x07#8 else reg <<< 1

/-- One byte into the CRC-8 register. -/
def crc8Byte (reg b : Byte) : Byte :=
  crc8Bit (crc8Bit (crc8Bit (crc8Bit (crc8Bit (crc8Bit (crc8Bit (crc8Bit (reg ^^^ b))))))))

/-- R186: the CRC-8 of a run of bytes; the initial value is all ones. -/
def crc8 (bs : List Byte) : Byte := bs.foldl crc8Byte 0xFF#8

/-- The bytes of a dial reading in a snapshot (0xFFFF = UNSET; 0 = POS, 1 = NEG): the layout is the
model's (notes/assumptions/4.md). -/
def DialReading.bytes (r : DialReading) : List Byte :=
  bytes16 (r.dial.getD 65535) ++ [match r.polarity with | .pos => 0#8 | .neg => 1#8]

/-- The bytes the check of a snapshot is formed over, field by field in the order of R186's table. -/
def Snapshot.bytes (p : Snapshot) : List Byte :=
  bytes16 p.sequence ++
  (match p.time with
   | none => bytes16 65535 ++ bytes16 65535
   | some (day, minute) => bytes16 day ++ bytes16 minute) ++
  (p.dials.toList.map DialReading.bytes).flatten

/-- R186: the snapshot a slot holds, when its check agrees. -/
def StoreSlot.valid? : StoreSlot → Option Snapshot
  | .blank => none
  | .programmed p check => if check = crc8 p.bytes then some p else none

/-- R186: a slot that has been written, valid or not. -/
def StoreSlot.isProgrammed : StoreSlot → Bool
  | .blank => false
  | .programmed _ _ => true

/-- A slot whose write ran to its end. -/
def StoreSlot.written (p : Snapshot) : StoreSlot := .programmed p (crc8 p.bytes)

/-- R191: a slot whose write was cut: programmed and not valid. -/
def StoreSlot.cut (p : Snapshot) : StoreSlot := .programmed p (~~~ crc8 p.bytes)

end Sys2Proof.Machine
end

