-- ==== Sys2Proof/Machine/Ops.lean ====
section
/-! DEFINITION. The operations every block shares: where the station stands (its start-up and supply
state), and the one place each table of records is written. -/

namespace Sys2Proof.Machine

/-! ## Where the station stands -/

/-- The part has supply and is not held in reset (R192, R206). -/
def State.up (s : State) : Bool := s.powered && !s.rst

/-- RUNNING, with supply state RUN. -/
def State.running (s : State) : Bool := s.sp.config == .running && s.ds.supply == .run

/-- LISTENING, with supply state RUN. -/
def State.listening (s : State) : Bool := s.sp.config == .listening && s.ds.supply == .run

/-- LOADING, with supply state RUN. -/
def State.loading (s : State) : Bool := s.sp.config == .loading && s.ds.supply == .run

/-- LISTENING or RUNNING, with supply state RUN. -/
def State.taking (s : State) : Bool := s.listening || s.running

/-- Config state LISTENING or RUNNING, in either supply state. -/
def State.loaded (s : State) : Bool := s.sp.config == .listening || s.sp.config == .running

/-- CONFIG-FAULT with valid straps. -/
def State.faultValid (s : State) : Bool := s.sp.config == .configFault && s.sp.number.isSome

/-- R40: the station states in which the PT takes frames. -/
def State.delivers (s : State) : Bool := s.loaded || s.faultValid

/-- The station timer at this moment (R2). -/
def State.now (s : State) : Nat := s.tb.timer

/-- School time at this moment, as full time (R19). -/
def State.school (s : State) : Option Nat := s.tb.fullTime

/-- The own station number. -/
def State.own (s : State) : Option Station := s.sp.number

/-- B in ms. -/
def State.beaconMs (s : State) : Nat := s.tb.beaconInterval * 1000

/-- An expiry that has been reached. -/
def reached (due : Option Nat) (now : Nat) : Bool :=
  match due with
  | none => false
  | some t => t ≤ now

/-- `f` on a station that is up; a part without supply or held in reset takes no event. -/
def whenUp (f : State → State) (s : State) : State := if s.up then f s else s

/-! ## Writing the tables -/

/-- The record of a line. -/
def State.line (s : State) (l : LineId) : LineRecord := s.dsq.lines[l]

/-- One line record rewritten. -/
def State.setLine (s : State) (l : LineId) (r : LineRecord) : State :=
  { s with dsq := { s.dsq with lines := s.dsq.lines.set l r } }

/-- The record of a zone. -/
def State.zone (s : State) (z : ZoneId) : Zone := s.za.zones[z]

/-- One zone record rewritten. -/
def State.setZone (s : State) (z : ZoneId) (r : Zone) : State :=
  { s with za := { s.za with zones := s.za.zones.set z r } }

/-- The record of a dial slot. -/
def State.slot (s : State) (i : SlotId) : DialSlot := s.du.slots[i]

/-- One dial slot rewritten. -/
def State.setSlot (s : State) (i : SlotId) (r : DialSlot) : State :=
  { s with du := { s.du with slots := s.du.slots.set i r } }

/-- The Peer Table entry of a station. -/
def State.peer (s : State) (n : Station) : PeerEntry := s.pt[n]

/-- One Peer Table entry rewritten. -/
def State.setPeer (s : State) (n : Station) (e : PeerEntry) : State := { s with pt := s.pt.set n e }

/-- The counted level of a page key. -/
def State.key (s : State) (k : KeyId) : KeyInput := s.fu.inputs[k]

/-- One page key's counted level rewritten. -/
def State.setKey (s : State) (k : KeyId) (i : KeyInput) : State :=
  { s with fu := { s.fu with inputs := s.fu.inputs.set k i } }

/-- `f` for each item of a list, in order. -/
def forEach {α : Type} (items : List α) (f : α → State → State) (s : State) : State :=
  items.foldl (fun t a => f a t) s

/-! ## Time Base -/

/-- R54: the numbers of the PRESENT entries that `p` holds of. -/
def State.presentWith (s : State) (p : PeerEntry → Bool) : StationSet :=
  stationsWith fun n => (s.peer n).state == .present && p (s.peer n)

/-- R54: the present set. -/
def State.presentSet (s : State) : StationSet := s.presentWith fun _ => true

/-- R54: the target set. -/
def State.targetSet (s : State) : StationSet := s.presentWith fun e => !e.configFault

/-- R55: the peer yield set. -/
def State.peerYieldSet (s : State) : StationSet := s.presentWith fun e => e.yielding

/-! ## Drive lines -/

/-- R83: the energized count. -/
def State.energizedCount (s : State) : Nat :=
  (allLines.filter fun l => (s.line l).kind.counted && (s.line l).state == .energized).length

/-- R98: the line fault mask. -/
def State.faultMask (s : State) : LineMask := linesWith fun l => (s.line l).cls.faulted

/-! ## Drills -/

/-- R163: a drill is running. -/
def State.drillRunning (s : State) : Bool :=
  match s.dru.record with
  | none => false
  | some r => r.phase.running

/-- R163: the elapsed time in ms, 0 while the start lies ahead or school time is UNSET. -/
def DrillRecord.elapsedMs (r : DrillRecord) (school : Option Nat) : Nat :=
  match school with
  | none => 0
  | some t => t - r.start

/-- R163: the elapsed seconds. -/
def DrillRecord.elapsed (r : DrillRecord) (school : Option Nat) : Nat := r.elapsedMs school / 1000

end Sys2Proof.Machine
end

