-- ==== Sys2Proof/Machine/Frames.lean ====
section
/-! DEFINITION. The yard line formats (02_the_yard_line.md, R24, R25, R38 and 2.11): the bytes of each body,
the characters of a frame sent, the checks on a complete frame received, and the command a good frame is. -/

namespace Sys2Proof.Machine

/-! ## Fields -/

/-- A two-byte field on the wire. -/
def halfBytes (h : Half) : List Byte := [h.extractLsb' 8 8, h.extractLsb' 0 8]

/-- A four-byte field on the wire. -/
def quadBytes (q : Quad) : List Byte :=
  [q.extractLsb' 24 8, q.extractLsb' 16 8, q.extractLsb' 8 8, q.extractLsb' 0 8]

/-- The byte at an offset of a body (0 past its end). -/
def byteAt (body : List Byte) (i : Nat) : Byte := body.getD i 0

/-- The two-byte field at an offset of a body. -/
def halfAt (body : List Byte) (i : Nat) : Half := byteAt body i ++ byteAt body (i + 1)

/-- The four-byte field at an offset of a body. -/
def quadAt (body : List Byte) (i : Nat) : Quad :=
  byteAt body i ++ byteAt body (i + 1) ++ byteAt body (i + 2) ++ byteAt body (i + 3)

/-! ## Bodies -/

/-- The BEACON body, 36 bytes. -/
def beaconBytes (b : BeaconBody) : List Byte :=
  halfBytes b.stampDay ++ quadBytes b.stampMs ++ [b.standing, b.flags, b.floorHolder, b.floorNumber,
    b.floorClass] ++ halfBytes b.holdRemaining ++ [b.drillInitiator, b.drillNumber] ++
  halfBytes b.drillStartDay ++ quadBytes b.drillStartMs ++ [b.drillPhase] ++ halfBytes b.evacuationLimit ++
  halfBytes b.soundLimit ++ quadBytes b.expectedSet ++ quadBytes b.reportedSet ++ halfBytes b.ownMuster

/-- The BEACON body read back. -/
def beaconOfBytes (b : List Byte) : BeaconBody :=
  { stampDay := halfAt b 0, stampMs := quadAt b 2, standing := byteAt b 6, flags := byteAt b 7,
    floorHolder := byteAt b 8, floorNumber := byteAt b 9, floorClass := byteAt b 10,
    holdRemaining := halfAt b 11, drillInitiator := byteAt b 13, drillNumber := byteAt b 14,
    drillStartDay := halfAt b 15, drillStartMs := quadAt b 17, drillPhase := byteAt b 21,
    evacuationLimit := halfAt b 22, soundLimit := halfAt b 24, expectedSet := quadAt b 26,
    reportedSet := quadAt b 30, ownMuster := halfAt b 34 }

/-- The CLAIM body, 7 + 2 × target count bytes. -/
def claimBytes (b : ClaimBody) : List Byte :=
  [b.number, b.cls] ++ halfBytes b.window ++ halfBytes b.holdLimit ++
  [BitVec.ofNat 8 b.targets.length] ++ b.targets.flatMap fun t => [t.1, t.2]

/-- The (station, zone mask) pairs of a CLAIM's target list. -/
def pairsOf : List Byte → List (Byte × ZoneMask)
  | a :: b :: rest => (a, b) :: pairsOf rest
  | _ => []

/-- The CLAIM body read back. -/
def claimOfBytes (b : List Byte) : ClaimBody :=
  { number := byteAt b 0, cls := byteAt b 1, window := halfAt b 2, holdLimit := halfAt b 4,
    targets := pairsOf (b.drop 7) }

/-- The DRILL-START body, 15 bytes. -/
def drillStartBytes (b : DrillStartBody) : List Byte :=
  [b.number] ++ halfBytes b.startDay ++ quadBytes b.startMs ++ halfBytes b.evacuationLimit ++
  halfBytes b.soundLimit ++ quadBytes b.expectedSet

/-- The DRILL-START body read back. -/
def drillStartOfBytes (b : List Byte) : DrillStartBody :=
  { number := byteAt b 0, startDay := halfAt b 1, startMs := quadAt b 3, evacuationLimit := halfAt b 7,
    soundLimit := halfAt b 9, expectedSet := quadAt b 11 }

/-! ## Kinds -/

/-- The kinds table: the classes of R27, A served first. -/
def OutFrame.classRank : OutFrame → Nat
  | .yield _ | .drillStart _ | .drillEnd _ _ _ | .silence _ _ => 0
  | .claim _ | .object _ _ _ | .ready _ _ _ _ | .release _ _ | .muster _ _ _ => 1
  | .beacon => 2
  | .statusReply _ _ => 3

/-- The kinds table: the code of a frame the station sends. -/
def OutFrame.kind : OutFrame → Byte
  | .beacon => 0x01
  | .claim _ => 0x21
  | .object _ _ _ => 0x22
  | .ready _ _ _ _ => 0x23
  | .release _ _ => 0x24
  | .drillStart _ => 0x31
  | .silence _ _ => 0x32
  | .muster _ _ _ => 0x33
  | .drillEnd _ _ _ => 0x34
  | .yield _ => 0x35
  | .statusReply _ _ => 0x52

/-- The body bytes of a frame that carries its body in the queue (R27). -/
def OutFrame.ownBody : OutFrame → List Byte
  | .beacon => []
  | .statusReply _ _ => []
  | .claim b => claimBytes b
  | .object claimant number reason => [stationByte claimant, number, reason]
  | .ready holder number readyMask refusedMask => [stationByte holder, number, readyMask, refusedMask]
  | .release number reason => [number, reason]
  | .drillStart b => drillStartBytes b
  | .silence initiator number => [stationByte initiator, number]
  | .muster initiator number elapsed => [stationByte initiator, number] ++ halfBytes elapsed
  | .drillEnd initiator number reason => [stationByte initiator, number, reason]
  | .yield state => [state]

/-! ## Frames -/

/-- The checked part of a frame: kind, sender, length and body (R25). -/
def checkedPart (kind sender : Byte) (body : List Byte) : List Byte :=
  [kind, sender, BitVec.ofNat 8 body.length] ++ body

/-- R24, R25: the characters of a frame; an inverted STATUS-REPLY carries the complement of its CRC. -/
def frameChars (kind sender : Byte) (body : List Byte) (inverted : Bool) : List Byte :=
  let part := checkedPart kind sender body
  let crc := crc16 part
  [0x55, 0x55, 0xD3] ++ part ++ halfBytes (if inverted then ~~~ crc else crc)

/-- R38: the body length of a kind that has a fixed one. -/
def fixedLength (kind : Byte) : Option Nat :=
  if kind == 0x01#8 then some 36 else if kind == 0x11#8 then some 3 else if kind == 0x12#8 then some 6
  else if kind == 0x22#8 then some 3 else if kind == 0x23#8 then some 4 else if kind == 0x24#8 then some 2
  else if kind == 0x31#8 then some 15 else if kind == 0x32#8 then some 2
  else if kind == 0x33#8 then some 4 else if kind == 0x34#8 then some 3 else if kind == 0x35#8 then some 1
  else if kind == 0x41#8 then some 4 else if kind == 0x51#8 then some 2 else if kind == 0x5F#8 then some 3
  else none

/-- R38, check 3: the kind is one of the codes in the formats section. -/
def kindKnown (kind : Byte) : Bool := (fixedLength kind).isSome || kind == 0x21#8 || kind == 0x52#8

/-- R38, check 4: the body's length agrees with the kind. -/
def lengthAgrees (kind : Byte) (body : List Byte) : Bool :=
  if kind == 0x21#8 then
    let t := (byteAt body 6).toNat
    1 ≤ t && t ≤ 8 && body.length == 7 + 2 * t
  else if kind == 0x52#8 then 2 ≤ body.length && body.length ≤ 64
  else fixedLength kind == some body.length

/-- The fate of a complete frame (R38). -/
inductive FrameVerdict where
  | crcError
  | unknownKind
  | clash
  | good
  deriving DecidableEq, Repr

/-- R38: the checks on a complete frame `frame` (kind byte to last CRC byte), in their order. -/
def frameVerdict (own : Option Station) (frame : List Byte) : FrameVerdict :=
  let n := frame.length
  let part := frame.take (n - 2)
  let body := part.drop 3
  if n < 5 || 69 < n || (byteAt frame 2).toNat + 5 != n then .crcError
  else if halfAt frame (n - 2) != crc16 part then .crcError
  else if !kindKnown (byteAt frame 0) then .unknownKind
  else if !lengthAgrees (byteAt frame 0) body then .crcError
  else if own.isSome && stationOfByte (byteAt frame 1) == own then .clash
  else .good

/-- The sections of the kinds table: the command that a frame of a kind, a sender and a body is. -/
def commandOfBody (kind sender : Byte) (b : List Byte) : Option Instr :=
  if kind == 0x01#8 then some (.beacon sender (beaconOfBytes b))
  else if kind == 0x11#8 then
    if byteAt b 2 == 14#8 then some (.removeOverride sender (halfAt b 0))
    else some (.dayplan sender (halfAt b 0) (byteAt b 2))
  else if kind == 0x12#8 then
    if byteAt b 2 == 2#8 then some (.cancel sender (halfAt b 0) (byteAt b 3) (byteAt b 4))
    else if byteAt b 2 == 3#8 then some (.clearAll sender (halfAt b 0))
    else some (.shift sender (halfAt b 0) (byteAt b 2) (byteAt b 3) (byteAt b 4) (byteAt b 5))
  else if kind == 0x21#8 then some (.claim sender (claimOfBytes b))
  else if kind == 0x22#8 then some (.object sender (byteAt b 0) (byteAt b 1) (byteAt b 2))
  else if kind == 0x23#8 then some (.ready sender (byteAt b 0) (byteAt b 1) (byteAt b 2) (byteAt b 3))
  else if kind == 0x24#8 then some (.release sender (byteAt b 0) (byteAt b 1))
  else if kind == 0x31#8 then some (.drillStart sender (drillStartOfBytes b))
  else if kind == 0x32#8 then some (.silence sender (byteAt b 0) (byteAt b 1))
  else if kind == 0x33#8 then some (.muster sender (byteAt b 0) (byteAt b 1) (halfAt b 2))
  else if kind == 0x34#8 then some (.drillEnd sender (byteAt b 0) (byteAt b 1) (byteAt b 2))
  else if kind == 0x35#8 then some (.yield sender (byteAt b 0))
  else if kind == 0x41#8 then some (.dialSet sender (byteAt b 0) (byteAt b 1) (halfAt b 2))
  else if kind == 0x51#8 then some (.statusAsk sender (byteAt b 0) (byteAt b 1))
  else if kind == 0x52#8 then some (.statusReply sender (byteAt b 0) (byteAt b 1) (b.drop 2))
  else if kind == 0x5F#8 then
    if byteAt b 1 == 2#8 then some (.lockSupervision sender (byteAt b 0) (byteAt b 2))
    else if byteAt b 1 == 3#8 then some (.unlock sender (byteAt b 0) (byteAt b 2))
    else some (.invertNextReply sender (byteAt b 0) (byteAt b 1) (byteAt b 2))
  else none

/-- The command that a complete frame is, when it passes checks 1 to 4 of R38. -/
def commandOfFrame (frame : List Byte) : Option Instr :=
  if frameVerdict none frame = .good then
    commandOfBody (byteAt frame 0) (byteAt frame 1) ((frame.take (frame.length - 2)).drop 3)
  else none

/-- The kind, sender and body of the frame that a received-frame command stands for. -/
def bodyOfCommand : Instr → Option (Byte × Byte × List Byte)
  | .beacon sender b => some (0x01, sender, beaconBytes b)
  | .dayplan sender day code => some (0x11, sender, halfBytes day ++ [code])
  | .removeOverride sender day => some (0x11, sender, halfBytes day ++ [14])
  | .shift sender day kind first last delta =>
      some (0x12, sender, halfBytes day ++ [kind, first, last, delta])
  | .cancel sender day first last => some (0x12, sender, halfBytes day ++ [2, first, last, 0])
  | .clearAll sender day => some (0x12, sender, halfBytes day ++ [3, 0, 0, 0])
  | .claim sender b => some (0x21, sender, claimBytes b)
  | .object sender claimant number reason => some (0x22, sender, [claimant, number, reason])
  | .ready sender holder number readyMask refusedMask =>
      some (0x23, sender, [holder, number, readyMask, refusedMask])
  | .release sender number reason => some (0x24, sender, [number, reason])
  | .drillStart sender b => some (0x31, sender, drillStartBytes b)
  | .silence sender initiator number => some (0x32, sender, [initiator, number])
  | .muster sender initiator number elapsed => some (0x33, sender, [initiator, number] ++ halfBytes elapsed)
  | .drillEnd sender initiator number reason => some (0x34, sender, [initiator, number, reason])
  | .yield sender state => some (0x35, sender, [state])
  | .dialSet sender target line position => some (0x41, sender, [target, line] ++ halfBytes position)
  | .statusAsk sender target page => some (0x51, sender, [target, page])
  | .statusReply sender asker page content => some (0x52, sender, [asker, page] ++ content)
  | .invertNextReply sender target action line => some (0x5F, sender, [target, action, line])
  | .lockSupervision sender target line => some (0x5F, sender, [target, 2, line])
  | .unlock sender target line => some (0x5F, sender, [target, 3, line])
  | _ => none

/-- The complete frame, kind byte to last CRC byte, that a received-frame command stands for. -/
def frameOfCommand (c : Instr) : Option (List Byte) :=
  (bodyOfCommand c).map fun (kind, sender, body) =>
    checkedPart kind sender body ++ halfBytes (crc16 (checkedPart kind sender body))

end Sys2Proof.Machine
end

