-- ==== Sys2Proof/Machine/Pages.lean ====
section
/-! DEFINITION. What the station shows: the remaining time of a drill (R179), the BEACON body (R6), the
status pages (R42, 2.11), the display word (R207) and its output lines. Everything here only reads State. -/

namespace Sys2Proof.Machine

/-! ## Remaining time -/

/-- R179: what a remaining time is shown as. -/
structure Remaining where
  overdue : Bool
  minutes : Bool
  count : Nat
  deriving DecidableEq, Repr

/-- R179: the value in seconds `v` as a unit and a count, rounded up. -/
def remainingOf (overdue : Bool) (v : Nat) : Remaining :=
  if v ≤ 595 then { overdue, minutes := false, count := (v + 4) / 5 }
  else { overdue, minutes := true, count := min 127 ((v + 59) / 60) }

/-- R179: the elapsed seconds a record's remaining time is taken from. -/
def DrillRecord.shownElapsed (r : DrillRecord) (school : Option Nat) : Nat :=
  if r.phase.running then r.elapsed school else r.finalElapsed.getD 0

/-- R179: the remaining time of a record. -/
def DrillRecord.remaining (r : DrillRecord) (school : Option Nat) : Remaining :=
  let e := r.shownElapsed school
  if e ≤ r.evacuationLimit then remainingOf false (r.evacuationLimit - e)
  else remainingOf true (e - r.evacuationLimit)

/-! ## BEACON -/

/-- R157: the hold remaining in seconds, rounded up, 0 when the hold end has passed. -/
def FloorView.holdRemaining (v : FloorView) (now : Nat) : Nat := (v.holdEnd - now + 999) / 1000

/-- R7: own school time at the delimiter of a transmission that begins now, two byte times (1.042 ms) on: it has
counted once by then, or twice (notes/assumptions/14.md). -/
def State.delimiterTime (s : State) : Option Nat :=
  s.school.map fun t => min (t + if Config.secondCount s.ylc.sendIndex then 2 else 1) Config.maxFullTime

/-- R6, R7, R157, R180: the body of an own BEACON, taken from its owners at this moment, the stamp at its
delimiter. -/
def State.beaconBody (s : State) : BeaconBody :=
  let stamp := s.delimiterTime
  let fault := s.sp.config == .configFault
  let view := if fault then none else s.fu.view
  let record := if fault then none else s.dru.record
  { stampDay := BitVec.ofNat 16 ((stamp.map dayOf).getD 0)
    stampMs := BitVec.ofNat 32 ((stamp.map msOfDay).getD 0)
    standing := BitVec.ofNat 8 (standingCode s.tb.standing)
    flags := beaconFlags (!fault && s.dru.contact) fault (!fault && s.faultMask != 0)
    floorHolder := (view.map fun v => stationByte v.holder).getD 0
    floorNumber := (view.map FloorView.number).getD 0
    floorClass := (view.map fun v => classByte v.cls).getD 0
    holdRemaining := BitVec.ofNat 16 ((view.map fun v => v.holdRemaining s.now).getD 0)
    drillInitiator := (record.map fun r => stationByte r.initiator).getD 0
    drillNumber := (record.map DrillRecord.number).getD 0
    drillStartDay := BitVec.ofNat 16 ((record.map fun r => dayOf r.start).getD 0)
    drillStartMs := BitVec.ofNat 32 ((record.map fun r => msOfDay r.start).getD 0)
    drillPhase := BitVec.ofNat 8 ((record.map fun r => phaseCode r.phase).getD 0)
    evacuationLimit := BitVec.ofNat 16 ((record.map DrillRecord.evacuationLimit).getD 0)
    soundLimit := BitVec.ofNat 16 ((record.map DrillRecord.soundLimit).getD 0)
    expectedSet := (record.map DrillRecord.expected).getD 0
    reportedSet := (record.map DrillRecord.reported).getD 0
    ownMuster :=
      match record, s.own with
      | some r, some n => BitVec.ofNat 16 (r.muster[n].getD 65535)
      | _, _ => 0xFFFF }

/-! ## Status pages -/

/-- The code of a reset cause (R206). -/
def causeCode : ResetCause → Nat
  | .powerOn => 0
  | .resetInput => 1
  | .powerDip => 2

/-- The code of a config state. -/
def configCode : ConfigState → Nat
  | .loading => 0
  | .listening => 1
  | .running => 2
  | .configFault => 3

/-- The kind code of a config warning (R201). -/
def warningKindCode : WarningKind → Nat
  | .clamped => 1
  | .defaulted => 2
  | .unusable => 3

/-- The two bytes of a config warning. -/
def Warning.bytes (w : Warning) : List Byte :=
  [BitVec.ofNat 8 (warningKindCode w.kind * 16 + w.sectionCode), w.item]

/-- Page 1, GENERAL. In CONFIG-FAULT bells missed today is 0 (R41). -/
def State.generalPage (s : State) : List Byte :=
  let c := s.ylc.counts
  [0x72, 0x16, 0x01, BitVec.ofNat 8 (standingCode s.tb.standing), BitVec.ofNat 8 (causeCode s.sp.cause),
    BitVec.ofNat 8 (configCode s.sp.config), generalFlags s.ylc.clash s.dru.yielding] ++
  bytes16 c.goodFrames ++ bytes16 c.crcErrors ++ bytes16 c.unknownKinds ++ bytes16 c.queueDrops ++
  bytes16 c.giveUps ++ bytes16 c.clashes ++
  bytes16 (if s.sp.config == .configFault then 0 else s.bs.missed) ++ bytes16 s.faultMask.toNat ++
  [BitVec.ofNat 8 s.sp.warningTotal] ++ s.sp.warnings.flatMap Warning.bytes

/-- The code of a dial state (page 2). -/
def dialStateCode : DialState → Nat
  | .stopped => 0
  | .inStep => 1
  | .advancing => 2
  | .holding => 3
  | .faulted => 4

/-- The entry of a bound slot in page 2 (R76). -/
def DialSlot.pageBytes (d : DialSlot) : List Byte :=
  match d.line with
  | none => []
  | some l =>
    [BitVec.ofNat 8 (lineCode l), if d.modulus = 1440 then 1 else 0] ++ bytes16 (d.dial.getD 65535) ++
    [BitVec.ofNat 8 (dialStateCode d.state * 16 + match d.polarity with | .pos => 0 | .neg => 1)]

/-- The bound slots. -/
def DialUnit.bound (d : DialUnit) : List DialSlot := d.slots.toList.filter fun r => r.line.isSome

/-- Page 2, CLOCKS. -/
def State.clocksPage (s : State) : List Byte :=
  BitVec.ofNat 8 s.du.bound.length :: s.du.bound.flatMap DialSlot.pageBytes

/-- The muster elapsed of a station in page 3, 0xFFFF where absent. -/
def DrillRecord.musterBytes (r : DrillRecord) (n : Station) : List Byte := bytes16 (r.muster[n].getD 65535)

/-- Page 3, DRILL, part 0. -/
def State.drillPage (s : State) : List Byte :=
  match s.dru.record with
  | none => [0]
  | some r =>
    let m := r.remaining s.school
    [1, stationByte r.initiator, r.number] ++ bytes16 (dayOf r.start) ++ bytes32 (msOfDay r.start) ++
    bytes16 r.evacuationLimit ++ bytes16 r.soundLimit ++ bytes32 r.expected.toNat ++
    bytes32 r.reported.toNat ++
    [BitVec.ofNat 8 (phaseCode r.phase), (r.endReason.map endReasonByte).getD 0,
      (if m.minutes then 1#8 else 0#8) ||| (if m.overdue then 2#8 else 0#8), BitVec.ofNat 8 m.count] ++
    (allStations.take 15).flatMap r.musterBytes

/-- Page 3, DRILL, part 1. -/
def State.drillPage1 (s : State) : List Byte :=
  match s.dru.record with
  | none => []
  | some r => (allStations.drop 15).flatMap r.musterBytes

/-- R138: the active plan's code and source in page 4; with no plan day 15 and the weekday map. -/
def BellScheduler.planBytes (b : BellScheduler) : List Byte :=
  match b.planDay with
  | none => [15, 0]
  | some _ =>
    [BitVec.ofNat 8 ((b.activePlan.map planCodeNat).getD 15), if b.source = .override then 1 else 0]

/-- Page 4, PLAN, part 0 (R138). -/
def State.planPage (s : State) : List Byte :=
  s.bs.planBytes ++ bytes16 (s.bs.planDay.getD 65535) ++ [BitVec.ofNat 8 s.bs.overrides.length] ++
  s.bs.overrides.flatMap fun o => bytes16 o.1 ++ [BitVec.ofNat 8 (planCodeNat o.2)]

/-- A shift record in page 4 part 1. -/
def ShiftRecord.bytes : ShiftRecord → List Byte
  | .shift first last delta => [1, BitVec.ofNat 8 first, BitVec.ofNat 8 last, BitVec.ofInt 8 delta]
  | .cancel first last => [2, BitVec.ofNat 8 first, BitVec.ofNat 8 last, 0]

/-- Page 4, PLAN, part 1. -/
def State.shiftPage (s : State) : List Byte :=
  BitVec.ofNat 8 s.bs.shifts.length :: s.bs.shifts.flatMap ShiftRecord.bytes

/-- The code of a line kind. -/
def lineKindCode : LineKind → Nat
  | .unused => 0
  | .bell => 1
  | .sounder => 2
  | .clock => 3
  | .page => 4
  | .chime => 5

/-- The code of a line state. -/
def lineStateCode : LineState → Nat
  | .off => 0
  | .waiting => 1
  | .energized => 2
  | .faultDisabled => 3

/-- The code of a supervision class. -/
def lineClassCode : LineClass → Nat
  | .unknown => 0
  | .normal => 1
  | .opened => 2
  | .shorted => 3

/-- A line's two bytes in page 5. -/
def LineRecord.pageBytes (r : LineRecord) : List Byte :=
  [BitVec.ofNat 8 (lineKindCode r.kind), BitVec.ofNat 8 (lineStateCode r.state * 16 + lineClassCode r.cls)]

/-- Page 5, LINES (R98). -/
def State.linesPage (s : State) : List Byte :=
  [if s.dsq.locked.isSome then 1#8 else 0#8, BitVec.ofNat 8 ((s.dsq.locked.map lineCode).getD 0)] ++
  s.dsq.lines.toList.flatMap LineRecord.pageBytes

/-- R41, R42: the content a page field names at this moment; a field that names no page or no part of it
has content length 0, and in CONFIG-FAULT every page but GENERAL has. -/
def State.pageContent (s : State) (page : Byte) : List Byte :=
  if page == 0x01#8 then s.generalPage
  else if s.sp.config == .configFault then []
  else if page == 0x02#8 then s.clocksPage
  else if page == 0x03#8 then s.drillPage
  else if page == 0x13#8 then s.drillPage1
  else if page == 0x04#8 then s.planPage
  else if page == 0x14#8 then s.shiftPage
  else if page == 0x05#8 then s.linesPage
  else []

/-- R41: the body of a STATUS-REPLY. -/
def State.replyBody (s : State) (asker : Station) (page : Byte) : List Byte :=
  [stationByte asker, page] ++ s.pageContent page

/-- R33: the body bytes of a frame at the start of its transmission. -/
def State.frameBody (s : State) : OutFrame → List Byte
  | .beacon => beaconBytes s.beaconBody
  | .statusReply asker page => s.replyBody asker page
  | f => f.ownBody

/-! ## Display word -/

/-- R207: bits 21–0 of the TIME and YIELD modes. -/
def timeField (school : Option Nat) : BitVec 24 :=
  match school with
  | none => BitVec.ofNat 24 (31 * 131072)
  | some t => BitVec.ofNat 24 (minuteOfDay t / 60 * 131072 + minuteOfDay t % 60 * 2048)

/-- R207: bits 21–0 of the DRILL mode. -/
def drillField (m : Remaining) : BitVec 24 :=
  BitVec.ofNat 24 ((if m.overdue then 2097152 else 0) + (if m.minutes then 1048576 else 0) + m.count * 8192)

/-- R207: the display word at this moment; the mode in bits 23–22 is the first that applies. -/
def State.displayWordNow (s : State) : BitVec 24 :=
  if s.sp.config == .configFault then
    0xC00000#24 ||| (if s.sp.faultCode == some .strapFault then 1#24 else 2#24)
  else if s.dru.yielding then 0x800000#24 ||| timeField s.school
  else
    match s.dru.record with
    | some r =>
      if r.phase.running then 0x400000#24 ||| drillField (r.remaining s.school) else timeField s.school
    | none => timeField s.school

/-! ## Output lines -/

/-- R78: DLn is on exactly while the line's state is ENERGIZED. -/
def State.driveOn (s : State) (l : LineId) : Bool := (s.line l).state == .energized

/-- R67, R78: DLPn is high only while a CLOCK line is energized for POS. -/
def State.drivePolarity (s : State) (l : LineId) : Bool :=
  s.driveOn l && (s.line l).kind == .clock &&
  match (s.line l).request with
  | some q => q.polarity == .pos
  | none => false

/-- R33, R34: YL-EN is on exactly while a transmission is in progress. -/
def State.lineEnable (s : State) : Bool :=
  match s.ylc.attempt with
  | .sending _ => true
  | .none | .waiting _ => false

/-- R142: what a key lamp shows. -/
inductive Lamp where
  | off
  | steady
  | slowFlash
  | fastFlash
  deriving DecidableEq, Repr

/-- R142: a flash that is on for `ms` and off for `ms`, `elapsed` ms after a moment at which it went on. -/
def flashOn (ms elapsed : Nat) : Bool := elapsed % (2 * ms) < ms

/-- R142, the Rate column: whether the lamp is lit, `elapsed` ms after a moment at which its flash went on. -/
def Lamp.lit (l : Lamp) (elapsed : Nat) : Bool :=
  match l with
  | .off => false
  | .steady => true
  | .slowFlash => flashOn Config.slowFlashMs elapsed
  | .fastFlash => flashOn Config.fastFlashMs elapsed

/-- R142: a refusal of the key was shown less than 2 s ago. -/
def State.refusalShown (s : State) (k : KeyId) : Bool :=
  match (s.key k).refusalEnd with
  | some e => decide (s.now < e)
  | none => false

/-- R142: the own claim record, while its key is this one. -/
def State.ownOfKey (s : State) (k : KeyId) : Option OwnClaim := s.fu.own.filter fun o => o.key == k

/-- R142, R161: the first case that applies; in LOADING, HOLD-UP and CONFIG-FAULT the lamps are off. -/
def State.lamp (s : State) (k : KeyId) : Lamp :=
  if !(s.up && s.taking) then .off
  else
    match (s.ownOfKey k).map OwnClaim.phase with
    | some .chiming | some .live => .steady
    | some .claiming | some .gathering => .slowFlash
    | none => if s.refusalShown k then .fastFlash else .off

/-- R142: how far the flash of a lamp had run at station timer 0, which the spec does not give: a free value of each
slow flash and of each fast flash (notes/assumptions/27.md). -/
def State.flashPhase (s : State) (k : KeyId) : Nat :=
  match s.ownOfKey k with
  | some o => Config.slowFlashPhase k o.number
  | none => Config.fastFlashPhase k ((s.key k).refusalEnd.getD 0)

/-- R142: whether the lamp output KL1 to KL4 of a key is on at this moment. -/
def State.lampOn (s : State) (k : KeyId) : Bool := (s.lamp k).lit (s.flashPhase k + s.now)

end Sys2Proof.Machine
end

