-- ==== Sys2Proof/Machine/Store.lean ====
section
/-! DEFINITION. The Dial Store (10_the_dial_store_and_supply_failure.md): requests, writes, erases, the
recovery scan and what a cut leaves. -/

namespace Sys2Proof.Machine

/-- R76: a slot as a snapshot takes it: UNSET for a slot with no bound line, unless the slots are read as they stand,
and the polarity it holds. -/
def DialSlot.reading (asItStands : Bool) (d : DialSlot) : DialReading :=
  { dial := if d.line.isSome || asItStands then d.dial else none, polarity := d.polarity }

/-- R76: the six dial slots as a snapshot takes them, in CONFIG-FAULT as they stand. In LOADING no slot is bound yet
(notes/assumptions/31.md), so each gives UNSET. -/
def State.dialReadings (s : State) : Vector DialReading 6 :=
  s.du.slots.map (DialSlot.reading (s.sp.config == .configFault))

/-- R187: the sequence one above the last sequence written, or 0 when none has been written. -/
def DialStore.nextSequence (d : DialStore) : Nat :=
  match d.lastSequence with
  | none => 0
  | some n => (n + 1) % 65536

/-- R188: the content of a snapshot at this moment. -/
def State.snapshotNow (s : State) : Snapshot :=
  { sequence := s.ds.nextSequence, time := s.school.map fun t => (dayOf t, minuteOfDay t),
    dials := s.dialReadings }

/-- R187: a write starts; its content is taken now. -/
def startWrite (s : State) : State :=
  { s with ds := { s.ds with activity := .writing s.snapshotNow (s.now + Config.writeMs) } }

/-- R187: the erase of the other page starts. -/
def startErase (s : State) : State :=
  { s with ds := { s.ds with activity := .erasing (s.now + Config.eraseMs) } }

/-- R189: a snapshot is requested. -/
def requestSnapshot (s : State) : State :=
  if s.ds.activity = .idle ∧ s.ds.next < Config.pageSlots ∧ s.ds.pendingSnapshot = false then startWrite s
  else { s with ds := { s.ds with pendingSnapshot := true } }

/-- R187, R189: the activity has returned to IDLE: a full page starts the erase, a set flag a write. -/
def storeIdle (s : State) : State :=
  if Config.pageSlots ≤ s.ds.next then startErase s
  else if s.ds.pendingSnapshot then
    startWrite { s with ds := { s.ds with pendingSnapshot := false } }
  else s

/-- One slot of the current page rewritten, at the write position. -/
def DialStore.program (d : DialStore) (slot : StoreSlot) : DialStore :=
  if h : d.next < 32 then
    { d with pages := d.pages.set d.page (d.pages[d.page].set d.next slot), next := d.next + 1 }
  else d

/-- R187: a write completes. -/
def completeWrite (p : Snapshot) (s : State) : State :=
  storeIdle { s with ds := { s.ds.program (.written p) with
    lastSequence := some p.sequence, lastTime := some p.time, activity := .idle } }

/-- R187: the page that is not the current one. -/
def DialStore.otherPage (d : DialStore) : Fin 2 := if d.page = 0 then 1 else 0

/-- R187: an erase completes. -/
def completeErase (s : State) : State :=
  let other := s.ds.otherPage
  storeIdle { s with ds := { s.ds with
    pages := s.ds.pages.set other (Vector.replicate 32 .blank), page := other, next := 0, activity := .idle } }

/-- R191: what a cut erase leaves of a slot: blank, programmed and not valid, or as it was, by a free
value (notes/assumptions/2.md). -/
def cutErasedSlot (choice : Nat) (slot : StoreSlot) : StoreSlot :=
  match choice % 3 with
  | 0 => .blank
  | 1 => .cut (match slot with
      | .programmed p _ => p
      | .blank => { sequence := 0, time := none, dials := Vector.replicate 6 { dial := none, polarity := .neg } })
  | _ => slot

/-- R191: a write or an erase under way is cut. -/
def DialStore.cutOperation (d : DialStore) : DialStore :=
  match d.activity with
  | .idle => d
  | .writing p _ => { d.program (.cut p) with activity := .idle }
  | .erasing _ =>
    { d with
      pages := d.pages.set d.otherPage
        (d.pages[d.otherPage].mapFinIdx fun i slot _ =>
          cutErasedSlot (Config.cutEraseSlot (d.cutIndex + i)) slot)
      activity := .idle, cutIndex := d.cutIndex + 32 }

/-- R190: sequence `a` is newer than sequence `b`. -/
def sequenceNewer (a b : Nat) : Bool :=
  let d := (a + 65536 - b % 65536) % 65536
  1 ≤ d && d ≤ 32767

/-- R190: the slots in the order of the walk, each with its page. -/
def DialStore.walk (d : DialStore) : List (Fin 2 × StoreSlot) :=
  (d.pages[(0 : Fin 2)].toList.map fun x => (0, x)) ++ (d.pages[(1 : Fin 2)].toList.map fun x => (1, x))

/-- R190: one slot of the walk against the candidate. -/
def candidateStep (c : Option (Fin 2 × Snapshot)) (x : Fin 2 × StoreSlot) : Option (Fin 2 × Snapshot) :=
  match x.2.valid?, c with
  | none, _ => c
  | some p, none => some (x.1, p)
  | some p, some (_, q) =>
    if sequenceNewer p.sequence q.sequence || p.sequence == q.sequence then some (x.1, p) else c

/-- R190: the latest valid snapshot and its page. -/
def DialStore.latest (d : DialStore) : Option (Fin 2 × Snapshot) := d.walk.foldl candidateStep none

/-- R190: the slot after the last programmed slot of a page, 0 when the page is blank. -/
def nextFree (page : Vector StoreSlot 32) : Nat :=
  (page.toList.zipIdx.foldl (fun n x => if x.1.isProgrammed then x.2 + 1 else n) 0)

/-- R190: the recovery scan; the Dial Unit takes the dial positions slot by slot (R77). -/
def recoveryScan (s : State) : State :=
  match s.ds.latest with
  | some (page, p) =>
    { s with
      ds := { s.ds with
        lastSequence := some p.sequence, lastTime := some p.time, page := page,
        next := nextFree s.ds.pages[page] }
      du := { s.du with slots := p.dials.map fun r => DialSlot.unbound r.dial r.polarity } }
  | none =>
    { s with
      ds := { s.ds with
        lastSequence := none, lastTime := none, page := 0,
        next := nextFree s.ds.pages[(0 : Fin 2)] }
      du := { s.du with slots := Vector.replicate 6 (DialSlot.unbound none .neg) } }

/-- R187, R195: at the end of a reset a full current page starts the erase. -/
def eraseIfFull (s : State) : State :=
  if s.ds.activity = .idle ∧ Config.pageSlots ≤ s.ds.next then startErase s else s

/-- R188: at least one dial slot is bound to a clock line. -/
def State.anySlotBound (s : State) : Bool := s.du.slots.toList.any fun d => d.line.isSome

/-- R188: the day and minute are those of the snapshot last written or being written. -/
def State.alreadyRecorded (s : State) (day minute : Nat) : Bool :=
  s.ds.lastTime == some (some (day, minute)) ||
  match s.ds.activity with
  | .writing p _ => p.time == some (day, minute)
  | .idle | .erasing _ => false

/-- R188, third row: a whole hour or day change by running, at full time `t`. -/
def hourByRunning (t : Nat) (s : State) : State :=
  if s.anySlotBound && !s.alreadyRecorded (dayOf t) (minuteOfDay t) then requestSnapshot s else s

/-- R188, fourth row: a whole hour or day change marked as coming from a movement. -/
def hourByMovement (s : State) : State := if s.anySlotBound then requestSnapshot s else s

end Sys2Proof.Machine
end

