-- ==== Sys2Proof/Machine/Sequencer.lean ====
section
/-! DEFINITION. The Drive Sequencer (05_drive_lines_and_the_output_sequencer.md): the grant list, pattern
players, PAGE and CHIME switching. Each operation returns what it reports, for the block it reports to. -/

namespace Sys2Proof.Machine

/-! ## Energize requests -/

/-- A line that is not driven and holds no request. -/
def LineRecord.turnedOff (r : LineRecord) : LineRecord :=
  { r with state := .off, request := none, energizeEnd := none }

/-- R81: a request to energize a counted line; the answer is whether it joined the grant list. -/
def requestLine (l : LineId) (q : EnergizeRequest) (s : State) : State × Bool :=
  if s.running && (s.line l).state == .off then
    (s.setLine l { s.line l with state := .waiting, request := some q }, true)
  else (s, false)

/-- A WAITING line whose request is of the class. -/
def State.waitsIn (s : State) (c : RequestClass) (l : LineId) : Bool :=
  (s.line l).state == .waiting &&
  match (s.line l).request with
  | some q => q.cls == c
  | none => false

/-- R82: the grant list, head first: by class, then by the position in the scan order table. -/
def State.grantList (s : State) : List LineId :=
  let order := s.dsq.scanOrder.toList
  order.filter (s.waitsIn .sounder) ++ order.filter (s.waitsIn .bell) ++ order.filter (s.waitsIn .clock)

/-- R83: there is room in the drive budget, and the stagger gap has passed since the last grant. -/
def State.mayGrant (s : State) : Bool :=
  s.energizedCount < s.dsq.budget &&
  match s.dsq.lastGrant with
  | none => true
  | some g => g + s.dsq.stagger ≤ s.now

/-- The zone whose bell line is the line. -/
def State.bellZone (s : State) (l : LineId) : Option ZoneId :=
  allZones.find? fun z => (s.zone z).bellLine == some l

/-- The zone whose sounder line is the line. -/
def State.sounderZone (s : State) (l : LineId) : Option ZoneId :=
  allZones.find? fun z => (s.zone z).sounderLine == some l

/-- The zone whose page line is the line. -/
def State.pageZone (s : State) (l : LineId) : Option ZoneId :=
  allZones.find? fun z => (s.zone z).pageLine == some l

/-- R114: STARTED concerning the current bell marks it started. -/
def bellStarted (l : LineId) (s : State) : State :=
  match s.bellZone l with
  | none => s
  | some z =>
    match (s.zone z).owner with
    | some (.bell _) => s.setZone z { s.zone z with bellStarted := true }
    | _ => s

/-- R67, R84, R87: STARTED is reported to the requester of the request granted. -/
def reportStarted (l : LineId) (q : EnergizeRequest) (s : State) : State :=
  match q.requester with
  | .dial i => s.setSlot i { s.slot i with impulse := .inFlight, lastStart := some s.now }
  | .player =>
    let p := (s.line l).player
    let s1 := s.setLine l { s.line l with player := { p with state := .on } }
    if p.phase = 0 && p.pattern.isSome then bellStarted l s1 else s1

/-- R83, R84: the line is granted. -/
def grant (l : LineId) (s : State) : State :=
  match (s.line l).request with
  | none => s
  | some q =>
    let s1 := s.setLine l { s.line l with state := .energized, energizeEnd := some (s.now + q.width) }
    reportStarted l q { s1 with dsq := { s1.dsq with lastGrant := some s.now } }

/-- R83: the arbiter grants head after head while both conditions hold (at most 16 lines wait). -/
def arbitrateUpTo : Nat → State → State
  | 0, s => s
  | n + 1, s =>
    match s.grantList with
    | [] => s
    | l :: _ => if s.mayGrant then arbitrateUpTo n (grant l s) else s

/-- R83: the commands that end with the arbiter's check: all but those of the whole part, of the display, of
the lamps, of the drill unit's keys becoming armed and of the store, which neither ask for a line nor free one
while any waits. -/
def endsWithArbiter : Instr → Bool
  | .powerOn _ _ | .rstAssert | .rstRelease _ | .supplyWarning | .warningClears | .warningReasserts
  | .clearTimerExpiry _ | .supplyCollapse | .displayWord | .refusalEnd _ | .keyArmed _ | .writeComplete
  | .eraseComplete => false
  | _ => true

/-- R83, R88: no command of this instant that may ask for a line or cancel a request still waits. Time passes
only over an empty queue, so that the commands waiting are of one instant (notes/assumptions/6.md). -/
def State.allJoined (s : State) : Bool := s.pending.all fun c => !endsWithArbiter c

/-- R83: the arbiter checks, once the requests of this instant have all joined. -/
def arbitrate (s : State) : State := if s.allJoined then arbitrateUpTo 16 s else s

/-- R85: the DU withdraws the WAITING request of a slot; the answer is whether it was withdrawn. -/
def withdrawRequest (l : LineId) (i : SlotId) (s : State) : State × Bool :=
  let mine := match (s.line l).request with
    | some q => q.requester == .dial i
    | none => false
  if (s.line l).state == .waiting && mine then (s.setLine l (s.line l).turnedOff, true) else (s, false)

/-! ## Patterns -/

/-- R86: the number of on-phases of a bell or chime pattern. -/
def BellPattern.phases (p : BellPattern) : Nat := p.repeats * (if p.w2 = 0 then 1 else 2)

/-- R86: the width of an on-phase, W1 and W2 in turn, or W1 alone. -/
def phaseWidth (w1 w2 phase : Nat) : Nat := if w2 = 0 then w1 else if phase % 2 = 0 then w1 else w2

/-- R86: the width of the player's on-phase. -/
def Sequencer.playerWidth (d : Sequencer) (p : Player) : Nat :=
  match p.pattern with
  | some b => phaseWidth d.bellPatterns[b].w1 d.bellPatterns[b].w2 p.phase
  | none => phaseWidth d.sounderPattern.w1 d.sounderPattern.w2 p.phase

/-- R86, R87: the gap after the player's on-phase; Q after a sounder W2, or after W1 with W2 none. -/
def Sequencer.playerGap (d : Sequencer) (p : Player) : Nat :=
  match p.pattern with
  | some b => d.bellPatterns[b].gap
  | none =>
    if d.sounderPattern.w2 = 0 || p.phase % 2 = 1 then d.sounderPattern.pause else d.sounderPattern.gap

/-- R87: the player's on-phase is the last of a bell pattern; the sounder pattern has no end. -/
def Sequencer.playerLast (d : Sequencer) (p : Player) : Bool :=
  match p.pattern with
  | some b => d.bellPatterns[b].phases ≤ p.phase + 1
  | none => false

/-- R81, R87: the player's on-phase is requested; a refusal takes the player to IDLE. -/
def requestPhase (l : LineId) (age : Nat) (s : State) : State × Bool :=
  let p := (s.line l).player
  let q : EnergizeRequest :=
    { cls := if p.pattern.isSome then .bell else .sounder, width := s.dsq.playerWidth p, polarity := .pos,
      requester := .player, age }
  match requestLine l q s with
  | (s1, true) => (s1.setLine l { s1.line l with player := { p with state := .onWait } }, true)
  | (s1, false) => (s1.setLine l { s1.line l with player := { p with state := .idle } }, false)

/-- R88: the player acts on a cancel; the answer is whether STOPPED is reported. -/
def cancelPlayer (l : LineId) (s : State) : State × Bool :=
  let r := s.line l
  match r.player.state with
  | .idle => (s, false)
  | .gap _ => (s.setLine l { r with player := { r.player with state := .idle } }, true)
  | .onWait | .on => (s.setLine l { r.turnedOff with player := { r.player with state := .idle } }, true)

/-- R87: a start of a player with a bell pattern, or with none for the sounder pattern; the answer is
false for REFUSED. -/
def startPlayer (l : LineId) (pattern : Option (Fin 8)) (s : State) : State × Bool :=
  if !s.running || (s.line l).state == .faultDisabled then (s, false)
  else
    let s1 := (cancelPlayer l s).1
    requestPhase l s.now
      (s1.setLine l { s1.line l with player := { state := .idle, pattern, phase := 0 } })

/-! ## PAGE lines -/

/-- R89: a switch-on; the answer is false for REFUSED. -/
def pageSwitchOn (l : LineId) (s : State) : State × Bool :=
  if !s.running || (s.line l).state == .faultDisabled then (s, false)
  else if (s.line l).state == .off then (s.setLine l { s.line l with state := .energized }, true)
  else (s, true)

/-- R89: a switch-off. -/
def pageSwitchOff (l : LineId) (s : State) : State :=
  if (s.line l).state == .energized then s.setLine l (s.line l).turnedOff else s

/-! ## The chime player -/

/-- R90: the CHIME lines that are not FAULT-DISABLED. -/
def State.chimeLines (s : State) : LineMask :=
  linesWith fun l => (s.line l).kind == .chime && (s.line l).state != .faultDisabled

/-- R90: the lines of the mask turn on together, but for a line that is FAULT-DISABLED (R79). -/
def chimeOn (mask : LineMask) (s : State) : State :=
  forEach allLines (fun l t =>
    if inLines mask l && (t.line l).state == .off then t.setLine l { t.line l with state := .energized }
    else t) s

/-- R90: the lines of the mask turn off. -/
def chimeOff (mask : LineMask) (s : State) : State :=
  forEach allLines (fun l t =>
    if inLines mask l && (t.line l).state == .energized then t.setLine l (t.line l).turnedOff else t) s

/-- The chime player set. -/
def State.setChime (s : State) (c : ChimePlayer) : State := { s with dsq := { s.dsq with chime := c } }

/-- R90: a cancel from the FU. -/
def cancelChime (s : State) : State :=
  match s.dsq.chime with
  | .idle => s
  | .on _ mask _ | .gap _ mask _ => (chimeOff mask s).setChime .idle

/-- R90: a start from the FU; the answer is true for DONE at the start. -/
def startChime (s : State) : State × Bool :=
  let s1 := cancelChime s
  let mask := s1.chimeLines
  if mask = 0 || !s1.running then (s1, true)
  else
    ((chimeOn mask s1).setChime
      (.on 0 mask (s1.now + phaseWidth s1.dsq.chimePattern.w1 s1.dsq.chimePattern.w2 0)), false)

/-- R90: the width expiry of on-phase `phase`; the answer is true for DONE. -/
def chimePhaseEnd (phase : Nat) (mask : LineMask) (s : State) : State × Bool :=
  let s1 := chimeOff mask s
  if s1.dsq.chimePattern.phases ≤ phase + 1 then (s1.setChime .idle, true)
  else (s1.setChime (.gap phase mask (s1.now + s1.dsq.chimePattern.gap)), false)

/-- R90: the gap expiry after on-phase `phase`: the next on-phase turns the lines on. -/
def chimePhaseStart (phase : Nat) (mask : LineMask) (s : State) : State :=
  (chimeOn mask s).setChime
    (.on (phase + 1) mask
      (s.now + phaseWidth s.dsq.chimePattern.w1 s.dsq.chimePattern.w2 (phase + 1)))

/-! ## Supervision -/

/-- R94: a line is eligible at a slot in round-robin mode. -/
def State.eligible (s : State) (l : LineId) : Bool :=
  (s.line l).kind.counted && (s.line l).state != .energized && !inLines s.dsq.exclusion l

/-- R94: the positions after the pointer in table order, wrapping, ending with the pointer itself. -/
def positionsAfter (pointer : Option (Fin 16)) : List (Fin 16) :=
  match pointer with
  | none => List.finRange 16
  | some p => (List.finRange 16).map fun k => ⟨(p.val + 1 + k.val) % 16, Nat.mod_lt _ (by decide)⟩

/-- R93–R95: the line picked at a slot, and the pointer after it. -/
def State.slotPick (s : State) : Option LineId × Option (Fin 16) :=
  match s.dsq.locked with
  | some l => (if (s.line l).state == .energized then none else some l, s.dsq.pointer)
  | none =>
    match (positionsAfter s.dsq.pointer).find? fun p => s.eligible s.dsq.scanOrder[p] with
    | some p => (some s.dsq.scanOrder[p], some p)
    | none => (none, s.dsq.pointer)

/-- R96: the sample run after a sample. -/
def LineRecord.sampled (r : LineRecord) (x : SenseResult) : LineRecord :=
  if r.sampleResult = some x then { r with sampleRun := min 2 (r.sampleRun + 1) }
  else { r with sampleResult := some x, sampleRun := 1 }

/-- R95: the position of a line in the scan order table. -/
def Sequencer.positionOf (d : Sequencer) (l : LineId) : Option (Fin 16) :=
  (List.finRange 16).find? fun p => d.scanOrder[p] == l

end Sys2Proof.Machine
end

