-- ==== Sys2Proof/Machine/Dials.lean ====
section
/-! DEFINITION. The Dial Unit (04_room_clock_lines.md): the recompute, impulse requests, delivery and
abort, dial setting and the binding of the slots. -/

namespace Sys2Proof.Machine

/-- R61: the target position. -/
def targetPosition (school modulus : Nat) : Nat := minuteOfDay school % modulus

/-- R61: the dial difference (P − D) mod M. -/
def dialDifference (school dial modulus : Nat) : Nat :=
  (targetPosition school modulus + modulus - dial % modulus) % modulus

/-- R62: the state and dial difference a recompute gives, by the first row that applies. -/
def dialVerdict (school dial : Option Nat) (modulus holdWindow : Nat) (faulted : Bool) :
    DialState × Option Nat :=
  match school, dial with
  | some t, some d =>
    if faulted then (.faulted, none)
    else
      let diff := dialDifference t d modulus
      if diff ≤ 1 then (.inStep, some diff)
      else if modulus ≤ diff + holdWindow then (.holding, some diff)
      else (.advancing, some diff)
  | _, _ => (.stopped, none)

/-- R62, last column: the record's state calls for an impulse (rows 4 and 6). -/
def DialSlot.calls (d : DialSlot) : Bool :=
  match d.state with
  | .advancing => true
  | .inStep => d.difference == some 1
  | .stopped | .holding | .faulted => false

/-- R65: the record's spacing has run out. -/
def DialSlot.spaced (d : DialSlot) (spacing now : Nat) : Bool :=
  match d.lastStart with
  | none => true
  | some t => t + spacing ≤ now

/-- R64: an impulse is requested for the record when every condition holds. -/
def tryImpulse (i : SlotId) (s : State) : State :=
  let d := s.slot i
  match d.line with
  | none => s
  | some l =>
    if s.running && d.calls && d.impulse == .none && d.spaced s.du.spacing s.now then
      let q : EnergizeRequest :=
        { cls := .clock, width := s.du.width, polarity := d.polarity.opposite, requester := .dial i,
          age := s.now }
      match requestLine l q s with
      | (s1, true) => s1.setSlot i { d with impulse := .waiting }
      | (s1, false) => s1
    else s

/-- R61–R63: the recompute of a record, and what it does with its impulse field. -/
def recompute (i : SlotId) (s : State) : State :=
  match (s.slot i).line with
  | none => s
  | some l =>
    let v := dialVerdict s.school (s.slot i).dial (s.slot i).modulus s.du.holdWindow (s.line l).cls.faulted
    let d := { s.slot i with state := v.1, difference := v.2 }
    let s1 := s.setSlot i d
    match d.impulse with
    | .none => tryImpulse i s1
    | .inFlight => s1
    | .waiting =>
      if d.calls then s1
      else
        match withdrawRequest l i s1 with
        | (s2, true) => s2.setSlot i { d with impulse := .none }
        | (s2, false) => s2

/-- R63: the recompute of every record. -/
def recomputeAll (s : State) : State := forEach allSlots recompute s

/-- R73: at the end of an impulse the pending set, if any, replaces `dial`; one snapshot is requested. -/
def endImpulse (i : SlotId) (dial : Option Nat) (polarity : Polarity) (s : State) : State :=
  let d := s.slot i
  match d.pendingSet with
  | some p =>
    requestSnapshot (recompute i (s.setSlot i
      { d with impulse := .none, polarity, dial := some p, pendingSet := none }))
  | none => recompute i (s.setSlot i { d with impulse := .none, polarity, dial })

/-- R68: the impulse of the slot is delivered. -/
def deliverImpulse (i : SlotId) (polarity : Polarity) (s : State) : State :=
  endImpulse i ((s.slot i).dial.map fun d => (d + 1) % (s.slot i).modulus) polarity s

/-- R69: the impulse of the slot is aborted: D and polarity are unchanged. -/
def abortImpulse (i : SlotId) (s : State) : State :=
  endImpulse i (s.slot i).dial (s.slot i).polarity s

/-- R70, R75: the WAITING request of the slot was dropped. -/
def dropImpulse (i : SlotId) (s : State) : State :=
  recompute i (s.setSlot i { s.slot i with impulse := .none })

/-- The slot bound to a line. -/
def State.slotOf (s : State) (l : LineId) : Option SlotId :=
  allSlots.find? fun i => (s.slot i).line == some l

/-- R71: the recompute of the record bound to a line whose class changed. -/
def classToDial (l : LineId) (s : State) : State :=
  match s.slotOf l with
  | none => s
  | some i => recompute i s

/-- R72, R73: a DIAL-SET for the line named by a code. -/
def dialSet (line : Byte) (position : Half) (s : State) : State :=
  match (lineOfCode line.toNat).bind s.slotOf with
  | none => s
  | some i =>
    let d := s.slot i
    let value := position.toNat % d.modulus
    if d.impulse = .inFlight then s.setSlot i { d with pendingSet := some value }
    else requestSnapshot (recompute i (s.setSlot i { d with dial := some value }))

/-- R58: the slot bound to a line (or to none) at a load. -/
def DialSlot.bind (d : DialSlot) (line : Option (LineId × Nat)) : DialSlot :=
  match line with
  | none => DialSlot.unbound none .neg
  | some (l, m) => { DialSlot.unbound (d.dial.map (· % m)) d.polarity with line := some l, modulus := m }

/-- R58: the slots bound to the CLOCK lines of the image in ascending line order, each with its modulus,
and every bound record recomputed. -/
def bindSlots (clocks : List (LineId × Nat)) (s : State) : State :=
  recomputeAll { s with du := { s.du with
    slots := s.du.slots.mapFinIdx fun i d _ => d.bind clocks[i]? } }

/-- R77: what a warm reset leaves of a slot: a pending set applied as for an abort, nothing bound. -/
def DialSlot.warmReset (d : DialSlot) : DialSlot :=
  DialSlot.unbound (d.pendingSet.orElse fun _ => d.dial) d.polarity

end Sys2Proof.Machine
end

