-- ==== Sys2Proof/Machine/Zones.lean ====
section
/-! DEFINITION. The Zone Arbiter (06_zones_and_the_hold_stack.md). A request or release first changes the
zone records alone; `settleZones` then does, once at the end of the change, what R111–R113 ask of a zone
whose owner is no longer the one it had before: the deferred bell, the line effects and TRUNK-SELECT. -/

namespace Sys2Proof.Machine

/-! ## Answers to the Bell Scheduler -/

/-- R136: MISSED, any reason, for a bell: counted when it is of the plan day. -/
def bellMissed (b : Bell) (s : State) : State :=
  if s.bs.planDay = some b.day then { s with bs := { s.bs with missed := countUp s.bs.missed 1 } } else s

/-! ## The hold stack -/

/-- R111: the check of a popped entry against the block that owns it. -/
def keepEntry (s : State) (z : ZoneId) : Owner → Bool
  | .floor h n _ =>
    match s.fu.view with
    | some v => v.holder == h && v.number == n && inZones v.accepted z
    | none => false
  | .drill i n =>
    match s.dru.record with
    | some r => r.initiator == i && r.number == n && r.phase.running
    | none => false
  | .bell _ | .yield => false

/-- R111: the stack is popped until an entry is kept, or the zone becomes IDLE. -/
def popStack (keep : Owner → Bool) : List Owner → Option Owner × List Owner
  | [] => (none, [])
  | o :: rest => if keep o then (some o, rest) else popStack keep rest

/-- R111: the current owner of the zone has gone. -/
def popZone (z : ZoneId) (s : State) : State :=
  let p := popStack (keepEntry s z) (s.zone z).stack
  s.setZone z { s.zone z with owner := p.1, stack := p.2, bellStarted := false }

/-- R110: the owners that `is` holds of are released at the zone. -/
def releaseAt (is : Owner → Bool) (z : ZoneId) (s : State) : State :=
  let s1 := s.setZone z { s.zone z with stack := (s.zone z).stack.filter fun o => !is o }
  match (s.zone z).owner with
  | some o => if is o then popZone z s1 else s1
  | none => s1

/-- R110: a release at every zone. -/
def releaseEverywhere (is : Owner → Bool) (s : State) : State := forEach allZones (releaseAt is) s

/-- R109: the displaced owner of a zone; `bellAnswer` is what becomes of a displaced bell. -/
def displace (toYield : Bool) (new : Owner) (z : ZoneId) (s : State) : State :=
  let r := s.zone z
  match r.owner with
  | none => s.setZone z { r with owner := some new, bellStarted := false }
  | some (.bell b) =>
    if toYield then
      bellMissed b (s.setZone z { r with owner := some new, cutBell := some b, bellStarted := false })
    else
      s.setZone z
        { r with owner := some new, deferred := some b, cutBell := some b, bellStarted := false }
  | some o => s.setZone z { r with owner := some new, stack := o :: r.stack, bellStarted := false }

/-! ## Requests -/

/-- R104, R105: a bell request. -/
def bellRequest (b : Bell) (z : ZoneId) (s : State) : State :=
  let r := s.zone z
  if !s.running then bellMissed b s
  else
    match r.bellLine with
    | none => bellMissed b s
    | some l =>
      if (s.line l).cls.faulted then bellMissed b s
      else
        match r.level with
        | .yield => bellMissed b s
        | .idle => s.setZone z { r with owner := some (.bell b), bellStarted := false }
        | .bell => s
        | .pageGeneral | .drill | .pageUrgent => s.setZone z { r with deferred := some b }

/-- R106: a page request; the answer is true for ACCEPTED. -/
def pageRequest (holder : Station) (number : Byte) (cls : FloorClass) (z : ZoneId) (s : State) :
    State × Bool :=
  if !s.running then (s, false)
  else
    let s1 := releaseAt (fun o => o.anyFloor && !o.isFloor holder number) z s
    let r := s1.zone z
    if (r.owner.any (Owner.isFloor holder number)) || r.stack.any (Owner.isFloor holder number) then
      (s1, true)
    else
      match r.pageLine with
      | none => (s1, false)
      | some l =>
        if (s1.line l).cls.faulted then (s1, false)
        else if r.level.rank < cls.level.rank then
          (displace false (.floor holder number cls) z s1, true)
        else (s1, false)

/-- R107: a DRILL entry inserted above every PAGE-GENERAL entry and below every PAGE-URGENT entry. -/
def insertDrill (drill : Owner) (stack : List Owner) : List Owner :=
  stack.filter (fun o => o.level == .pageUrgent) ++ drill ::
    stack.filter (fun o => o.level != .pageUrgent)

/-- R107: a drill request. -/
def drillRequest (initiator : Station) (number : Byte) (z : ZoneId) (s : State) : State :=
  if !s.taking then s
  else
    let drill : Owner := .drill initiator number
    let s1 := releaseAt (fun o => o.anyDrill && !o.isDrill initiator number) z s
    let r := s1.zone z
    if (r.owner.any (Owner.isDrill initiator number)) || r.stack.any (Owner.isDrill initiator number) then s1
    else
      match r.level with
      | .idle | .bell | .pageGeneral | .drill => displace false drill z s1
      | .pageUrgent | .yield =>
        if r.stack.length < Config.stackLimit then
          s1.setZone z { r with stack := insertDrill drill r.stack }
        else s1

/-- R108: a yield request. -/
def yieldRequest (z : ZoneId) (s : State) : State :=
  if !s.taking || (s.zone z).owner == some .yield then s
  else
    let r := s.zone z
    let s1 := s.setZone z { r with deferred := none }
    let s2 := match r.deferred with
      | some b => bellMissed b s1
      | none => s1
    displace true .yield z s2

/-! ## The end of a change -/

/-- R112: the lateness of a bell at this moment, in ms. -/
def State.lateness (s : State) (effective : Int) : Option Int :=
  s.school.map fun t => (t : Int) - effective

/-- R112, R131: a lateness is within the late limit; with school time UNSET there is none to be within. -/
def State.inTime (s : State) (effective : Int) : Bool :=
  match s.lateness effective with
  | none => false
  | some x => x ≤ (s.bs.lateLimit * 1000 : Nat)

/-- R112: a zone that has become IDLE examines its deferred bell. -/
def examineDeferred (z : ZoneId) (s : State) : State :=
  let r := s.zone z
  match r.deferred with
  | none => s
  | some b =>
    let s1 := s.setZone z { r with deferred := none }
    match r.bellLine with
    | none => bellMissed b s1
    | some l =>
      if (s.line l).cls.faulted then bellMissed b s1
      else if s.inTime b.effective then
        s1.setZone z { r with deferred := none, owner := some (.bell b), bellStarted := false }
      else bellMissed b s1

/-- R88, R114: the cut bell's player is cancelled; STOPPED clears the cut bell record. -/
def cutBellPlayer (l : LineId) (z : ZoneId) (s : State) : State :=
  match cancelPlayer l s with
  | (s1, true) => s1.setZone z { s1.zone z with cutBell := none }
  | (s1, false) => s1

/-- R109, R113: the zone's page line is switched off. -/
def pageLineOff (z : ZoneId) (s : State) : State :=
  match (s.zone z).pageLine with
  | some l =>
    if (s.zone z).pageOn then
      let s1 := pageSwitchOff l s
      s1.setZone z { s1.zone z with pageOn := false }
    else s
  | none => s

/-- R113, R116: the zone's page line is switched on; REFUSED leaves page line on at no. -/
def pageLineOn (z : ZoneId) (s : State) : State :=
  match (s.zone z).pageLine with
  | some l =>
    let p := pageSwitchOn l s
    p.1.setZone z { p.1.zone z with pageOn := p.2 }
  | none => s

/-- R109, R115: the zone's sounder player is cancelled if sounder on is yes. -/
def sounderOff (z : ZoneId) (s : State) : State :=
  match (s.zone z).sounderLine with
  | some l =>
    if (s.zone z).sounderOn then
      let s1 := (cancelPlayer l s).1
      s1.setZone z { s1.zone z with sounderOn := false }
    else s
  | none => s

/-- R113, R115: the zone's sounder player is started; REFUSED leaves sounder on at no. -/
def sounderStart (z : ZoneId) (s : State) : State :=
  match (s.zone z).sounderLine with
  | some l =>
    let p := startPlayer l none s
    p.1.setZone z { p.1.zone z with sounderOn := p.2 }
  | none => s

/-- R113: the drill of the reference is SOUNDING in the DRU's record. -/
def State.drillSounding (s : State) (initiator : Station) (number : Byte) : Bool :=
  match s.dru.record with
  | some r => r.initiator == initiator && r.number == number && r.phase == .sounding
  | none => false

/-- R113: the effects of the old owner stop; a page line stays on from one floor to another. -/
def stopEffects (old : Option Owner) (z : ZoneId) (s : State) : State :=
  match old with
  | some (.bell _) =>
    match (s.zone z).bellLine with
    | some l => cutBellPlayer l z s
    | none => s
  | some (.floor _ _ _) => if (s.zone z).owner.any Owner.anyFloor then s else pageLineOff z s
  | some (.drill _ _) => sounderOff z s
  | some .yield | none => s

/-- R113: the effects of the current owner start, in RUNNING. -/
def startEffects (z : ZoneId) (s : State) : State :=
  if !s.running then s
  else
    match (s.zone z).owner with
    | some (.bell b) =>
      match (s.zone z).bellLine with
      | some l => (startPlayer l (some b.pattern) s).1
      | none => s
    | some (.floor _ _ _) => pageLineOn z s
    | some (.drill i n) => if s.drillSounding i n then sounderStart z s else s
    | some .yield | none => s

/-- R111–R113: what the end of a change does at a zone whose record before it is `old`. -/
def settleZone (old : Zone) (z : ZoneId) (s : State) : State :=
  let s1 := if (s.zone z).owner.isNone && old.owner.isSome then examineDeferred z s else s
  if (s1.zone z).owner = old.owner then s1 else startEffects z (stopEffects old.owner z s1)

/-- R117: some zone's current level is a page level. -/
def State.anyPaged (s : State) : Bool := allZones.any fun z => (s.zone z).level.isPage

/-- R117: TRUNK-SELECT follows the zones. -/
def syncTrunk (s : State) : State := { s with za := { s.za with trunkSelect := s.anyPaged } }

/-- The end of a change that began with the zone records `old`. -/
def settleZones (old : Vector Zone 8) (s : State) : State :=
  syncTrunk (forEach allZones (fun z t => settleZone old[z] z t) s)

/-! ## Reports of the players and lines -/

/-- R114: FINISHED from the bell player of a line. -/
def bellFinished (l : LineId) (s : State) : State :=
  match s.bellZone l with
  | none => s
  | some z =>
    match (s.zone z).owner with
    | some (.bell _) => popZone z s
    | _ =>
      let r := s.zone z
      if r.cutBell.isSome then
        s.setZone z { r with cutBell := none,
                             deferred := if r.deferred = r.cutBell then none else r.deferred }
      else s

/-- R114: ABORTED, FAULT or OVERCURRENT, from the bell player of a line. -/
def bellAborted (l : LineId) (s : State) : State :=
  match s.bellZone l with
  | none => s
  | some z =>
    match (s.zone z).owner with
    | some (.bell b) => popZone z (if (s.zone z).bellStarted then s else bellMissed b s)
    | _ => s

/-- R115: ABORTED from the sounder player of a line. -/
def sounderAborted (l : LineId) (s : State) : State :=
  match s.sounderZone l with
  | none => s
  | some z => s.setZone z { s.zone z with sounderOn := false }

/-- R116: PAGE-CUT of a line. -/
def pageCut (l : LineId) (s : State) : State :=
  match s.pageZone l with
  | none => s
  | some z => if (s.zone z).level.isPage then s.setZone z { s.zone z with pageOn := false } else s

/-- R114, R115: ABORTED from the player of a line, by the pattern it played. -/
def playerAborted (l : LineId) (bell : Bool) (s : State) : State :=
  if bell then bellAborted l s else sounderAborted l s

/-- R115: SOUND-OFF for a drill. -/
def soundOff (initiator : Station) (number : Byte) (s : State) : State :=
  forEach allZones (fun z t =>
    if (t.zone z).owner.any (Owner.isDrill initiator number) then sounderOff z t else t) s

/-- R115: the class of a zone's sounder line reported NORMAL. -/
def sounderNormal (z : ZoneId) (s : State) : State :=
  match (s.zone z).owner with
  | some (.drill i n) => if s.drillSounding i n && !(s.zone z).sounderOn then sounderStart z s else s
  | _ => s

/-- R116: the class of a zone's page line reported NORMAL. -/
def pageNormal (z : ZoneId) (s : State) : State :=
  if (s.zone z).level.isPage && !(s.zone z).pageOn then pageLineOn z s else s

/-- R96: a class change back to NORMAL, reported to the zone that names the line. -/
def normalToZone (l : LineId) (s : State) : State :=
  match s.sounderZone l, s.pageZone l with
  | some z, _ => sounderNormal z s
  | none, some z => pageNormal z s
  | none, none => s

/-- R119: what a supply warning leaves of a zone. -/
def Zone.emptied (r : Zone) : Zone :=
  { Zone.afterReset with bellLine := r.bellLine, pageLine := r.pageLine, sounderLine := r.sounderLine }

/-- R119: every zone is emptied; a deferred bell is answered MISSED, SUPPLY. -/
def emptyZones (s : State) : State :=
  syncTrunk (forEach allZones (fun z t =>
    let u := match (t.zone z).deferred with
      | some b => bellMissed b t
      | none => t
    u.setZone z (u.zone z).emptied) s)

end Sys2Proof.Machine
end

