-- ==== Sys2Proof/Machine/Bells.lean ====
section
/-! DEFINITION. The Bell Scheduler (07_bell_plans.md): the plan of the day, overrides, shifts, marks, the
taking of entries, and what movements of school time do. -/

namespace Sys2Proof.Machine

/-! ## Plans -/

/-- R122: the window of a plan code; a no-bell day has count 0. -/
def BellScheduler.windowOf (b : BellScheduler) : PlanCode → PlanWindow
  | .plan p => b.plans[p]
  | .noBell => { base := 0, count := 0 }

/-- R124: the window of the active plan; none is a window of count 0. -/
def BellScheduler.window (b : BellScheduler) : PlanWindow :=
  match b.activePlan with
  | some c => b.windowOf c
  | none => { base := 0, count := 0 }

/-- The bell list entry at a list index. -/
def BellScheduler.entryAt (b : BellScheduler) (i : Nat) : BellEntry :=
  if h : i < 128 then b.entries[i] else BellEntry.default

/-- R122: the usable entries of a window in relative index order: true where the time of day is not
earlier than that of the latest usable entry before it. -/
def usableFrom (b : BellScheduler) (latest : Nat) : List Nat → List Bool
  | [] => []
  | i :: rest =>
    if latest ≤ (b.entryAt i).timeOfDay then true :: usableFrom b (b.entryAt i).timeOfDay rest
    else false :: usableFrom b latest rest

/-- The list indices of a window. -/
def PlanWindow.indices (w : PlanWindow) : List Nat := (List.range w.count).map (w.base + ·)

/-- R122, R124: every usable entry of a window OPEN. -/
def BellScheduler.freshMarks (b : BellScheduler) (w : PlanWindow) : List Mark :=
  (usableFrom b 0 w.indices).map fun u => if u then .opened else .unusable

/-- R123: the override for a day. -/
def BellScheduler.overrideFor (b : BellScheduler) (day : Nat) : Option PlanCode :=
  (b.overrides.find? fun o => o.1 == day).map Prod.snd

/-- R124: the active plan of a plan day and its source. -/
def BellScheduler.planFor (b : BellScheduler) (day : Nat) : PlanCode × PlanSource :=
  match b.overrideFor day with
  | some c => (c, .override)
  | none => (b.weekday[(⟨day % 7, Nat.mod_lt _ (by decide)⟩ : Fin 7)], .weekdayMap)

/-! ## Effective times -/

/-- R127, R128: a record's range holds a relative index; the part of a range at or beyond the count names
nothing, and every relative index asked of is below the count. -/
def ShiftRecord.holds (i : Nat) : ShiftRecord → Bool
  | .shift first last _ => first ≤ i && i ≤ last
  | .cancel first last => first ≤ i && i ≤ last

/-- R128: the minutes a record adds at a relative index. -/
def ShiftRecord.minutesAt (i : Nat) (r : ShiftRecord) : Int :=
  match r with
  | .shift _ _ delta => if r.holds i then delta else 0
  | .cancel _ _ => 0

/-- R128: the effective time of the entry at a relative index, in seconds of the plan day. -/
def BellScheduler.effectiveTime (b : BellScheduler) (i : Nat) : Int :=
  ((b.entryAt (b.window.base + i)).timeOfDay : Int) + 60 * (b.shifts.map (ShiftRecord.minutesAt i)).sum

/-- R128: the entry at a relative index is cancelled. -/
def BellScheduler.cancelled (b : BellScheduler) (i : Nat) : Bool :=
  b.shifts.any fun r => match r with
    | .cancel _ _ => r.holds i
    | .shift _ _ _ => false

/-- R128: the effective full time, in ms. -/
def BellScheduler.effectiveFull (b : BellScheduler) (day i : Nat) : Int :=
  (day * Config.dayMs : Nat) + b.effectiveTime i * 1000

/-- R128: the entry at a relative index is outside the day. -/
def BellScheduler.outsideDay (b : BellScheduler) (i : Nat) : Bool :=
  b.effectiveTime i < 0 || 86400 ≤ b.effectiveTime i

/-- R130: the mark at a relative index. -/
def BellScheduler.markAt (b : BellScheduler) (i : Nat) : Mark := b.marks.getD i .unusable

/-- R130: the next entry's relative index and due time. -/
def BellScheduler.next (b : BellScheduler) : Option (Nat × Int) :=
  match b.planDay with
  | none => none
  | some day =>
    ((List.range b.marks.length).filter fun i => b.markAt i == .opened && !b.cancelled i).foldl
      (fun best i =>
        let due := b.effectiveFull day i
        match best with
        | none => some (i, due)
        | some (_, d) => if due < d then some (i, due) else best) none

/-! ## Marks -/

/-- The mark at a relative index rewritten. -/
def BellScheduler.setMark (b : BellScheduler) (i : Nat) (m : Mark) : BellScheduler :=
  { b with marks := b.marks.set i m }

/-- Every OPEN entry that `p` holds of is marked PASSED. -/
def BellScheduler.passOpen (b : BellScheduler) (p : Nat → Bool) : BellScheduler :=
  { b with marks := b.marks.mapIdx fun i m => if m == .opened && p i then .passed else m }

/-- The entry at a relative index is due at or before a full time. -/
def BellScheduler.dueBy (b : BellScheduler) (school : Option Nat) (i : Nat) : Bool :=
  match b.planDay, school with
  | some day, some t => b.effectiveFull day i ≤ (t : Int)
  | _, _ => false

/-- R123: a list index joins the taken set. -/
def BellScheduler.take (b : BellScheduler) (index : Nat) : BellScheduler :=
  if index ∈ b.taken then b else { b with taken := b.taken ++ [index] }

/-- The Bell Scheduler rewritten. -/
def State.setBs (s : State) (b : BellScheduler) : State := { s with bs := b }

/-! ## Taking -/

/-- R137: the BS examines entries: RUNNING, or HOLD-UP with config state LISTENING or RUNNING. -/
def State.examines (s : State) : Bool := s.loaded && !s.listening

/-- R131: the entry at a relative index of plan day `day`, due at `due`, is examined. -/
def examineEntry (day i : Nat) (due : Int) (s : State) : State :=
  let index := s.bs.window.base + i
  let entry := s.bs.entryAt index
  if s.inTime due then
    forEach (zonesOf entry.zones)
      (bellRequest { day, index := i, effective := due, pattern := entry.pattern })
      (s.setBs ((s.bs.setMark i .taken).take index))
  else
    let b := s.bs.setMark i .passed
    s.setBs { b with missed := countUp b.missed (zoneCount entry.zones) }

/-- R131: the entries due by now, one after another in next-entry order (`n` bounds their number). -/
def examineDueUpTo : Nat → State → State
  | 0, s => s
  | n + 1, s =>
    match s.bs.planDay, s.bs.next, s.school with
    | some day, some (i, due), some t =>
      if due ≤ (t : Int) then examineDueUpTo n (examineEntry day i due s) else s
    | _, _, _ => s

/-- R131, R137: every entry due by now is examined, in the states that examine. -/
def examineDue (s : State) : State :=
  if s.examines then examineDueUpTo s.bs.marks.length s else s

/-! ## The plan day -/

/-- R134 steps 1 to 6 save step 5: a new plan day. -/
def BellScheduler.startDay (b : BellScheduler) (day : Nat) : BellScheduler :=
  let b1 := { b with planDay := some day, overrides := b.overrides.filter fun o => day ≤ o.1,
                     shifts := [], taken := [] }
  let p := b1.planFor day
  { b1 with activePlan := some p.1, source := p.2, marks := b1.freshMarks (b1.windowOf p.1) }

/-- R134: a day change starts a new plan day when its day is later than the plan day. -/
def newPlanDay (day : Nat) (s : State) : State :=
  match s.bs.planDay with
  | none => s
  | some d => if d < day then s.setBs { s.bs.startDay day with missed := 0 } else s

/-- R135: the plan day of an adoption, at full time `t`; entries already reached are PASSED, uncounted. -/
def adoptPlanDay (t : Nat) (s : State) : State :=
  let b := s.bs.startDay (dayOf t)
  s.setBs (b.passOpen (b.dueBy (some t)))

/-- R17, R134: a day change reached by running, at full time `t`. -/
def bellsDayChange (t : Nat) (s : State) : State := examineDue (newPlanDay (dayOf t) s)

/-- R132, R133, R135: a movement notice. -/
def bellsMovement (m : Movement) (s : State) : State :=
  match m.kind with
  | .adoption => adoptPlanDay m.after s
  | .slew | .step =>
    if m.amount < 0 then s
    else
      let s1 := examineDue s
      if m.day then examineDue (newPlanDay (dayOf m.after) s1) else s1

/-- R140: school time taken up at the end of LOADING. -/
def bellsTakeUp (s : State) : State :=
  match s.school, s.bs.planDay with
  | none, _ => s
  | some t, none => adoptPlanDay t s
  | some t, some _ => newPlanDay (dayOf t) s

/-! ## Overrides and shifts -/

/-- R123: an override placed in ascending day order. -/
def insertOverride (day : Nat) (code : PlanCode) : List (Nat × PlanCode) → List (Nat × PlanCode)
  | [] => [(day, code)]
  | o :: rest => if day < o.1 then (day, code) :: o :: rest else o :: insertOverride day code rest

/-- R125 rows 3 to 8: the override list after a DAYPLAN; none = ignored or refused. `code = none` is
code 14. -/
def overridesAfter (day : Nat) (code : Option PlanCode) (list : List (Nat × PlanCode)) :
    Option (List (Nat × PlanCode)) :=
  let known := list.any fun o => o.1 == day
  match code with
  | none => if known then some (list.filter fun o => o.1 != day) else none
  | some c =>
    if known then some (list.map fun o => if o.1 == day then (day, c) else o)
    else if list.length < Config.overrideLimit then some (insertOverride day c list)
    else if list.all fun o => o.1 < day then none
    else some (insertOverride day c list.dropLast)

/-- R126: a change of the plan of the day. -/
def BellScheduler.changePlan (b : BellScheduler) (code : PlanCode) (source : PlanSource)
    (school : Option Nat) : BellScheduler :=
  let b1 := { b with activePlan := some code, source, shifts := [], marks := b.freshMarks (b.windowOf code) }
  b1.passOpen fun i => b1.taken.contains (b1.window.base + i) || b1.dueBy school i

/-- R125: the active plan selected again after a change that concerns the plan day. -/
def BellScheduler.reselect (b : BellScheduler) (day : Nat) (school : Option Nat) : BellScheduler :=
  let p := b.planFor day
  if b.activePlan = some p.1 then { b with source := p.2 } else b.changePlan p.1 p.2 school

/-- R125: a DAYPLAN whose plan code is of the first row's list (none = 14). -/
def takeDayplan (day : Nat) (code : Option PlanCode) (s : State) : State :=
  if (s.bs.planDay.any fun d => day < d) then s
  else
    match overridesAfter day code s.bs.overrides with
    | none => s
    | some list =>
      let b := { s.bs with overrides := list }
      s.setBs (if b.planDay = some day then b.reselect day s.school else b)

/-- R129: after a change of the shift list, entries reached or outside the day are PASSED, uncounted. -/
def BellScheduler.afterShift (b : BellScheduler) (school : Option Nat) : BellScheduler :=
  b.passOpen fun i => b.dueBy school i || b.outsideDay i

/-- R127: a SHIFT frame for a day, by the first row that applies. -/
def takeShift (day kind first last : Nat) (delta : Int) (s : State) : State :=
  let b := s.bs
  if b.planDay ≠ some day then s
  else if kind = 3 then s.setBs ({ b with shifts := [] }.afterShift s.school)
  else if kind = 1 ∨ kind = 2 then
    if b.window.count ≤ first ∨ last < first then s
    else if Config.shiftLimit ≤ b.shifts.length then s
    else
      let r : ShiftRecord :=
        if kind = 1 then .shift first last (clampInt (-120) 120 delta) else .cancel first last
      s.setBs ({ b with shifts := b.shifts ++ [r] }.afterShift s.school)
  else s

end Sys2Proof.Machine
end

