-- ==== Sys2Proof/Machine/Queue.lean ====
section
/-! DEFINITION. The transmit side of the Yard Line Controller (02_the_yard_line.md, 2.2 to 2.4): requests to
queue a frame, the full queue, selection of the head with its back-off draw, and the start of a
transmission. -/

namespace Sys2Proof.Machine

/-! ## Key lamps and the own CLAIM -/

/-- R142: a refusal of the key is shown, for 2 s from now. -/
def showRefusal (k : KeyId) (s : State) : State :=
  s.setKey k { s.key k with refusalEnd := some (s.now + Config.refusalMs) }

/-- The key's lamp goes off: no refusal is shown any longer (notes/assumptions/24.md). -/
def lampOff (k : KeyId) (s : State) : State := s.setKey k { s.key k with refusalEnd := none }

/-- The own claim record rewritten. -/
def State.setOwn (s : State) (o : Option OwnClaim) : State := { s with fu := { s.fu with own := o } }

/-- R147: the own record is CLAIMING with the claim of this number. -/
def State.claimingWith (s : State) (number : Byte) : Bool :=
  match s.fu.own with
  | some o => o.phase == .claiming && o.number == number
  | none => false

/-- R147: the own CLAIM was DROPPED or GIVEN-UP. -/
def claimLost (number : Byte) (s : State) : State :=
  match s.fu.own with
  | some o =>
    if o.phase == .claiming && o.number == number then showRefusal o.key (s.setOwn none) else s
  | none => s

/-- R36: DROPPED or GIVEN-UP, told to the requester: only the FU acts, and only for its CLAIM. -/
def reportLost (f : OutFrame) (s : State) : State :=
  match f with
  | .claim body => claimLost body.number s
  | _ => s

/-! ## The queue -/

/-- The Yard Line Controller rewritten. -/
def State.setYlc (s : State) (y : YardLine) : State := { s with ylc := y }

/-- R26: the kinds the station takes requests for in its present state. -/
def State.takesFrame (s : State) (f : OutFrame) : Bool :=
  s.running || (s.faultValid && s.ds.supply == .run &&
    match f with
    | .beacon | .statusReply _ _ => true
    | _ => false)

/-- R27: a frame as it joins. -/
def QueuedFrame.new (f : OutFrame) (age : Nat) : QueuedFrame :=
  { frame := f, age, attempts := 0, selected := false, inverted := false }

/-- R27: `a` is served ahead of `b`; of two of one class and age the one that joined first is. -/
def QueuedFrame.ahead (a b : QueuedFrame) : Bool :=
  a.frame.classRank < b.frame.classRank || (a.frame.classRank == b.frame.classRank && a.age < b.age)

/-- R27: the place of the head of the queue. -/
def headIndex (q : List QueuedFrame) : Option Nat :=
  (q.zipIdx.foldl (fun best x =>
    match best with
    | none => some x
    | some y => if x.1.ahead y.1 then some x else best) none).map Prod.snd

/-- R30: `a` is given up before `b`: a lower class, or the youngest of one class. DESIGN CHOICE
(notes/assumptions/44.md): of two of one class and one queue age the one that joined last is given up. -/
def QueuedFrame.before (a b : QueuedFrame) : Bool :=
  b.frame.classRank < a.frame.classRank || (b.frame.classRank == a.frame.classRank && b.age ≤ a.age)

/-- R30: the place of the youngest frame of the lowest class among those not selected, when that class is
below `rank`. -/
def victimIndex (q : List QueuedFrame) (rank : Nat) : Option Nat :=
  (q.zipIdx.foldl (fun best x =>
    if x.1.selected || x.1.frame.classRank ≤ rank then best
    else match best with
      | none => some x
      | some y => if x.1.before y.1 then some x else best) none).map Prod.snd

/-- R27: the newcomer joins. -/
def joinQueue (f : OutFrame) (s : State) : State :=
  s.setYlc { s.ylc with queue := s.ylc.queue ++ [QueuedFrame.new f s.now] }

/-- R30: a frame is reported DROPPED at a full queue. -/
def dropAtFull (f : OutFrame) (s : State) : State := reportLost f (s.setYlc s.ylc.countDrop)

/-- R26, R27, R30: a request to queue a frame. -/
def enqueue (f : OutFrame) (s : State) : State :=
  if !s.takesFrame f then reportLost f s
  else if s.ylc.queue.length < Config.queueLimit then joinQueue f s
  else
    match victimIndex s.ylc.queue f.classRank with
    | none => dropAtFull f s
    | some i =>
      let out := s.ylc.queue[i]?
      let s1 := s.setYlc { s.ylc with queue := s.ylc.queue.eraseIdx i }
      joinQueue f (match out with
        | some q => dropAtFull q.frame s1
        | none => s1)

/-- The queued BEACON, if any. -/
def State.queuedBeacon (s : State) : Option QueuedFrame := s.ylc.queue.find? fun q => q.frame == .beacon

/-- R5, R28: the TB asks for a BEACON. -/
def requestBeacon (s : State) : State :=
  match s.queuedBeacon with
  | none => enqueue .beacon s
  | some q => if q.selected then { s with tb := { s.tb with heldBeacon := true } } else s

/-- R29, R41: a STATUS-ASK to be answered. -/
def requestReply (asker : Station) (page : Byte) (s : State) : State :=
  match s.ylc.queue.find? fun q => q.frame == .statusReply asker page with
  | none => enqueue (.statusReply asker page) s
  | some q =>
    if q.selected && !s.ylc.heldAsks.contains (asker, page) then
      s.setYlc { s.ylc with heldAsks := s.ylc.heldAsks ++ [(asker, page)] }
    else s

/-! ## Attempts -/

/-- R33: a transmission is in progress. -/
def State.transmitting (s : State) : Bool :=
  match s.ylc.attempt with
  | .sending _ => true
  | .none | .waiting _ => false

/-- R31: the place of the selected frame. -/
def selectedIndex (q : List QueuedFrame) : Option Nat :=
  (q.zipIdx.find? fun x => x.1.selected).map Prod.snd

/-- The frame at a place of the queue rewritten. -/
def State.setQueued (s : State) (i : Nat) (q : QueuedFrame) : State :=
  s.setYlc { s.ylc with queue := s.ylc.queue.set i q }

/-- R44: a STATUS-REPLY that begins while the flag is set is marked inverted, and the flag is cleared. -/
def takeInvert (i : Nat) (q : QueuedFrame) (s : State) : State :=
  match q.frame with
  | .statusReply _ _ =>
    if s.ylc.invertNext then
      let s1 := s.setQueued i { q with inverted := true }
      s1.setYlc { s1.ylc with invertNext := false }
    else s
  | _ => s

/-- R6, R33, R42: the transmission of the selected frame begins; its own start bit sets BUSY (R23). -/
def beginTransmission (s : State) : State :=
  match selectedIndex s.ylc.queue with
  | none => s
  | some i =>
    match s.ylc.queue[i]? with
    | none => s
    | some q =>
      let s1 := takeInvert i q s
      let inverted := match s1.ylc.queue[i]? with
        | some r => r.inverted
        | none => false
      let chars := frameChars q.frame.kind ((s.own.map stationByte).getD 0) (s.frameBody q.frame) inverted
      s1.setYlc { s1.ylc with attempt := .sending chars, busy := true, sendIndex := s1.ylc.sendIndex + 1 }

/-- R32: the slots drawn for attempt `k`, by the free generator as the last reset seeded it
(notes/assumptions/1.md). -/
def State.backOffSlots (s : State) (k : Nat) : Nat :=
  Config.backOffDraw s.own s.ylc.seed s.ylc.drawIndex % 2 ^ min k 5

/-- R32: the access wait begins; with the line QUIET and no slot drawn the transmission begins at once. -/
def beginAttempt (k : Nat) (s : State) : State :=
  let slots := s.backOffSlots k
  let s1 := s.setYlc { s.ylc with attempt := .waiting slots, drawIndex := s.ylc.drawIndex + 1 }
  if !s1.ylc.busy && slots == 0 then beginTransmission s1 else s1

/-- R31: with no frame selected, the head is selected and an attempt of it begins. -/
def selectNext (s : State) : State :=
  if (selectedIndex s.ylc.queue).isSome then s
  else
    match headIndex s.ylc.queue with
    | none => s
    | some i =>
      match s.ylc.queue[i]? with
      | none => s
      | some q => beginAttempt (q.attempts + 1) (s.setQueued i { q with selected := true })

/-! ## The end of a step -/

/-- A step's effect `f`, then what every step ends with: the zones settle (R111–R113, R117), the arbiter
checks (R83) when the requests of the instant have joined, and the YLC selects (R31). -/
def asOneChange (f : State → State) (s : State) : State :=
  selectNext (arbitrate (settleZones s.za.zones (f s)))

/-- A command of a station that has supply and is not held in reset. -/
def change (f : State → State) (s : State) : State := whenUp (asOneChange f) s

end Sys2Proof.Machine
end

