-- ==== Sys2Proof/Machine/Floor.lean ====
section
/-! DEFINITION. The Floor Unit (08_the_announcement_floor.md): page keys, the floor view, the claim list, the
own claim and the ways a floor ends. -/

namespace Sys2Proof.Machine

/-! ## Small writes -/

/-- The floor view rewritten. -/
def State.setView (s : State) (v : Option FloorView) : State := { s with fu := { s.fu with view := v } }

/-- The claim list rewritten. -/
def State.setClaims (s : State) (c : List ClaimEntry) : State := { s with fu := { s.fu with claims := c } }

/-- MIC-LIVE rewritten. -/
def State.setMic (s : State) (on : Bool) : State := { s with fu := { s.fu with micLive := on } }

/-- The codes of a RELEASE's reason (2.11). -/
inductive ReleaseReason where
  | ended
  | withdrawn
  | expired
  | noZones
  | yield
  deriving DecidableEq, Repr

/-- The byte of a RELEASE's reason. -/
def releaseReasonByte : ReleaseReason → Byte
  | .ended => 1
  | .withdrawn => 2
  | .expired => 3
  | .noZones => 4
  | .yield => 5

/-- The FU asks for RELEASE(number, reason). -/
def queueRelease (number : Byte) (why : ReleaseReason) (s : State) : State :=
  enqueue (.release number (releaseReasonByte why)) s

/-! ## The view -/

/-- R143: the view is HELD by the floor of this holder and claim number. -/
def State.viewIs (s : State) (holder : Station) (number : Byte) : Bool :=
  match s.fu.view with
  | some v => v.holder == holder && v.number == number
  | none => false

/-- R143: the floor leaves the view and is released at every zone. -/
def floorLeavesView (s : State) : State :=
  match s.fu.view with
  | none => s
  | some v => releaseEverywhere (Owner.isFloor v.holder v.number) (s.setView none)

/-- R143: the named floor leaves the view, if the view is HELD by it. -/
def floorLeaves (holder : Station) (number : Byte) (s : State) : State :=
  if s.viewIs holder number then floorLeavesView s else s

/-- R143: the own floor of this claim number leaves the view. -/
def ownFloorLeaves (number : Byte) (s : State) : State :=
  match s.own with
  | some n => floorLeaves n number s
  | none => s

/-- The own record returns to IDLE: MIC-LIVE goes off (R154) and a running chime is cancelled (R90). -/
def ownIdle (s : State) : State := cancelChime ((s.setOwn none).setMic false)

/-! ## Rank and the claim list -/

/-- R144: a claim of class `c` from station `n` outranks one of class `d` from station `m`. -/
def outranks (c : FloorClass) (n : Station) (d : FloorClass) (m : Station) : Bool :=
  (c == .urgent && d == .general) || (c == d && n.val < m.val)

/-- R144: one entry outranks another. -/
def ClaimEntry.outranks (a b : ClaimEntry) : Bool := Machine.outranks a.cls a.claimant b.cls b.claimant

/-- R144: the lowest-ranked entry of a list. -/
def lowestRanked : List ClaimEntry → Option ClaimEntry
  | [] => none
  | a :: rest =>
    match lowestRanked rest with
    | none => some a
    | some b => if a.outranks b then some b else some a

/-- R144: the claim list after a claim comes to join, the entry displaced from a full list, and whether the
claim stands in the list. -/
def joinList (c : ClaimEntry) (list : List ClaimEntry) : List ClaimEntry × Option ClaimEntry × Bool :=
  if list.any fun e => e.claimant == c.claimant then
    (list.map fun e => if e.claimant == c.claimant then c else e, none, true)
  else if list.length < Config.claimLimit then (list ++ [c], none, true)
  else
    match lowestRanked list with
    | none => (list, none, false)
    | some low =>
      if c.outranks low then (list.filter (fun e => e.claimant != low.claimant) ++ [c], some low, true)
      else (list, none, false)

/-- R147, last row: the own claim was discarded or displaced at a full list. -/
def ownClaimWithdrawn (number : Byte) (s : State) : State :=
  match s.fu.own with
  | some o =>
    if o.phase == .claiming && o.number == number then
      queueRelease number .withdrawn (showRefusal o.key (s.setOwn none))
    else s
  | none => s

/-- R144, R147: a claim joins, and what follows for the own claim when it is displaced or discarded. -/
def joinClaim (c : ClaimEntry) (s : State) : State :=
  let (list, displaced, joined) := joinList c s.fu.claims
  let s1 := s.setClaims list
  let s2 := match displaced with
    | some low => if s.own = some low.claimant then ownClaimWithdrawn low.number s1 else s1
    | none => s1
  if !joined && s.own = some c.claimant then ownClaimWithdrawn c.number s2 else s2

/-- R151, R155, R160: the claim of a claimant leaves the list. -/
def claimLeaves (claimant : Station) (s : State) : State :=
  s.setClaims (s.fu.claims.filter fun e => e.claimant != claimant)

/-- R155, R160: the own claim leaves the list. -/
def ownClaimLeaves (s : State) : State :=
  match s.own with
  | some n => claimLeaves n s
  | none => s

/-! ## Making a claim -/

/-- R146: a press of the key is refused. -/
def State.pressRefused (s : State) (own : Station) (k : PageKey) : Bool :=
  !s.running || k.targets.isEmpty || s.fu.own.isSome || s.dru.yielding ||
  (s.drillRunning && k.cls == .general) ||
  (match s.fu.view with
   | some v => v.holder != own && classAtOrAbove v.cls k.cls
   | none => false) ||
  s.fu.claims.any fun e => outranks e.cls e.claimant k.cls own

/-- R145: the expected responders of a target list. -/
def State.expectedResponders (s : State) (own : Station) (targets : List Target) : StationSet :=
  targets.foldl (fun set t =>
    match t.station with
    | .all => set ||| s.targetSet
    | .one n => if n = own then set else set ||| stationSet n) 0

/-- R145: the own claim record of an accepted press. -/
def State.claimOf (s : State) (own : Station) (key : KeyId) (k : PageKey) : OwnClaim :=
  { phase := .claiming, key, number := s.fu.counter + 1, cls := k.cls, window := k.window,
    holdLimit := k.holdLimit, targets := k.targets, ownZones := zonesTargeted (some own) k.targets,
    expected := s.expectedResponders own k.targets, responders := Vector.replicate 30 none,
    readyWaitEnd := none }

/-- R146: the body of the CLAIM. -/
def OwnClaim.body (o : OwnClaim) : ClaimBody :=
  { number := o.number, cls := classByte o.cls, window := BitVec.ofNat 16 o.window,
    holdLimit := BitVec.ofNat 16 o.holdLimit, targets := o.targets.map Target.pair }

/-- R146: a press of an armed key in LISTENING or RUNNING. -/
def pressKey (key : KeyId) (s : State) : State :=
  let k := s.fu.keys[key]
  match s.own with
  | none => showRefusal key s
  | some own =>
    if s.pressRefused own k then showRefusal key s
    else
      let o := s.claimOf own key k
      enqueue (.claim o.body) { s with fu := { s.fu with own := some o, counter := o.number } }

/-- R147: the own CLAIM of this number is SENT. -/
def claimSent (number : Byte) (s : State) : State :=
  match s.fu.own, s.own with
  | some o, some n =>
    if o.phase == .claiming && o.number == number then
      joinClaim { claimant := n, number, cls := o.cls, targets := o.targets, holdLimit := o.holdLimit,
                  windowEnd := s.now + o.window, objected := false } s
    else s
  | _, _ => s

/-! ## The own floor -/

/-- R154: MIC-LIVE goes on with the record LIVE. -/
def enterLive (s : State) : State :=
  match s.fu.own with
  | some o => if o.phase == .chiming then (s.setOwn (some { o with phase := .live })).setMic true else s
  | none => s

/-- R154: the own record enters CHIMING. -/
def enterChiming (o : OwnClaim) (s : State) : State :=
  match startChime (s.setOwn (some { o with phase := .chiming, readyWaitEnd := none })) with
  | (s1, true) => enterLive s1
  | (s1, false) => s1

/-- R153: no zone anywhere took the floor. -/
def OwnClaim.noZones (o : OwnClaim) (accepted : ZoneMask) : Bool :=
  accepted == 0 && o.responders.toList.all fun m => m.getD 0 == 0

/-- The accepted zones of the view when it is HELD by the own floor of this number. -/
def State.ownAccepted (s : State) (number : Byte) : ZoneMask :=
  match s.fu.view with
  | some v => if s.own = some v.holder && v.number == number then v.accepted else 0
  | none => 0

/-- R153: the gathering closes. -/
def closeGathering (o : OwnClaim) (s : State) : State :=
  if o.noZones (s.ownAccepted o.number) then
    ownFloorLeaves o.number (showRefusal o.key (queueRelease o.number .noZones (s.setOwn none)))
  else enterChiming o s

/-- R153: no expected responder is unanswered. -/
def OwnClaim.allAnswered (o : OwnClaim) : Bool :=
  allStations.all fun n => !inSet o.expected n || o.responders[n].isSome

/-- R153: the win of the own claim. -/
def ownWin (number : Byte) (s : State) : State :=
  match s.fu.own with
  | some o =>
    if o.phase == .claiming && o.number == number then
      let g := { o with phase := .gathering, readyWaitEnd := some (s.now + s.fu.readyWait) }
      let s1 := s.setOwn (some g)
      if g.allAnswered then closeGathering g s1 else s1
    else s
  | none => s

/-- The own record holds a floor: GATHERING, CHIMING or LIVE. -/
def OwnPhase.holdsFloor : OwnPhase → Bool
  | .claiming => false
  | .gathering | .chiming | .live => true

/-- R152 step 1: the own floor is displaced: no frame, and the key's lamp goes off. -/
def ownDisplaced (s : State) : State :=
  match s.fu.own with
  | some o => if o.phase.holdsFloor then lampOff o.key (ownIdle s) else s
  | none => s

/-- R156, first row: the hold of the own floor has ended. -/
def ownHoldEnds (o : OwnClaim) (s : State) : State :=
  ownFloorLeaves o.number (lampOff o.key (ownIdle (queueRelease o.number .expired s)))

/-! ## Frames heard -/

/-- R148: the claim a CLAIM carries, as an entry of the list. -/
def claimEntryOf (sender : Station) (b : ClaimBody) (now : Nat) : ClaimEntry :=
  { claimant := sender, number := b.number, cls := classOfByte b.cls,
    targets := b.targets.filterMap targetOfPair, holdLimit := clampNat 10 600 b.holdLimit.toNat,
    windowEnd := now + clampNat 100 2000 b.window.toNat, objected := false }

/-- R148: a CLAIM, in LISTENING or RUNNING. -/
def hearClaim (sender : Station) (b : ClaimBody) (s : State) : State :=
  let c := claimEntryOf sender b s.now
  let s1 := match s.fu.view with
    | some v => if v.holder == sender && v.number != b.number then floorLeavesView s else s
    | none => s
  let s2 := joinClaim c s1
  match s2.fu.own with
  | some o =>
    if s2.running && o.phase.holdsFloor && classAtOrAbove o.cls c.cls then
      enqueue (.object sender b.number 1) s2
    else s2
  | none => s2

/-- R149: an OBJECT. -/
def hearObject (claimant : Station) (number : Byte) (s : State) : State :=
  if s.fu.claims.any fun e => e.claimant == claimant && e.number == number then
    s.setClaims (s.fu.claims.map fun e =>
      if e.claimant == claimant && e.number == number then { e with objected := true } else e)
  else
    match s.fu.own with
    | some o =>
      if s.own = some claimant && o.number == number && o.phase.holdsFloor then
        queueRelease o.number .withdrawn (ownFloorLeaves o.number (showRefusal o.key (ownIdle s)))
      else s
    | none => s

/-- R150: a RELEASE. -/
def hearRelease (sender : Station) (number : Byte) (s : State) : State :=
  floorLeaves sender number
    (s.setClaims (s.fu.claims.filter fun e => !(e.claimant == sender && e.number == number)))

/-- R153: a READY. -/
def hearReady (sender holder : Station) (number : Byte) (mask : ZoneMask) (s : State) : State :=
  match s.fu.own with
  | some o =>
    if s.own = some holder && o.number == number && o.phase.holdsFloor then
      let g := { o with responders := o.responders.set sender (some mask) }
      let s1 := s.setOwn (some g)
      if g.phase == .gathering && g.allAnswered then closeGathering g s1 else s1
    else s
  | none => s

/-! ## The window close -/

/-- R151: the claim wins at its window close, among the other entries of the list. -/
def State.claimWins (s : State) (x : ClaimEntry) : Bool :=
  !(s.fu.claims.any fun e => e.claimant != x.claimant && e.outranks x) && !x.objected &&
  match s.fu.view with
  | some v => (v.holder == x.claimant && v.number == x.number) || !classAtOrAbove v.cls x.cls
  | none => true

/-- R151: the own claim loses: the own record returns to IDLE, with a refusal. -/
def claimLoses (x : ClaimEntry) (s : State) : State :=
  if s.own = some x.claimant then claimLost x.number s else s

/-- R152 step 1: a floor other than the winner's is displaced from the view. -/
def displaceFloor (x : ClaimEntry) (s : State) : State :=
  match s.fu.view with
  | none => s
  | some v =>
    if v.holder == x.claimant && v.number == x.number then s
    else
      let s1 := floorLeavesView s
      if s.own = some v.holder then ownDisplaced s1 else s1

/-- R152 step 2: the view becomes HELD by the winner. -/
def ClaimEntry.view (x : ClaimEntry) (now : Nat) : FloorView :=
  { holder := x.claimant, number := x.number, cls := x.cls, holdEnd := now + x.holdLimit * 1000,
    heldSince := now, accepted := 0 }

/-- R152 step 3: one zone is offered; the masks of zones accepted and refused so far go along. -/
def offerZone (x : ClaimEntry) (z : ZoneId) (a : State × ZoneMask × ZoneMask) :
    State × ZoneMask × ZoneMask :=
  match pageRequest x.claimant x.number x.cls z a.1 with
  | (s1, true) => (s1, a.2.1 ||| zoneBit z, a.2.2)
  | (s1, false) => (s1, a.2.1, a.2.2 ||| zoneBit z)

/-- R152 step 3: the zones of this station that the claim targets are offered. -/
def offerZones (x : ClaimEntry) (zones : List ZoneId) (s : State) : State × ZoneMask × ZoneMask :=
  zones.foldl (fun a z => offerZone x z a) (s, 0, 0)

/-- R152: the claim wins in RUNNING; for the own claim R153 follows. -/
def claimWon (x : ClaimEntry) (s : State) : State :=
  let v := x.view s.now
  let mask := zonesTargeted s.own x.targets
  let (s1, accepted, refused) := offerZones x (zonesOf mask) ((displaceFloor x s).setView (some v))
  let s2 := s1.setView (some { v with accepted })
  if s.own = some x.claimant then ownWin x.number s2
  else if mask = 0 then s2
  else enqueue (.ready x.claimant x.number accepted refused) s2

/-- R161: the claim wins in LISTENING: HELD in the view, no zone offered, nothing queued. -/
def claimWonListening (x : ClaimEntry) (s : State) : State :=
  (displaceFloor x s).setView (some (x.view s.now))

/-- R151: the window of an entry of the claim list closes. -/
def closeWindow (x : ClaimEntry) (s : State) : State :=
  let wins := s.claimWins x
  let s1 := claimLeaves x.claimant s
  if !wins then claimLoses x s1
  else if s.running then claimWon x s1
  else claimWonListening x s1

/-! ## The end of a floor -/

/-- R155: a release of the key of the own claim record. -/
def releaseOwnKey (o : OwnClaim) (s : State) : State :=
  match o.phase with
  | .claiming =>
    ownClaimLeaves (lampOff o.key (ownIdle (queueRelease o.number .withdrawn s)))
  | .gathering | .chiming | .live =>
    ownFloorLeaves o.number (lampOff o.key (ownIdle (queueRelease o.number .ended s)))

/-- R158: the summary a BEACON of `s` shows, or its absence, contradicts a floor of its sender in the view. -/
def contradicts (v : FloorView) (sender : Station) (summary : Option FloorSummary) : Bool :=
  v.holder == sender &&
  match summary with
  | none => true
  | some f => !(f.holder == sender && f.number == v.number)

/-- R158: the floor adopted from a summary. -/
def FloorSummary.view (f : FloorSummary) (now : Nat) : FloorView :=
  { holder := f.holder, number := f.number, cls := f.cls, holdEnd := now + f.holdRemaining.toNat * 1000,
    heldSince := now, accepted := 0 }

/-- R158: a floor summary, or its absence, in a BEACON whose delimiter fell at `delimiter`. -/
def hearFloorSummary (sender : Station) (summary : Option FloorSummary) (delimiter : Nat) (s : State) :
    State :=
  match s.fu.view with
  | some v =>
    if contradicts v sender summary && v.heldSince + Config.contradictionMs ≤ delimiter then
      floorLeavesView s
    else s
  | none =>
    match summary with
    | none => s
    | some f =>
      if s.own = some f.holder ||
          s.fu.claims.any fun e => e.claimant == f.holder && e.number == f.number then s
      else s.setView (some (f.view s.now))

/-- R159: a peer has become LOST. -/
def floorPeerLost (n : Station) (s : State) : State :=
  match s.fu.view with
  | some v => if v.holder == n then floorLeavesView s else s
  | none => s

/-- R160: the station starts to yield. -/
def floorYield (s : State) : State :=
  let s1 := match s.fu.own with
    | some o =>
      let t := lampOff o.key (ownIdle (queueRelease o.number .yield s))
      if o.phase == .claiming then ownClaimLeaves t else t
    | none => s
  floorLeavesView s1

/-- R161: the entry to HOLD-UP; every lamp goes off with the state (State.lamp). -/
def floorHoldUp (s : State) : State :=
  let inputs := s.fu.inputs.map fun i => { i with refusalEnd := none }
  { s with fu := { s.fu with own := none, micLive := false, view := none, claims := [], inputs } }

end Sys2Proof.Machine
end

