-- ==== Sys2Proof/Machine/Drill.lean ====
section
/-! DEFINITION. The Drill Unit (09_drills_and_fire_panel_yield.md): the drill record and its phases, the two
keys, offers from peers, muster, and yield. The record is written before the zones are asked, since the
Zone Arbiter reads its phase. -/

namespace Sys2Proof.Machine

/-! ## Records -/

/-- The drill record rewritten. -/
def State.setRecord (s : State) (r : Option DrillRecord) : State :=
  { s with dru := { s.dru with record := r } }

/-- The record is of this reference. -/
def DrillRecord.is (r : DrillRecord) (initiator : Station) (number : Byte) : Bool :=
  r.initiator == initiator && r.number == number

/-- R169: the record leaves the running phases for `phase`, with its final elapsed. -/
def DrillRecord.leave (r : DrillRecord) (phase : DrillPhase) (school : Option Nat) : DrillRecord :=
  { r with phase, finalElapsed := some (r.elapsed school) }

/-- R168: the phase check of a record, by the first row that applies. -/
def DrillRecord.checked (r : DrillRecord) (school : Option Nat) : DrillRecord :=
  if !r.phase.running then r
  else if r.expected != 0 && r.reported == r.expected then r.leave .mustered school
  else if r.evacuationLimit * 1000 ≤ r.elapsedMs school then { r with phase := .overdue }
  else if r.soundLimit * 1000 ≤ r.elapsedMs school && r.phase == .sounding then
    { r with phase := .evacuating }
  else r

/-- R110, R169: the drill is released at every zone. -/
def releaseDrill (r : DrillRecord) (s : State) : State :=
  releaseEverywhere (Owner.isDrill r.initiator r.number) s

/-- R169: what a change of phase brings to the zones. -/
def phaseEffects (old : DrillPhase) (r : DrillRecord) (s : State) : State :=
  if old.running && !r.phase.running then releaseDrill r s
  else if old == .sounding && r.phase != .sounding then soundOff r.initiator r.number s
  else s

/-- The record changes, and its phase reaches the zones (R169). -/
def changeRecord (old new : DrillRecord) (s : State) : State :=
  phaseEffects old.phase new (s.setRecord (some new))

/-- R168: the phase check. -/
def checkPhase (s : State) : State :=
  match s.dru.record with
  | none => s
  | some r => changeRecord r (r.checked s.school) s

/-- R107, R167, R171: a drill request to each zone. -/
def askZones (r : DrillRecord) (s : State) : State :=
  forEach allZones (drillRequest r.initiator r.number) s

/-! ## Reports held by peers -/

/-- R56: the PRESENT entry of a station holds a summary of the drill. -/
def State.summaryOf (s : State) (initiator : Station) (number : Byte) (n : Station) : Option DrillSummary :=
  if (s.peer n).state = .present then
    (s.peer n).drill.filter fun d => d.initiator == initiator && d.number == number
  else none

/-- R56: the union of the reported sets the peers hold for a drill. -/
def State.peerReports (s : State) (initiator : Station) (number : Byte) : StationSet :=
  allStations.foldl (fun set n =>
    match s.summaryOf initiator number n with
    | some d => set ||| d.reportedSet
    | none => set) 0

/-- R56: the muster elapsed a peer's summary gives for the drill. -/
def State.peerMuster (s : State) (initiator : Station) (number : Byte) (n : Station) : Option Nat :=
  (s.summaryOf initiator number n).bind DrillSummary.ownMuster

/-! ## Offers -/

/-- R170: what a summary adds to an offer. -/
structure OfferReport where
  sender : Station
  phase : DrillPhase
  reported : StationSet
  ownMuster : Option Nat
  yielding : Bool
  deriving DecidableEq, Repr

/-- R170: a drill offer; `report` is none for a DRILL-START. -/
structure DrillOffer where
  initiator : Station
  number : Byte
  start : Nat
  evacuationLimit : Nat
  soundLimit : Nat
  expected : StationSet
  report : Option OfferReport
  deriving DecidableEq, Repr

/-- R170: the offer a DRILL-START carries. -/
def offerOfStart (sender : Station) (b : DrillStartBody) : DrillOffer :=
  { initiator := sender, number := b.number, start := fullTimeOf b.startDay.toNat (legalMs b.startMs.toNat),
    evacuationLimit := clampNat 60 1800 b.evacuationLimit.toNat,
    soundLimit := clampNat 30 600 b.soundLimit.toNat, expected := legalSet b.expectedSet, report := none }

/-- R170: the offer a drill summary carries. -/
def offerOfSummary (sender : Station) (d : DrillSummary) (yielding : Bool) : DrillOffer :=
  { initiator := d.initiator, number := d.number, start := fullTimeOf d.startDay.toNat (legalMs d.startMs),
    evacuationLimit := clampNat 60 1800 d.evacuationLimit.toNat,
    soundLimit := clampNat 30 600 d.soundLimit.toNat, expected := legalSet d.expectedSet,
    report := some { sender, phase := d.phase, reported := legalSet d.reportedSet,
                     ownMuster := d.ownMuster, yielding } }

/-- R171 step 2: the reported set of a joined record. -/
def State.joinedReports (s : State) (o : DrillOffer) : StationSet :=
  ((match o.report with
    | some p => p.reported
    | none => 0) ||| s.peerReports o.initiator o.number) &&& o.expected

/-- R171 step 2: the muster elapsed of a station in a joined record. -/
def State.joinedMuster (s : State) (o : DrillOffer) (n : Station) : Option Nat :=
  match o.report with
  | some p =>
    if p.sender = n then p.ownMuster.orElse fun _ => s.peerMuster o.initiator o.number n
    else s.peerMuster o.initiator o.number n
  | none => s.peerMuster o.initiator o.number n

/-- R171 step 3: a summary already past SOUNDING takes the record past it. -/
def DrillRecord.notBehind (r : DrillRecord) (report : Option OfferReport) : DrillRecord :=
  match report with
  | some p =>
    if r.phase = .sounding ∧ (p.phase = .evacuating ∨ p.phase = .overdue) then
      { r with phase := .evacuating }
    else r
  | none => r

/-- R171: the record joining creates. -/
def State.joinedRecord (s : State) (o : DrillOffer) : DrillRecord :=
  let r : DrillRecord :=
    { initiator := o.initiator, number := o.number, start := o.start, evacuationLimit := o.evacuationLimit,
      soundLimit := o.soundLimit, expected := o.expected, reported := s.joinedReports o,
      muster := Vector.ofFn (s.joinedMuster o), phase := .sounding, endReason := none, finalElapsed := none }
  (r.checked s.school).notBehind o.report

/-- R171: the offered drill is joined. -/
def joinDrill (o : DrillOffer) (s : State) : State :=
  let r := s.joinedRecord o
  let s1 := s.setRecord (some r)
  if r.phase.running then askZones r s1 else s1

/-- R172: the offered drill wins over the running one. -/
def DrillOffer.beats (o : DrillOffer) (r : DrillRecord) : Bool :=
  o.start < r.start || (o.start == r.start && o.initiator.val < r.initiator.val)

/-- R172: a different drill is running. -/
def competeDrill (o : DrillOffer) (r : DrillRecord) (s : State) : State :=
  if o.beats r then joinDrill o (releaseDrill r (s.setRecord none)) else s

/-! ## Reports taken into the record -/

/-- R175, R176: a station's muster elapsed is stored when it was absent. -/
def DrillRecord.storeMuster (r : DrillRecord) (n : Station) (elapsed : Nat) : DrillRecord :=
  match r.muster[n] with
  | some _ => r
  | none => { r with muster := r.muster.set n (some elapsed) }

/-- R175, R176: stations join the reported set, limited to the expected set. -/
def DrillRecord.addReports (r : DrillRecord) (set : StationSet) : DrillRecord :=
  { r with reported := r.reported ||| (set &&& r.expected) }

/-- R173: a SOUNDING record is silenced, and its phase checked at once. -/
def DrillRecord.silenced (r : DrillRecord) (school : Option Nat) : DrillRecord :=
  if r.phase = .sounding then { r with phase := .evacuating }.checked school else r

/-- R177: a running or MUSTERED record ends. -/
def DrillRecord.ended (r : DrillRecord) (why : EndReason) (school : Option Nat) : DrillRecord :=
  if r.phase.running then { r.leave .ended school with endReason := some why }
  else if r.phase = .mustered then { r with phase := .ended, endReason := some why }
  else r

/-- R176: a summary united with the record. -/
def DrillRecord.united (r : DrillRecord) (p : OfferReport) : DrillRecord :=
  let r1 := r.addReports p.reported
  match p.ownMuster with
  | some e => if inSet r.expected p.sender && inSet p.reported p.sender then r1.storeMuster p.sender e else r1
  | none => r1

/-- R173, R176, R177: a summary of the record's own drill. -/
def DrillRecord.takeSummary (r : DrillRecord) (p : OfferReport) (school : Option Nat) : DrillRecord :=
  let r1 := if p.phase = .evacuating ∨ p.phase = .overdue then r.silenced school else r
  let r2 := (r1.united p).checked school
  if p.sender = r.initiator ∧ p.phase = .ended then
    r2.ended (if p.yielding then .yield else .manual) school
  else r2

/-- R170: a drill offer, in LISTENING or RUNNING. -/
def takeOffer (o : DrillOffer) (s : State) : State :=
  if s.dru.yielding || s.school.isNone then s
  else
    match s.dru.record with
    | some r =>
      if r.is o.initiator o.number then
        match o.report with
        | some p => changeRecord r (r.takeSummary p s.school) s
        | none => s
      else if (o.report.any fun p => !p.phase.running) then s
      else if r.phase.running then competeDrill o r s
      else joinDrill o s
    | none => if (o.report.any fun p => !p.phase.running) then s else joinDrill o s

/-! ## Frames heard -/

/-- R173: a SILENCE. -/
def hearSilence (initiator : Station) (number : Byte) (s : State) : State :=
  match s.dru.record with
  | some r => if r.is initiator number then changeRecord r (r.silenced s.school) s else s
  | none => s

/-- R175: a MUSTER. -/
def hearMuster (sender initiator : Station) (number : Byte) (elapsed : Half) (s : State) : State :=
  match s.dru.record with
  | some r =>
    if r.is initiator number && inSet r.expected sender then
      changeRecord r
        (((r.addReports (stationSet sender)).storeMuster sender (min 65534 elapsed.toNat)).checked s.school) s
    else s
  | none => s

/-- R177: a DRILL-END. -/
def hearDrillEnd (initiator : Station) (number : Byte) (why : EndReason) (s : State) : State :=
  match s.dru.record with
  | some r => if r.is initiator number then changeRecord r (r.ended why s.school) s else s
  | none => s

/-! ## The keys -/

/-- R167: the record a drill started by the key at full time `t` has. -/
def State.newDrill (s : State) (own : Station) (t : Nat) : DrillRecord :=
  { initiator := own, number := s.dru.counter + 1, start := t, evacuationLimit := s.dru.evacuationLimit,
    soundLimit := s.dru.soundLimit, expected := s.targetSet ||| stationSet own, reported := 0,
    muster := Vector.replicate 30 none, phase := .sounding, endReason := none, finalElapsed := none }

/-- R167: the body of the DRILL-START of a record. -/
def DrillRecord.startBody (r : DrillRecord) : DrillStartBody :=
  { number := r.number, startDay := BitVec.ofNat 16 (dayOf r.start),
    startMs := BitVec.ofNat 32 (msOfDay r.start), evacuationLimit := BitVec.ofNat 16 r.evacuationLimit,
    soundLimit := BitVec.ofNat 16 r.soundLimit, expectedSet := r.expected }

/-- R167: a new drill is started by the key. -/
def startDrill (own : Station) (t : Nat) (s : State) : State :=
  let r := s.newDrill own t
  let s1 := { s with dru := { s.dru with record := some r, counter := r.number } }
  enqueue (.drillStart r.startBody) (askZones r (checkPhase s1))

/-- R166, rows 3 and 4: a press of the drill key while a drill runs. -/
def pressOnDrill (r : DrillRecord) (s : State) : State :=
  if r.phase = .sounding then
    enqueue (.silence r.initiator r.number) (changeRecord r (r.silenced s.school) s)
  else
    enqueue (.drillEnd r.initiator r.number (endReasonByte .manual))
      (changeRecord r (r.ended .manual s.school) s)

/-- R166: a press of the drill key in RUNNING. -/
def pressDrillKey (s : State) : State :=
  match s.own, s.school with
  | some own, some t =>
    if s.dru.yielding then s
    else
      match s.dru.record with
      | some r => if r.phase.running then pressOnDrill r s else startDrill own t s
      | none => startDrill own t s
  | _, _ => s

/-- R174: a press of the muster key that acts on the record. -/
def musterOwn (own : Station) (r : DrillRecord) (s : State) : State :=
  let e := min 65534 (r.elapsed s.school)
  let r1 := { r with reported := r.reported ||| stationSet own, muster := r.muster.set own (some e) }
  changeRecord r (r1.checked s.school) (enqueue (.muster r.initiator r.number (BitVec.ofNat 16 e)) s)

/-- R174, R182: a press of the muster key in RUNNING. -/
def pressMusterKey (s : State) : State :=
  match s.own, s.dru.record with
  | some own, some r =>
    if r.phase.running && inSet r.expected own && !inSet r.reported own && !s.dru.yielding then
      musterOwn own r s
    else s
  | _, _ => s

/-! ## Yield -/

/-- R182 step 1: a running drill ends, and its initiator says so. -/
def yieldEndsDrill (s : State) : State :=
  match s.dru.record with
  | some r =>
    if r.phase.running then
      let s1 := changeRecord r (r.ended .yield s.school) s
      if s.own = some r.initiator then
        enqueue (.drillEnd r.initiator r.number (endReasonByte .yield)) s1
      else s1
    else s
  | none => s

/-- The yielding state rewritten. -/
def State.setYielding (s : State) (on : Bool) : State := { s with dru := { s.dru with yielding := on } }

/-- R182: the yielding state becomes set. -/
def yieldStart (s : State) : State :=
  forEach allZones yieldRequest (floorYield (yieldEndsDrill (s.setYielding true)))

/-- R183: the yielding state becomes clear. -/
def yieldEnd (s : State) : State := releaseEverywhere (fun o => o == .yield) (s.setYielding false)

/-- R55, R181: the peer cause. -/
def State.peerCauseNow (s : State) : Bool := s.dru.schoolWide && s.peerYieldSet != 0

/-- R55, R181: the peer cause is set or clear as the PT reports. -/
def State.withPeerCause (s : State) : State := { s with dru := { s.dru with peerCause := s.peerCauseNow } }

/-- R181: the own contact is asserted, or the peer cause is set. -/
def State.yieldWanted (s : State) : Bool := s.dru.contact || s.dru.peerCause

/-- R181 to R183: the inputs to yield are taken to the yielding state, with what follows, in LISTENING or
RUNNING. -/
def updateYield (s : State) : State :=
  if !s.taking then s
  else
    let s1 := s.withPeerCause
    if s1.yieldWanted && !s1.dru.yielding then yieldStart s1
    else if !s1.yieldWanted && s1.dru.yielding then yieldEnd s1
    else s1

/-- R182: the entry to LISTENING: a yielding state that is set already, the contact having come to count as
asserted in LOADING, is taken as one that becomes set there. -/
def yieldAtListening (s : State) : State := updateYield (s.setYielding false)

/-- R181, R184: a change of the own contact reaches the yielding state: with R182 or R183 in LISTENING or RUNNING;
as a state alone in LOADING; in HOLD-UP and CONFIG-FAULT not at all. -/
def contactToYield (s : State) : State :=
  if s.loading then s.setYielding s.yieldWanted else updateYield s

/-- The state byte of a YIELD. -/
def yieldByte (on : Bool) : Byte := if on then 1 else 0

/-- R181: a counted change of the fire panel contact. -/
def contactChanges (on : Bool) (s : State) : State :=
  let s1 := { s with dru := { s.dru with contact := on } }
  contactToYield (if s1.running then enqueue (.yield (yieldByte on)) s1 else s1)

end Sys2Proof.Machine
end

