-- ==== Sys2Proof/Machine/TimeBase.lean ====
section
/-! DEFINITION. The Time Base (01_school_time_and_its_agreement.md): the beacon timer, the agreement round,
adoption and the notices of a movement. -/

namespace Sys2Proof.Machine

/-! ## Movements -/

/-- R1: full time after a change, held within the range. -/
def limitFullTime (t : Int) : Nat := (clampInt 0 (Config.maxFullTime : Nat) t).toNat

/-- R18: a forward passage of a boundary that stands every `period` ms. -/
def passed (period before after : Nat) : Bool := before / period < after / period

/-- R18: the notice of a slew or step. -/
def movementOf (kind : MovementKind) (before after : Nat) : Movement :=
  { kind, amount := (after : Int) - before, before := some before, after,
    minute := passed 60000 before after, hour := passed 3600000 before after,
    day := passed Config.dayMs before after }

/-- R18: the notice of an adoption. -/
def adoptionOf (after : Nat) : Movement :=
  { kind := .adoption, amount := 0, before := none, after, minute := false, hour := false, day := false }

/-- R18, R20: a movement notice to the BS, the DU and the DRU, and to the DS when it crossed an hour or a
day. In HOLD-UP the DRU's record stands as it is (R184). -/
def notifyMovement (m : Movement) (s : State) : State :=
  let s1 := recomputeAll (bellsMovement m s)
  let s2 := if s1.taking then checkPhase s1 else s1
  if m.hour || m.day then hourByMovement s2 else s2

/-- R3, R18: school time and standing rewritten. -/
def State.setSchool (s : State) (t : Option Nat) (standing : Standing) : State :=
  { s with tb := { s.tb with fullTime := t, standing } }

/-- R8: the receive stamp of the frame in reception moves with a slew or step. -/
def ReceiveStamp.moved (r : ReceiveStamp) (amount : Int) : ReceiveStamp :=
  { r with fullTime := r.fullTime.map fun t => limitFullTime (t + amount) }

/-! ## The round -/

/-- R13, R53: the sample of an entry, when it is fresh. -/
def PeerEntry.fresh? (e : PeerEntry) (now threeB : Nat) : Option Sample :=
  if e.state = .present then e.sample.filter fun x => decide (now < x.takenAt + threeB) else none

/-- R13: the fresh samples, in station order. -/
def State.freshSamples (s : State) : List Sample :=
  s.pt.toList.filterMap fun e => e.fresh? s.now (3 * s.beaconMs)

/-- R13: the eligible set, without the own value, and whether the own value is in it. -/
def eligibleSet (fresh : List Sample) : List Int × Bool :=
  let refs := fresh.filter fun x => x.standing == .reference
  if refs.isEmpty then
    ((fresh.filter fun x => x.standing == .free || x.standing == .agreed).map Sample.offset, true)
  else (refs.map Sample.offset, false)

/-- R14: the values left after sorting and the trim. -/
def trimmed (values : List Int) : List Int :=
  let sorted := values.insertionSort (· ≤ ·)
  let f := (values.length - 1) / 3
  (sorted.drop f).take (values.length - 2 * f)

/-- R14: the correction c of a set of values. -/
def correctionOf (values : List Int) : Int :=
  let left := trimmed values
  (left.headD 0 + left.getLastD 0).tdiv 2

/-- R15: the kind and the amount that a correction calls for. -/
def callsFor (c : Int) (stepThreshold slewLimit : Nat) : Option (MovementKind × Int) :=
  if c.natAbs ≤ 1 then none
  else if stepThreshold ≤ c.natAbs then some (.step, c)
  else some (.slew, clampInt (-(slewLimit : Int)) slewLimit c)

/-- R16: a fresh sample after `amount` was applied to school time. -/
def PeerEntry.adjusted (e : PeerEntry) (now threeB : Nat) (amount : Int) : PeerEntry :=
  match e.fresh? now threeB with
  | some x => { e with sample := some { x with offset := saturateSample (x.offset - amount) } }
  | none => e

/-- R16: every fresh sample adjusted. -/
def adjustSamples (amount : Int) (s : State) : State :=
  { s with pt := s.pt.map fun e => e.adjusted s.now (3 * s.beaconMs) amount }

/-- R1, R15, R16, R18: a slew or step of school time at full time `t`; an amount that the range cuts to 0 is
no movement. -/
def moveSchool (kind : MovementKind) (amount : Int) (t : Nat) (s : State) : State :=
  let after := limitFullTime (t + amount)
  let m := movementOf kind t after
  if m.amount = 0 then s
  else
    let s1 := adjustSamples m.amount (s.setSchool (some after) s.tb.standing)
    notifyMovement m (s1.setYlc { s1.ylc with stamp := s1.ylc.stamp.map fun r => r.moved m.amount })

/-- R12–R16: the agreement round at the completion of an own BEACON. -/
def agreementRound (s : State) : State :=
  match s.school with
  | none => s
  | some t =>
    let e := eligibleSet s.freshSamples
    if e.1.isEmpty then s.setSchool (some t) .free
    else
      let s1 := s.setSchool (some t) .agreed
      match callsFor (correctionOf (if e.2 then e.1 ++ [0] else e.1)) s.tb.stepThreshold s.tb.slewLimit with
      | none => s1
      | some (kind, a) => moveSchool kind a t s1

/-! ## Adoption -/

/-- R11: school time is adopted from a peer's full time, `elapsed` ms after its delimiter. -/
def adopt (peerFull elapsed : Nat) (s : State) : State :=
  let after := limitFullTime ((peerFull + elapsed : Nat) : Int)
  notifyMovement (adoptionOf after) (s.setSchool (some after) .free)

/-! ## The beacon timer -/

/-- R5: the first expiry after entry, (B × n) / 32. -/
def firstBeacon (beaconMs station : Nat) : Nat := beaconMs * station / 32

/-- R5: the beacon timer starts. -/
def startBeaconTimer (s : State) : State :=
  match s.own with
  | none => s
  | some n =>
    { s with tb := { s.tb with beaconDue := some (s.now + firstBeacon s.beaconMs (stationNumber n)) } }

/-- R5: the attempt of a BEACON has ended; a held request is answered by the BEACON still in the queue or
asks for a new one. -/
def releaseHeldBeacon (s : State) : State :=
  if s.tb.heldBeacon then requestBeacon { s with tb := { s.tb with heldBeacon := false } } else s

end Sys2Proof.Machine
end

