-- ==== Sys2Proof/Machine/Peers.lean ====
section
/-! DEFINITION. The Peer Table (03_the_peer_table.md): refresh by frames, aging, and what a BEACON brings to
the blocks. -/

namespace Sys2Proof.Machine

/-! ## Refresh -/

/-- R48: the sender's entry at the acceptance of a good frame. -/
def PeerEntry.heardAt (e : PeerEntry) (now : Nat) : PeerEntry :=
  { e with state := .present, lastHeard := some now }

/-- R48: a good frame from a peer reaches the PT. -/
def peerHeard (n : Station) (s : State) : State := s.setPeer n ((s.peer n).heardAt s.now)

/-- R50: a YIELD sets or clears its sender's flag. -/
def peerYields (n : Station) (state : Byte) (s : State) : State :=
  s.setPeer n { s.peer n with yielding := state != 0 }

/-! ## BEACON -/

/-- R49: the floor summary of a BEACON. -/
def floorSummaryOf (b : BeaconBody) : Option FloorSummary :=
  (stationOfByte b.floorHolder).map fun h =>
    { holder := h, number := b.floorNumber, cls := classOfByte b.floorClass, holdRemaining := b.holdRemaining }

/-- R49: the drill summary of a BEACON. -/
def drillSummaryOf (b : BeaconBody) : Option DrillSummary :=
  match stationOfByte b.drillInitiator, phaseOfByte b.drillPhase with
  | some i, some phase =>
    some { initiator := i, number := b.drillNumber, startDay := b.drillStartDay,
           startMs := legalMs b.drillStartMs.toNat, phase, evacuationLimit := b.evacuationLimit,
           soundLimit := b.soundLimit, expectedSet := legalSet b.expectedSet,
           reportedSet := legalSet b.reportedSet,
           ownMuster := if b.ownMuster = 0xFFFF#16 then none else some b.ownMuster.toNat }
  | _, _ => none

/-- R9: the sender's full time from its stamp. -/
def stampOf (b : BeaconBody) : Nat := fullTimeOf b.stampDay.toNat (legalMs b.stampMs.toNat)

/-- R9, R20: the receive stamp as the TB takes it: in CONFIG-FAULT own school time is UNSET, and a BEACON gives
no sample. -/
def State.stampTaken (s : State) (r : ReceiveStamp) : ReceiveStamp :=
  if s.loaded then r else { r with fullTime := none }

/-- R9, R10, R49: the sample an entry holds after a BEACON. -/
def sampleAfter (b : BeaconBody) (r : ReceiveStamp) (old : Option Sample) : Option Sample :=
  match standingOfByte b.standing, r.fullTime with
  | .unset, _ => none
  | _, none => old
  | standing, some own =>
    some { offset := saturateSample ((stampOf b : Int) - own), standing, takenAt := r.timer }

/-- R49: the sender's entry after a BEACON. -/
def PeerEntry.afterBeacon (e : PeerEntry) (b : BeaconBody) (r : ReceiveStamp) (now : Nat) : PeerEntry :=
  { state := .present, lastHeard := some now, sample := sampleAfter b r e.sample,
    yielding := b.flags.getLsbD 0, configFault := b.flags.getLsbD 1, floor := floorSummaryOf b,
    drill := drillSummaryOf b }

/-- R9: the BEACON sets this station's school time. -/
def State.adoptsFrom (s : State) (b : BeaconBody) (r : ReceiveStamp) : Bool :=
  standingOfByte b.standing != .unset && r.fullTime.isNone && s.school.isNone && s.loaded

/-- R9, R11: the TB's part of a BEACON. -/
def timeFromBeacon (b : BeaconBody) (r : ReceiveStamp) (s : State) : State :=
  if s.adoptsFrom b r then adopt (stampOf b) (s.now - r.timer) s else s

/-- R170: the DRU's part of a BEACON. -/
def drillFromBeacon (n : Station) (b : BeaconBody) (s : State) : State :=
  match drillSummaryOf b with
  | some d => takeOffer (offerOfSummary n d (b.flags.getLsbD 0)) s
  | none => s

/-- R49: a good BEACON of a peer, as one change: the PT, then the TB, the FU, the DRU, and the peer yield
set (the order is the model's, notes/assumptions/18.md). In CONFIG-FAULT the PT alone acts; in HOLD-UP the
FU and the DRU discard their parts (R161, R184). -/
def beaconFrom (n : Station) (b : BeaconBody) (r : ReceiveStamp) (s : State) : State :=
  let s1 := timeFromBeacon b r (s.setPeer n ((s.peer n).afterBeacon b (s.stampTaken r) s.now))
  if s1.taking then
    updateYield (drillFromBeacon n b (hearFloorSummary n (floorSummaryOf b) r.timer s1))
  else s1

/-! ## Aging -/

/-- R51: what the aging expiry leaves of an entry. -/
def PeerEntry.lost (e : PeerEntry) : PeerEntry :=
  { e with state := .lost, sample := none, yielding := false, floor := none }

/-- R51: the aging expiry of an entry has been reached. -/
def State.agedOut (s : State) (n : Station) : Bool :=
  s.delivers && (s.peer n).state == .present && reached ((s.peer n).lastHeard.map (· + 3 * s.beaconMs)) s.now

/-- R51, R52: the entry becomes LOST, and the FU and the DRU are told. -/
def peerLost (n : Station) (s : State) : State :=
  let s1 := s.setPeer n (s.peer n).lost
  if s1.taking then updateYield (floorPeerLost n s1) else s1

end Sys2Proof.Machine
end

