-- ==== Sys2Proof/Machine/Image.lean ====
section
/-! DEFINITION. The configuration image (11_start_up_settings_port_and_display.md, R198 to R202, and
02_the_yard_line.md, 2.11): its checks, its two passes, and the settings and warnings it gives. -/

namespace Sys2Proof.Machine

/-! ## Reading and checking -/

/-- R198: the read command. -/
def readCommand : Byte := 0x03

/-- R198: the address that follows the read command. -/
def readAddress : Half := 0x0000

/-- R198: what the SP shifts out on SDO, most significant bit first, before it clocks the bytes of the image in:
nothing while CSC is off. -/
def State.settingsOut (s : State) : List Byte :=
  if s.sp.csc then readCommand :: halfBytes readAddress else []

/-- R198: a byte of the configuration memory; past its end nothing answers and SDI is high. -/
def memoryByte (memory : List Byte) (i : Nat) : Byte := memory.getD i 0xFF

/-- R198: the first `n` bytes read, from the address sent on. -/
def readImage (memory : List Byte) (n : Nat) : List Byte :=
  (List.range n).map fun i => memoryByte memory (readAddress.toNat + i)

/-- R199, rows 1 to 3: the length of the image, when the header passes. -/
def headerLength (memory : List Byte) : Option Nat :=
  let h := readImage memory 5
  let length := (halfAt h 3).toNat
  if halfAt h 0 = 0xA716#16 ∧ byteAt h 2 = 1 ∧ 7 ≤ length ∧ length ≤ 2048 then some length else none

/-- A section: its code and its content. -/
abbrev Section := Byte × List Byte

/-- R199, row 5: the walk of the sections; `fuel` bounds their number. -/
def walkSections : Nat → List Byte → Option (List Section)
  | _, [] => some []
  | 0, _ :: _ => none
  | fuel + 1, code :: hi :: lo :: rest =>
    let n := hi.toNat * 256 + lo.toNat
    if n ≤ rest.length then (walkSections fuel (rest.drop n)).map fun tail => (code, rest.take n) :: tail
    else none
  | _ + 1, _ => none

/-- R199: an image as read, with its sections. -/
structure CheckedImage where
  bytes : List Byte
  crc : Half
  sections : List Section
  deriving DecidableEq, Repr

/-- R199: the checks in their order; none = a check failed. -/
def checkImage (memory : List Byte) : Option CheckedImage :=
  match headerLength memory with
  | none => none
  | some n =>
    let bytes := readImage memory n
    let crc := halfAt bytes (n - 2)
    if crc16 (bytes.take (n - 2)) = crc then
      (walkSections n ((bytes.take (n - 2)).drop 5)).map fun sections => { bytes, crc, sections }
    else none

/-! ## Warnings and fields -/

/-- A value read, with the warnings its field gave. -/
abbrev Read (α : Type) := α × List Warning

/-- A warning. -/
def warn (kind : WarningKind) (sectionCode item : Nat) : Warning :=
  { kind, sectionCode, item := BitVec.ofNat 8 item }

/-- R200: the one-byte field at an offset, when it is reached. -/
def field8 (content : List Byte) (i : Nat) : Option Nat := (content[i]?).map BitVec.toNat

/-- R200: the two-byte field at an offset, when both bytes are reached. -/
def field16 (content : List Byte) (i : Nat) : Option Nat :=
  if i + 1 < content.length then some (halfAt content i).toNat else none

/-- R200: the four-byte field at an offset, when every byte is reached. -/
def field32 (content : List Byte) (i : Nat) : Option Nat :=
  if i + 3 < content.length then some (quadAt content i).toNat else none

/-- A quantity: out of range it takes the nearest limit with a warning of kind 1. -/
def quantity (sectionCode item lo hi default : Nat) (raw : Option Nat) : Read Nat :=
  match raw with
  | none => (default, [])
  | some x =>
    let y := clampNat lo hi x
    (y, if y = x then [] else [warn .clamped sectionCode item])

/-- A code: an invalid one takes the default with a warning of kind 2. -/
def coded {α : Type} (sectionCode item : Nat) (decode : Nat → Option α) (default : α) (raw : Option Nat) :
    Read α :=
  match raw with
  | none => (default, [])
  | some x =>
    match decode x with
    | some v => (v, [])
    | none => (default, [warn .defaulted sectionCode item])

/-- The values of a list of readings, and their warnings in order. -/
def gather {α : Type} (reads : List (Read α)) : Read (List α) :=
  (reads.map Prod.fst, reads.flatMap Prod.snd)

/-- A list of exactly the wanted length as a vector (`d` fills what is missing). -/
def toVector {α : Type} (n : Nat) (d : α) (list : List α) : Vector α n :=
  Vector.ofFn fun i : Fin n => list.getD i.val d

/-! ## The first pass -/

/-- R200: the item of a skipped section's warning, its number in the image (notes/assumptions/3.md). -/
def sectionItem (number : Nat) : Byte :=
  if number ≤ 255 then BitVec.ofNat 8 number else Config.sectionItemAbove255 number

/-- R200: the first pass over the sections, numbered from `number`, `seen` being those applied so far. -/
def firstPass (number : Nat) (seen : List Section) : List Section → Read (List Section)
  | [] => (seen, [])
  | x :: rest =>
    if x.1 = 0 ∨ 9 < x.1.toNat then
      let r := firstPass (number + 1) seen rest
      (r.1, { kind := .unusable, sectionCode := 0, item := sectionItem number } :: r.2)
    else if seen.any fun y => y.1 == x.1 then
      let r := firstPass (number + 1) seen rest
      (r.1, warn .unusable x.1.toNat 255 :: r.2)
    else firstPass (number + 1) (seen ++ [x]) rest

/-- R200: the content of the section applied for a code; one the image does not hold has length 0. -/
def contentOf (applied : List Section) (code : Byte) : List Byte :=
  ((applied.find? fun x => x.1 == code).map Prod.snd).getD []

/-! ## Section 1 -/

/-- R78: a kind code. -/
def kindOfCode : Nat → Option LineKind
  | 0 => some .unused
  | 1 => some .bell
  | 2 => some .sounder
  | 3 => some .clock
  | 4 => some .page
  | 5 => some .chime
  | _ => none

/-- R58: a modulus code. -/
def modulusOfCode : Nat → Option Nat
  | 0 => some 720
  | 1 => some 1440
  | _ => none

/-- R58, R78, R202: the lines in ascending order from `lines`: each effective kind, and the CLOCK lines with
their moduli; `clocks` are those met so far. -/
def readLines (c : List Byte) (clocks : List (LineId × Nat)) :
    List LineId → Read (List LineKind × List (LineId × Nat))
  | [] => (([], clocks), [])
  | l :: rest =>
    let n := l.val + 1
    let kind := coded 1 n kindOfCode .unused (field8 c (2 * l.val))
    if kind.1 = .clock then
      if 6 ≤ clocks.length then
        let r := readLines c clocks rest
        ((.unused :: r.1.1, r.1.2), kind.2 ++ warn .unusable 1 n :: r.2)
      else
        let m := coded 1 (16 + n) modulusOfCode 720 (field8 c (2 * l.val + 1))
        let r := readLines c (clocks ++ [(l, m.1)]) rest
        ((.clock :: r.1.1, r.1.2), kind.2 ++ m.2 ++ r.2)
    else
      let r := readLines c clocks rest
      ((kind.1 :: r.1.1, r.1.2), kind.2 ++ r.2)

/-! ## Section 2 -/

/-- R80: the lines named by the 16 positions in order, `named` being those named so far. -/
def readOrder (c : List Byte) (named : List LineId) : List Nat → Read (List LineId)
  | [] => (named, [])
  | p :: rest =>
    match (field8 c p).getD 0 with
    | 0 => readOrder c named rest
    | code =>
      match lineOfCode code with
      | some l =>
        if l ∈ named then
          let r := readOrder c named rest
          (r.1, warn .unusable 2 (p + 1) :: r.2)
        else readOrder c (named ++ [l]) rest
      | none =>
        let r := readOrder c named rest
        (r.1, warn .unusable 2 (p + 1) :: r.2)

/-- R80: the scan order table: the lines named, then the others in ascending order. -/
def scanTable (named : List LineId) : Vector LineId 16 :=
  toVector 16 0 (named ++ allLines.filter fun l => !named.contains l)

/-- R80: the stagger gap, taken down to a multiple of 10 ms. -/
def readStagger (c : List Byte) : Read Nat :=
  let r := quantity 2 18 0 500 100 (field16 c 17)
  (r.1 / 10 * 10, r.2)

/-! ## Section 3 -/

/-- R101: the kind that the code at a place of a zone's three must name. -/
def zoneKind (place : Nat) : LineKind :=
  match place % 3 with
  | 0 => .bell
  | 1 => .page
  | _ => .sounder

/-- R101: the 24 codes in checking order; `named` are the codes met so far. -/
def readZoneLines (kinds : Vector LineKind 16) (c : List Byte) (named : List Nat) :
    List Nat → Read (List (Option LineId))
  | [] => ([], [])
  | i :: rest =>
    let code := (field8 c i).getD 0
    let r := readZoneLines kinds c (code :: named) rest
    if code = 0 then (none :: r.1, r.2)
    else
      match lineOfCode code with
      | some l =>
        if kinds[l] = zoneKind i ∧ code ∉ named then (some l :: r.1, r.2)
        else (none :: r.1, warn .unusable 3 i :: r.2)
      | none => (none :: r.1, warn .unusable 3 i :: r.2)

/-- R101: the zones with the lines that the codes give. -/
def zonesFrom (lines : List (Option LineId)) : Vector Zone 8 :=
  Vector.ofFn fun z : Fin 8 =>
    { Zone.afterReset with
      bellLine := lines.getD (3 * z.val) none
      pageLine := lines.getD (3 * z.val + 1) none
      sounderLine := lines.getD (3 * z.val + 2) none }

/-! ## Section 4 -/

/-- R86: a width in units of 100 ms, as ms; `lo` is 1, or 0 for a W2. -/
def readWidth (c : List Byte) (item lo default : Nat) : Read Nat :=
  let r := quantity 4 item lo 255 default (field8 c item)
  (r.1 * 100, r.2)

/-- R86: a bell or chime pattern whose fields stand from offset `item` on. -/
def readPattern (c : List Byte) (item : Nat) (w1 gap w2 : Nat) : Read BellPattern :=
  let a := readWidth c item 1 w1
  let g := readWidth c (item + 1) 1 gap
  let b := readWidth c (item + 2) 0 w2
  let n := quantity 4 (item + 3) 1 4 1 (field8 c (item + 3))
  ({ w1 := a.1, gap := g.1, w2 := b.1, repeats := n.1 }, a.2 ++ g.2 ++ b.2 ++ n.2)

/-- R86: the sounder pattern. -/
def readSounder (c : List Byte) : Read SounderPattern :=
  let a := readWidth c 32 1 10
  let g := readWidth c 33 1 5
  let b := readWidth c 34 0 10
  let q := readWidth c 35 1 15
  ({ w1 := a.1, gap := g.1, w2 := b.1, pause := q.1 }, a.2 ++ g.2 ++ b.2 ++ q.2)

/-! ## Sections 5 and 6 -/

/-- A pattern code 0–7. -/
def patternOfCode (x : Nat) : Option (Fin 8) := if h : x < 8 then some ⟨x, h⟩ else none

/-- R121: entry `j` of the bell list. -/
def readEntry (c : List Byte) (j : Nat) : Read BellEntry :=
  let t := quantity 5 j 0 86399 0 (field32 c (6 * j))
  let p := coded 5 j patternOfCode 0 (field8 c (6 * j + 5))
  ({ timeOfDay := t.1, zones := BitVec.ofNat 8 ((field8 c (6 * j + 4)).getD 0), pattern := p.1 }, t.2 ++ p.2)

/-- R122: plan `p`. -/
def readPlan (c : List Byte) (p : Nat) : Read PlanWindow :=
  let b := quantity 6 p 0 127 0 (field8 c (2 * p))
  let n := quantity 6 p 0 64 0 (field8 c (2 * p + 1))
  let count := min n.1 (128 - b.1)
  ({ base := b.1, count }, b.2 ++ n.2 ++ if count = n.1 then [] else [warn .clamped 6 p])

/-- R122: the plan code of weekday `w`. -/
def readWeekday (c : List Byte) (w : Nat) : Read PlanCode :=
  coded 6 (8 + w) planOfCode .noBell (field8 c (16 + w))

/-- R122: the warnings of the entries that are unusable in a plan. -/
def unusableEntries (b : BellScheduler) (w : PlanWindow) : List Warning :=
  ((usableFrom b 0 w.indices).zip w.indices).filterMap fun x =>
    if x.1 then none else some (warn .unusable 5 x.2)

/-! ## Section 7 -/

/-- R141: a class code. -/
def classOfCode : Nat → Option FloorClass
  | 0 => some .general
  | 1 => some .urgent
  | _ => none

/-- R141: target `i` of the key whose fields stand from `base` on, key index `k`; none = left out. -/
def readTarget (c : List Byte) (k i : Nat) : Read (Option Target) :=
  match field8 c (22 * k + 6 + 2 * i), field8 c (22 * k + 7 + 2 * i) with
  | some station, some mask =>
    match targetOfPair (BitVec.ofNat 8 station, BitVec.ofNat 8 mask) with
    | some t => if mask = 0 then (none, [warn .unusable 7 (8 * k + i)]) else (some t, [])
    | none => (none, [warn .unusable 7 (8 * k + i)])
  | _, _ => (none, [])

/-- R141: the key of index `k` (0–3). -/
def readKey (c : List Byte) (k : Nat) : Read PageKey :=
  let cls := coded 7 (32 + k) classOfCode .general (field8 c (22 * k))
  let window := quantity 7 (36 + k) 100 2000 400 (field16 c (22 * k + 1))
  let hold := quantity 7 (40 + k) 10 600 120 (field16 c (22 * k + 3))
  let count := quantity 7 (44 + k) 0 8 0 (field8 c (22 * k + 5))
  let targets := gather ((List.range count.1).map (readTarget c k))
  ({ cls := cls.1, window := window.1, holdLimit := hold.1, targets := targets.1.filterMap id },
    cls.2 ++ window.2 ++ hold.2 ++ count.2 ++ targets.2)

/-! ## Section 8 -/

/-- R60: the impulse width, taken down to a multiple of 100 ms. -/
def readImpulseWidth (c : List Byte) : Read Nat :=
  let r := quantity 8 3 200 2000 600 (field16 c 4)
  let w := r.1 / 100 * 100
  (w, r.2 ++ if w = r.1 then [] else [warn .clamped 8 3])

/-- R60: the catch-up spacing in ms, raised to at least W + 300 ms. -/
def readSpacing (c : List Byte) (width : Nat) : Read Nat :=
  let r := quantity 8 4 1 10 2 (field8 c 6)
  let x := r.1 * 1000
  let y := max x (width + Config.impulseRestMs)
  (y, r.2 ++ if y = x then [] else [warn .clamped 8 4])

/-! ## Section 9 -/

/-- R164: the school-wide yield flag. -/
def flagOfCode : Nat → Option Bool
  | 0 => some false
  | 1 => some true
  | _ => none

/-! ## The second pass -/

/-- What an image gives the blocks. -/
structure Settings where
  kinds : Vector LineKind 16
  clocks : List (LineId × Nat)
  scanOrder : Vector LineId 16
  budget : Nat
  stagger : Nat
  exclusion : LineMask
  zones : Vector Zone 8
  bellPatterns : Vector BellPattern 8
  sounderPattern : SounderPattern
  chimePattern : BellPattern
  entries : Vector BellEntry 128
  plans : Vector PlanWindow 8
  weekday : Vector PlanCode 7
  keys : Vector PageKey 4
  beaconInterval : Nat
  stepThreshold : Nat
  slewLimit : Nat
  width : Nat
  spacing : Nat
  holdWindow : Nat
  lateLimit : Nat
  readyWait : Nat
  evacuationLimit : Nat
  soundLimit : Nat
  schoolWide : Bool
  deriving DecidableEq, Repr

/-- R200, R201: the settings of an image, with every warning of its load in load order. -/
def settingsOf (sections : List Section) : Read Settings :=
  let pass := firstPass 0 [] sections
  let c := contentOf pass.1
  let lines := readLines (c 1) [] allLines
  let kinds := toVector 16 .unused lines.1.1
  let order := readOrder (c 2) [] (List.range 16)
  let budget := quantity 2 17 1 16 4 (field8 (c 2) 16)
  let stagger := readStagger (c 2)
  let zoneLines := readZoneLines kinds (c 3) [] (List.range 24)
  let bells := gather ((List.range 8).map fun p => readPattern (c 4) (4 * p) 30 10 0)
  let sounder := readSounder (c 4)
  let chime := readPattern (c 4) 36 5 3 8
  let list := gather ((List.range 128).map (readEntry (c 5)))
  let entries := toVector 128 BellEntry.default list.1
  let planList := gather ((List.range 8).map (readPlan (c 6)))
  let plans := toVector 8 { base := 0, count := 0 } planList.1
  let week := gather ((List.range 7).map (readWeekday (c 6)))
  let walk := planList.1.flatMap (unusableEntries { BellScheduler.powerOn with entries })
  let keys := gather ((List.range 4).map (readKey (c 7)))
  let beacon := quantity 8 0 2 60 10 (field8 (c 8) 0)
  let threshold := quantity 8 1 500 10000 2000 (field16 (c 8) 1)
  let slew := quantity 8 2 5 200 40 (field8 (c 8) 3)
  let width := readImpulseWidth (c 8)
  let spacing := readSpacing (c 8) width.1
  let hold := quantity 8 5 0 240 120 (field8 (c 8) 7)
  let late := quantity 8 6 0 120 30 (field8 (c 8) 8)
  let ready := quantity 8 7 500 5000 1500 (field16 (c 8) 9)
  let evacuation := quantity 8 8 60 1800 600 (field16 (c 8) 11)
  let sound := quantity 8 9 30 600 180 (field16 (c 8) 13)
  let wide := coded 9 0 flagOfCode false (field8 (c 9) 0)
  ({ kinds, clocks := lines.1.2, scanOrder := scanTable order.1, budget := budget.1, stagger := stagger.1,
     exclusion := BitVec.ofNat 16 ((field16 (c 2) 19).getD 0), zones := zonesFrom zoneLines.1,
     bellPatterns := toVector 8 BellPattern.default bells.1, sounderPattern := sounder.1,
     chimePattern := chime.1, entries, plans, weekday := toVector 7 .noBell week.1,
     keys := toVector 4 PageKey.default keys.1, beaconInterval := beacon.1, stepThreshold := threshold.1,
     slewLimit := slew.1, width := width.1, spacing := spacing.1, holdWindow := hold.1,
     lateLimit := late.1, readyWait := ready.1, evacuationLimit := evacuation.1, soundLimit := sound.1,
     schoolWide := wide.1 },
   pass.2 ++ lines.2 ++ order.2 ++ budget.2 ++ stagger.2 ++ zoneLines.2 ++ bells.2 ++ sounder.2 ++
     chime.2 ++ list.2 ++ planList.2 ++ week.2 ++ walk ++ keys.2 ++ beacon.2 ++ threshold.2 ++ slew.2 ++
     width.2 ++ spacing.2 ++ hold.2 ++ late.2 ++ ready.2 ++ evacuation.2 ++ sound.2 ++ wide.2)

end Sys2Proof.Machine
end

