-- ==== Sys2Proof/Machine/Startup.lean ====
section
/-! DEFINITION. Resets, LOADING, the entries to LISTENING, RUNNING and CONFIG-FAULT
(11_start_up_settings_port_and_display.md), and HOLD-UP (10_the_dial_store_and_supply_failure.md). -/

namespace Sys2Proof.Machine

/-! ## HOLD-UP -/

/-- R92: a line after the cut; FAULT-DISABLED and the class stay. -/
def LineRecord.cut (r : LineRecord) : LineRecord :=
  { r with
    state := if r.state = .faultDisabled then .faultDisabled else .off
    request := none
    energizeEnd := none
    player := { r.player with state := .idle } }

/-- R92: every line cut, the players stopped, supervision stopped. -/
def Sequencer.cut (d : Sequencer) : Sequencer :=
  { d with lines := d.lines.map LineRecord.cut, chime := .idle, nextSlot := none }

/-- R69, R75, R92: what the cut reports to the DU for a slot: an impulse in flight is aborted, a waiting
one dropped. -/
def dialCut (i : SlotId) (s : State) : State :=
  match (s.slot i).line, (s.slot i).impulse with
  | some _, .inFlight => abortImpulse i s
  | some _, .waiting => dropImpulse i s
  | _, _ => s

/-- R26: YL-EN goes off, the queue is emptied, and a held ask is discarded; the receiver drops a frame that
was being read back. -/
def YardLine.cut (y : YardLine) : YardLine :=
  let sending := match y.attempt with
    | .sending _ => true
    | .none | .waiting _ => false
  { y with
    queue := [], attempt := .none, heldAsks := []
    receive := if sending then .hunt else y.receive
    stamp := if sending then none else y.stamp }

/-- R5, R26, R196, R207: the blocks that only stop at the entry to HOLD-UP. -/
def stopForHoldUp (s : State) : State :=
  { s with
    tb := { s.tb with beaconDue := none, heldBeacon := false }
    ylc := s.ylc.cut
    sp := { s.sp with csc := false, csd := false, listeningEnd := none, displayDue := none } }

/-- R193: the entry to HOLD-UP, as one change. -/
def enterHoldUp (s : State) : State :=
  let s1 := requestSnapshot { s with ds := { s.ds with supply := .holdUp, clearTimer := none } }
  let s2 := emptyZones { s1 with dsq := s1.dsq.cut }
  examineDue (forEach allSlots dialCut (floorHoldUp (stopForHoldUp s2)))

/-- R192: the supply warning asserts: an entry to HOLD-UP in RUN, and the end of the clear timer in HOLD-UP.
A part held in reset takes it at the end of the reset. -/
def warningAsserts (s : State) : State :=
  let s1 := { s with ds := { s.ds with warning := true } }
  if !s1.up then s1
  else if s1.ds.supply = .run then enterHoldUp s1
  else { s1 with ds := { s1.ds with clearTimer := none } }

/-- R192: the supply warning clears; in HOLD-UP the clear timer starts. -/
def warningClears (s : State) : State :=
  let s1 := { s with ds := { s.ds with warning := false } }
  if s.up && s.ds.supply == .holdUp && s.ds.warning then
    { s1 with ds := { s1.ds with clearTimer := some (s1.now + Config.clearMs) } }
  else s1

/-! ## CONFIG-FAULT -/

/-- R21, R203: the TB in CONFIG-FAULT. -/
def TimeBase.fault (t : TimeBase) : TimeBase := { TimeBase.powerOn with timer := t.timer }

/-- R184, R203: the entry to CONFIG-FAULT, where the contact does nothing and the station does not yield; with
valid straps the beacon timer starts (R5). -/
def enterConfigFault (code : FaultCode) (s : State) : State :=
  let s1 := { s with
    tb := s.tb.fault
    bs := BellScheduler.powerOn
    dru := { s.dru with yielding := false }
    sp := { s.sp with
      config := .configFault, faultCode := some code, image := none, imageCrc := none, warnings := [],
      warningTotal := 0, csc := false, displayDue := some (s.now + Config.displayMs) } }
  startBeaconTimer s1

/-! ## The end of a reset -/

/-- R197: the station number the straps give. -/
def stationOfStraps (straps : BitVec 5) : Option Station :=
  if h : 1 ≤ straps.toNat ∧ straps.toNat ≤ 30 then some ⟨straps.toNat - 1, by omega⟩ else none

/-- R197, R198: the start of LOADING: the straps are read, and with a station number the read of the image
begins. -/
def startLoading (straps : BitVec 5) (s : State) : State :=
  match stationOfStraps straps with
  | some n => { s with sp := { s.sp with number := some n, csc := true } }
  | none => enterConfigFault .strapFault s

/-- R187, R192, R196: the end of a reset: a full page starts its erase, LOADING starts, and a warning that
stands is taken as a new one. That the straps are read before the warning is taken is the model's choice
(notes/assumptions/45.md). -/
def endOfReset (straps : BitVec 5) (s : State) : State :=
  let s1 := startLoading straps (eraseIfFull s)
  if s1.ds.warning then warningAsserts s1 else s1

/-! ## Resets -/

/-- R194, R195: the DS at a warm reset. -/
def DialStore.warmReset (d : DialStore) : DialStore :=
  { d.cutOperation with pendingSnapshot := false, supply := .run, clearTimer := none }

/-- R22: the TB at a warm reset; the parameters are reloaded in LOADING. -/
def TimeBase.warmReset (t : TimeBase) : TimeBase :=
  { TimeBase.powerOn with
    fullTime := t.fullTime
    standing := if t.fullTime.isSome then .free else .unset }

/-- A warm reset: every block takes its warm reset values (R22, R46, R57, R77, R100, R120, R139, R162, R185,
R194, R208). -/
def warmReset (cause : ResetCause) (s : State) : State :=
  { s with
    tb := s.tb.warmReset
    ylc := YardLine.afterReset s.now s.ylc.sendIndex
    pt := peersAfterReset
    du := { DialUnit.powerOn with slots := s.du.slots.map DialSlot.warmReset }
    dsq := Sequencer.afterReset
    za := ZoneArbiter.afterReset
    fu := FloorUnit.afterReset s.fu.counter s.fu.inputs
    dru := DrillUnit.afterReset s.dru.counter
    ds := s.ds.warmReset
    sp := SettingsPort.afterReset cause s.sp.imageCrc }

/-- R195: the DS without supply: only the pages outlive it, a write or erase under way being cut (R191). -/
def DialStore.dead (d : DialStore) : DialStore :=
  let c := d.cutOperation
  { DialStore.blank with pages := c.pages, cutIndex := c.cutIndex }

/-- R192: the supply collapses. What the part held outside its non-volatile pages is gone; the model leaves
it at its power-on values (notes/assumptions/25.md). Whether a page key is held is no state of the part's and
stands. -/
def collapse (s : State) : State :=
  { State.reset with
    powered := false, rst := s.rst, ylc := YardLine.afterReset 0 s.ylc.sendIndex,
    fu := FloorUnit.afterReset 0 s.fu.inputs, ds := s.ds.dead, pending := s.pending }

/-- R190, R195, R206: a power-on reset; with RST asserted LOADING waits for its release. -/
def powerOnReset (straps : BitVec 5) (warning : Bool) (s : State) : State :=
  let s1 := eraseIfFull (recoveryScan { (collapse s) with powered := true })
  let s2 := { s1 with ds := { s1.ds with warning } }
  if s2.rst then s2 else endOfReset straps s2

/-! ## The entry to LISTENING -/

/-- R201: the warnings of a load as the SP keeps them. -/
def keptWarnings (all : List Warning) : List Warning := all.take 8

/-- R205: the image CRC equals the held one. -/
def sameImage (held : Option Half) (crc : Half) : Bool := held == some crc

/-- R139: the BS at the end of a load. -/
def BellScheduler.afterLoad (b : BellScheduler) (x : Settings) (same : Bool) : BellScheduler :=
  { (if same then b else BellScheduler.powerOn) with
    entries := x.entries, plans := x.plans, weekday := x.weekday, lateLimit := x.lateLimit }

/-- R78, R80, R86, R93: the DSQ at the end of a load; the first slot falls at the entry to LISTENING. -/
def Sequencer.afterLoad (x : Settings) (now : Nat) : Sequencer :=
  { Sequencer.afterReset with
    lines := x.kinds.map LineRecord.afterReset, budget := x.budget, stagger := x.stagger,
    exclusion := x.exclusion, scanOrder := x.scanOrder, bellPatterns := x.bellPatterns,
    sounderPattern := x.sounderPattern, chimePattern := x.chimePattern, nextSlot := some now }

/-- R196, R200, R201, R205: the SP at the end of a load. -/
def SettingsPort.afterLoad (p : SettingsPort) (i : CheckedImage) (x : Settings) (all : List Warning)
    (now : Nat) : SettingsPort :=
  { p with
    config := .listening, image := some i.bytes, imageCrc := some i.crc, warnings := keptWarnings all,
    warningTotal := min 255 all.length, csc := false,
    listeningEnd := some (now + x.beaconInterval * 1000), displayDue := some (now + Config.displayMs) }

/-- R200: every block takes its settings. -/
def applySettings (i : CheckedImage) (x : Settings) (all : List Warning) (s : State) : State :=
  { s with
    tb := { s.tb with
      beaconInterval := x.beaconInterval, stepThreshold := x.stepThreshold, slewLimit := x.slewLimit }
    du := { s.du with width := x.width, spacing := x.spacing, holdWindow := x.holdWindow }
    dsq := Sequencer.afterLoad x s.now
    za := { s.za with zones := x.zones }
    bs := s.bs.afterLoad x (sameImage s.sp.imageCrc i.crc)
    fu := { s.fu with keys := x.keys, readyWait := x.readyWait }
    dru := { s.dru with
      evacuationLimit := x.evacuationLimit, soundLimit := x.soundLimit, schoolWide := x.schoolWide }
    sp := s.sp.afterLoad i x all s.now }

/-- R58, R140, R182, R200: the end of LOADING with an image that passed. -/
def enterListening (i : CheckedImage) (s : State) : State :=
  let r := settingsOf i.sections
  yieldAtListening (bellsTakeUp (bindSlots r.1.clocks (applySettings i r.1 r.2 s)))

/-- R199, R200: the read of the image has ended. -/
def imageRead (memory : List Byte) (s : State) : State :=
  match checkImage memory with
  | some i => enterListening i s
  | none => enterConfigFault .configFault s

/-! ## The entry to RUNNING -/

/-- R204: the end of LISTENING: each block takes the entry to RUNNING. -/
def enterRunning (s : State) : State :=
  let s1 := startBeaconTimer { s with sp := { s.sp with config := .running, listeningEnd := none } }
  let s2 := examineDue (forEach allZones startEffects (forEach allSlots tryImpulse s1))
  if s2.dru.contact then enqueue (.yield (yieldByte true)) s2 else s2

end Sys2Proof.Machine
end

