-- ==== Sys2Proof/Machine/Starts.lean ====
section
/-! DEFINITION. The commands of start-up and supply: POWER_ON, RST_ASSERT, RST_RELEASE, CONFIG_IMAGE_READ,
LISTENING_END, SUPPLY_WARNING, WARNING_CLEARS, WARNING_REASSERTS, CLEAR_TIMER_EXPIRY, SUPPLY_COLLAPSE,
DISPLAY_WORD. -/

namespace Sys2Proof.Machine

/-- What a command answers. -/
abbrev Answer := Host.Outcome State Fault Refusal

/-- R190, R206: POWER_ON; a part that has supply takes no power-on. -/
def execPowerOn (straps : BitVec 5) (warning : Bool) (s : State) : Answer :=
  .next (if s.powered then s else powerOnReset straps warning s)

/-- R206: RST_ASSERT: a warm reset with cause RESET-INPUT, and the part is held. -/
def execRstAssert (s : State) : Answer :=
  .next (if s.powered && !s.rst then warmReset .resetInput { s with rst := true } else { s with rst := true })

/-- R196, R206: RST_RELEASE: the reset ends and LOADING starts. -/
def execRstRelease (straps : BitVec 5) (s : State) : Answer :=
  .next
    (if s.powered && s.rst then endOfReset straps { s with rst := false } else { s with rst := false })

/-- R198: the image is being read. -/
def State.reading (s : State) : Bool := s.loading && s.sp.csc

/-- R199, R200: CONFIG_IMAGE_READ. -/
def execConfigImageRead (memory : List Byte) (s : State) : Answer :=
  .next (change (fun t => if t.reading then imageRead memory t else t) s)

/-- R204: LISTENING_END, at B after the entry to LISTENING. -/
def execListeningEnd (s : State) : Answer :=
  .next (change (fun t =>
    if t.listening && reached t.sp.listeningEnd t.now then enterRunning t else t) s)

/-- R192, R193: SUPPLY_WARNING. -/
def execSupplyWarning (s : State) : Answer := .next (if s.powered then warningAsserts s else s)

/-- R192: WARNING_CLEARS. -/
def execWarningClears (s : State) : Answer := .next (if s.powered then warningClears s else s)

/-- R192: WARNING_REASSERTS. -/
def execWarningReasserts (s : State) : Answer := .next (if s.powered then warningAsserts s else s)

/-- R194: CLEAR_TIMER_EXPIRY: a warm reset with cause POWER-DIP, and LOADING. -/
def execClearTimerExpiry (straps : BitVec 5) (s : State) : Answer :=
  .next
    (if s.up && s.ds.supply == .holdUp && reached s.ds.clearTimer s.now then
      endOfReset straps (warmReset .powerDip s)
    else s)

/-- R192: SUPPLY_COLLAPSE. -/
def execSupplyCollapse (s : State) : Answer := .next (if s.powered then collapse s else s)

/-- R207: the states in which display words are shifted. -/
def State.displays (s : State) : Bool := s.sp.config != .loading && s.ds.supply == .run

/-- R207: CSD rewritten. -/
def setDisplaySelect (on : Bool) (s : State) : State := { s with sp := { s.sp with csd := on } }

/-- R207: a display word goes out on SDO, and the next is due 1,000 ms later. -/
def shiftWord (s : State) : State :=
  { s with sp := { s.sp with
    displayWord := some s.displayWordNow, displayDue := some (s.now + Config.displayMs) } }

/-- R207: a display word is shifted, with CSD on while it is. -/
def shiftDisplay (s : State) : State := setDisplaySelect false (shiftWord (setDisplaySelect true s))

/-- R207: DISPLAY_WORD. -/
def execDisplayWord (s : State) : Answer :=
  .next (whenUp (fun t => if t.displays && reached t.sp.displayDue t.now then shiftDisplay t else t) s)

end Sys2Proof.Machine
end

