-- ==== Sys2Proof/Machine/Line.lean ====
section
/-! DEFINITION. The commands of the Time Base's running and of the yard line itself: BEACON_TIMER_EXPIRY,
SCHOOL_TIME_BOUNDARY, IDLE_GAP_EXPIRY, BACK_OFF_END, TRANSMIT_COMPLETE, COLLISION, RECEIVE_ABORT,
FRAME_REJECTED, START_BIT_SEEN, DELIMITER_RECOGNISED. -/

namespace Sys2Proof.Machine

/-! ## School time and the beacon timer -/

/-- R5: the beacon timer expires: it restarts with period B, and the TB asks for a BEACON. -/
def beaconExpires (s : State) : State :=
  requestBeacon { s with tb := { s.tb with beaconDue := some (s.now + s.beaconMs) } }

/-- R5: BEACON_TIMER_EXPIRY. -/
def execBeaconTimerExpiry (s : State) : Answer :=
  .next (change (fun t => if reached t.tb.beaconDue t.now then beaconExpires t else t) s)

/-- R17: running school time has reached a minute boundary. -/
def atBoundary (school : Option Nat) : Option Nat := school.filter fun t => 0 < t && t % 60000 == 0

/-- R17: a boundary at full time `t`, told as one event to the DU, the BS and the DS. -/
def boundaryReached (t : Nat) (s : State) : State :=
  let s1 := recomputeAll s
  let s2 := if t % Config.dayMs = 0 && s1.loaded then bellsDayChange t s1 else s1
  if t % 3600000 = 0 then hourByRunning t s2 else s2

/-- R17: SCHOOL_TIME_BOUNDARY. -/
def execSchoolTimeBoundary (s : State) : Answer :=
  .next (change (fun t =>
    match atBoundary t.school with
    | some x => boundaryReached x t
    | none => t) s)

/-! ## Access to the line -/

/-- R23, R32: the line becomes QUIET; an access wait with no slot left ends. -/
def lineQuiet (s : State) : State :=
  let s1 := s.setYlc { s.ylc with busy := false }
  if s1.ylc.attempt = .waiting 0 then beginTransmission s1 else s1

/-- R23: IDLE_GAP_EXPIRY. A line the station itself drives is not idle. -/
def execIdleGapExpiry (s : State) : Answer :=
  .next (change (fun t => if t.ylc.busy && !t.transmitting then lineQuiet t else t) s)

/-- R32: the access wait runs its countdown: a frame waits and the line is QUIET. -/
def State.countingDown (s : State) : Bool :=
  !s.ylc.busy && match s.ylc.attempt with
    | .waiting _ => true
    | .none | .sending _ => false

/-- R32: BACK_OFF_END. -/
def execBackOffEnd (s : State) : Answer :=
  .next (change (fun t => if t.countingDown then beginTransmission t else t) s)

/-- R37: the receive state after a character: kind and sender leave HEADER, the length leads to BODY for as many
characters as it gives (to CHECK where it gives none), and these to CHECK for the two CRC bytes. -/
def ReceiveState.afterCharacter (r : ReceiveState) (character : Byte) : ReceiveState :=
  match r with
  | .hunt => .hunt
  | .header taken =>
    if taken < 2 then .header (taken + 1)
    else if character = 0 then .check 2
    else .body character.toNat
  | .body left => if left ≤ 1 then .check 2 else .body (left - 1)
  | .check left => .check (left - 1)

/-- R23, R32: a start bit sets BUSY; it stops a countdown, and the slots counted stay counted. -/
def setBusy (counted : Nat) (s : State) : State :=
  match s.countingDown, s.ylc.attempt with
  | true, .waiting n => s.setYlc { s.ylc with busy := true, attempt := .waiting (n - counted) }
  | _, _ => s.setYlc { s.ylc with busy := true }

/-- R8, R37: the receiver returns to HUNT, and the receive stamp is dropped with the frame. -/
def YardLine.hunt (y : YardLine) : YardLine := { y with receive := .hunt, stamp := none }

/-- R37, R38: a framing error or a length fault discards the frame at once; while the station transmits it
is not counted. -/
def receiveAbort (s : State) : State :=
  if s.ylc.receive = .hunt then s
  else if s.transmitting then s.setYlc s.ylc.hunt
  else s.setYlc s.ylc.hunt.countCrcError

/-- R37: the character is the length, the third one of HEADER, and it is above 64. -/
def ReceiveState.lengthFault (r : ReceiveState) (character : Byte) : Bool :=
  match r with
  | .header taken => 2 ≤ taken && 64 < character.toNat
  | .hunt | .body _ | .check _ => false

/-- R37: the receiver takes a character in; a length fault discards the frame at once. -/
def takeCharacter (character : Byte) (s : State) : State :=
  if s.ylc.receive.lengthFault character then receiveAbort s
  else s.setYlc { s.ylc with receive := s.ylc.receive.afterCharacter character }

/-- R23, R32, R37: a start bit, and the character that it begins (notes/assumptions/19.md). -/
def startBit (bit : StartBit) (s : State) : State := takeCharacter bit.character (setBusy bit.counted s)

/-- R23, R37: START_BIT_SEEN. -/
def execStartBitSeen (bit : StartBit) (s : State) : Answer := .next (change (startBit bit) s)

/-! ## The end of an attempt -/

/-- R29: the attempt of a STATUS-REPLY has ended, and a held ask for its asker and page is answered. -/
def releaseHeldAsk (asker : Station) (page : Byte) (s : State) : State :=
  if s.ylc.heldAsks.contains (asker, page) then
    requestReply asker page (s.setYlc { s.ylc with heldAsks := s.ylc.heldAsks.erase (asker, page) })
  else s

/-- R5, R29: what was held until the attempt of a frame ended. -/
def releaseHeld (f : OutFrame) (s : State) : State :=
  match f with
  | .beacon => releaseHeldBeacon s
  | .statusReply asker page => releaseHeldAsk asker page s
  | _ => s

/-- R12, R36, R147: SENT, told to the requester. -/
def reportSent (f : OutFrame) (s : State) : State :=
  match f with
  | .beacon => agreementRound s
  | .claim body => claimSent body.number s
  | _ => s

/-- The transmission has ended: YL-EN is off and the receiver hunts. -/
def endSending (s : State) : State := s.setYlc { s.ylc.hunt with attempt := .none }

/-- R33: the selected frame at a place of the queue is sent. -/
def frameSent (i : Nat) (q : QueuedFrame) (s : State) : State :=
  let s1 := endSending s
  releaseHeld q.frame
    (reportSent q.frame (s1.setYlc { s1.ylc with queue := s1.ylc.queue.eraseIdx i }))

/-- R34: the attempt of the selected frame ends in a collision. -/
def frameCollided (i : Nat) (q : QueuedFrame) (s : State) : State :=
  let s1 := endSending s
  if q.attempts + 1 < Config.attemptLimit then
    releaseHeld q.frame (s1.setQueued i { q with attempts := q.attempts + 1, selected := false })
  else
    let s2 := s1.setYlc { s1.ylc.countGiveUp with queue := s1.ylc.queue.eraseIdx i }
    releaseHeld q.frame (reportLost q.frame s2)

/-- What happens to the selected frame while a transmission is in progress. -/
def whileSending (f : Nat → QueuedFrame → State → State) (s : State) : State :=
  if s.transmitting then
    match selectedIndex s.ylc.queue with
    | none => s
    | some i =>
      match s.ylc.queue[i]? with
      | none => s
      | some q => f i q s
  else s

/-- R33: TRANSMIT_COMPLETE. -/
def execTransmitComplete (s : State) : Answer := .next (change (whileSending frameSent) s)

/-- R34: COLLISION. -/
def execCollision (s : State) : Answer := .next (change (whileSending frameCollided) s)

/-! ## Receiving -/

/-- R8, R37: the receive stamp and the station timer are taken at a delimiter found in HUNT. -/
def delimiter (s : State) : State :=
  if s.ylc.receive = .hunt then
    s.setYlc { s.ylc with
      receive := .header 0, stamp := some { fullTime := s.school, timer := s.now } }
  else s

/-- R8, R37: DELIMITER_RECOGNISED. -/
def execDelimiterRecognised (s : State) : Answer := .next (change delimiter s)

/-- R37: RECEIVE_ABORT; in HUNT no frame is in reception, and it does nothing. -/
def execReceiveAbort (s : State) : Answer := .next (change receiveAbort s)

/-- R38, R39: a frame discarded or ignored raises the count of the first check it fails; the read-back of
the own transmission is discarded without check or count (R37). -/
def frameRejected (frame : List Byte) (s : State) : State :=
  if s.transmitting then s.setYlc s.ylc.hunt
  else
    match frameVerdict s.own frame with
    | .crcError => s.setYlc s.ylc.hunt.countCrcError
    | .unknownKind => s.setYlc s.ylc.hunt.countUnknown
    | .clash => s.setYlc s.ylc.hunt.noteClash
    | .good => s

/-- R38: FRAME_REJECTED. A frame that passes every check is not rejected and changes nothing here. -/
def execFrameRejected (frame : List Byte) (s : State) : Answer := .next (change (frameRejected frame) s)

end Sys2Proof.Machine
end

