-- ==== Sys2Proof/Machine/Heard.lean ====
section
/-! DEFINITION. The commands that are good frames heard (02_the_yard_line.md, R37 to R44, and the chapters
of the blocks that take them). -/

namespace Sys2Proof.Machine

/-- R8: the receive stamp of the frame accepted; a frame whose delimiter was not told takes this moment
(notes/assumptions/15.md). -/
def State.receiveStamp (s : State) : ReceiveStamp :=
  s.ylc.stamp.getD { fullTime := s.school, timer := s.now }

/-- R37 to R40, R48: a frame that passes checks 1 to 4 of R38: read back, a station clash, or a good frame,
which is counted, refreshes its sender's entry and is delivered with its receive stamp. -/
def accept (sender : Byte) (deliver : Station → ReceiveStamp → State → State) (s : State) : State :=
  let s1 := s.setYlc s.ylc.hunt
  if s.transmitting then s1
  else if s.own.isSome && stationOfByte sender == s.own then s1.setYlc s1.ylc.noteClash
  else
    let s2 := s1.setYlc s1.ylc.countGood
    match stationOfByte sender with
    | none => s2
    | some n => if s2.delivers then deliver n s.receiveStamp (peerHeard n s2) else s2

/-- A good frame heard. -/
def heard (sender : Byte) (deliver : Station → ReceiveStamp → State → State) (s : State) : Answer :=
  .next (change (accept sender deliver) s)

/-- R40: delivery in LISTENING and RUNNING. -/
def ifTaking (f : State → State) (s : State) : State := if s.taking then f s else s

/-- R40: delivery in LISTENING, RUNNING and HOLD-UP with config state LISTENING or RUNNING. -/
def ifLoaded (f : State → State) (s : State) : State := if s.loaded then f s else s

/-- R40: delivery when the target field is the own number or 31. -/
def ifTargeted (target : Byte) (f : State → State) (s : State) : State :=
  if targetsOwn s.own target then f s else s

/-- `f` for a station that a body names; another value names nothing. -/
def forStation (b : Byte) (f : Station → State → State) (s : State) : State :=
  match stationOfByte b with
  | some n => f n s
  | none => s

/-- R9, R49: BEACON. -/
def execBeacon (sender : Byte) (body : BeaconBody) (s : State) : Answer :=
  heard sender (fun n r => beaconFrom n body r) s

/-- R125: DAYPLAN. -/
def execDayplan (sender : Byte) (day : Half) (code : Byte) (s : State) : Answer :=
  heard sender (fun _ _ => ifLoaded fun t =>
    match planOfCode code.toNat with
    | some c => takeDayplan day.toNat (some c) t
    | none => t) s

/-- R125: REMOVE_OVERRIDE, a DAYPLAN of code 14. -/
def execRemoveOverride (sender : Byte) (day : Half) (s : State) : Answer :=
  heard sender (fun _ _ => ifLoaded (takeDayplan day.toNat none)) s

/-- R127: SHIFT; a kind other than 1 changes nothing (2 and 3 are CANCEL and CLEAR_ALL). -/
def execShift (sender : Byte) (day : Half) (kind first last delta : Byte) (s : State) : Answer :=
  heard sender (fun _ _ => ifLoaded fun t =>
    if kind = 1 then takeShift day.toNat 1 first.toNat last.toNat delta.toInt t else t) s

/-- R127: CANCEL. -/
def execCancel (sender : Byte) (day : Half) (first last : Byte) (s : State) : Answer :=
  heard sender (fun _ _ => ifLoaded (takeShift day.toNat 2 first.toNat last.toNat 0)) s

/-- R127: CLEAR_ALL. -/
def execClearAll (sender : Byte) (day : Half) (s : State) : Answer :=
  heard sender (fun _ _ => ifLoaded (takeShift day.toNat 3 0 0 0)) s

/-- R148: CLAIM. -/
def execClaim (sender : Byte) (body : ClaimBody) (s : State) : Answer :=
  heard sender (fun n _ => ifTaking (hearClaim n body)) s

/-- R149: OBJECT; the reason is not tested. -/
def execObject (sender claimant number _reason : Byte) (s : State) : Answer :=
  heard sender (fun _ _ => ifTaking (forStation claimant fun c => hearObject c number)) s

/-- R153: READY; the refused mask is not used. -/
def execReady (sender holder number : Byte) (readyMask _refusedMask : ZoneMask) (s : State) : Answer :=
  heard sender (fun n _ => ifTaking (forStation holder fun h => hearReady n h number readyMask)) s

/-- R150: RELEASE, whatever the reason. -/
def execRelease (sender number _reason : Byte) (s : State) : Answer :=
  heard sender (fun n _ => ifTaking (hearRelease n number)) s

/-- R170: DRILL_START. -/
def execDrillStart (sender : Byte) (body : DrillStartBody) (s : State) : Answer :=
  heard sender (fun n _ => ifTaking (takeOffer (offerOfStart n body))) s

/-- R173: SILENCE. -/
def execSilence (sender initiator number : Byte) (s : State) : Answer :=
  heard sender (fun _ _ => ifTaking (forStation initiator fun i => hearSilence i number)) s

/-- R175: MUSTER. -/
def execMuster (sender initiator number : Byte) (elapsed : Half) (s : State) : Answer :=
  heard sender (fun n _ => ifTaking (forStation initiator fun i => hearMuster n i number elapsed)) s

/-- R177: DRILL_END. -/
def execDrillEnd (sender initiator number reason : Byte) (s : State) : Answer :=
  heard sender (fun _ _ =>
    ifTaking (forStation initiator fun i => hearDrillEnd i number (endReasonOfByte reason))) s

/-- R50, R55: YIELD. -/
def execYield (sender state : Byte) (s : State) : Answer :=
  heard sender (fun n _ t => ifTaking updateYield (peerYields n state t)) s

/-- R72: DIAL_SET. -/
def execDialSet (sender target line : Byte) (position : Half) (s : State) : Answer :=
  heard sender (fun _ _ => ifTargeted target (ifLoaded (dialSet line position))) s

/-- R41: a STATUS-ASK is answered in RUNNING, and in CONFIG-FAULT with valid straps. -/
def State.answersAsks (s : State) : Bool := s.running || (s.faultValid && s.ds.supply == .run)

/-- R41: STATUS_ASK. -/
def execStatusAsk (sender target page : Byte) (s : State) : Answer :=
  heard sender (fun n _ => ifTargeted target fun t => if t.answersAsks then requestReply n page t else t) s

/-- R40: STATUS_REPLY goes to the PT only. -/
def execStatusReply (sender _asker _page : Byte) (_content : List Byte) (s : State) : Answer :=
  heard sender (fun _ _ t => t) s

/-- R43, R44: INVERT_NEXT_REPLY, a TEST of action 1; an action other than 1 has no effect here. -/
def execInvertNextReply (sender target action _line : Byte) (s : State) : Answer :=
  heard sender (fun _ _ => ifTargeted target fun t =>
    if action = 1 then t.setYlc { t.ylc with invertNext := true } else t) s

/-- R95: supervision is locked to a line. -/
def lockLine (l : LineId) (s : State) : State := { s with dsq := { s.dsq with locked := some l } }

/-- R95: supervision returns to round-robin after the line that was locked. -/
def unlockLine (s : State) : State :=
  match s.dsq.locked with
  | some l => { s with dsq := { s.dsq with locked := none, pointer := s.dsq.positionOf l } }
  | none => s

/-- R43, R95, R99: LOCK_SUPERVISION, a TEST of action 2. -/
def execLockSupervision (sender target line : Byte) (s : State) : Answer :=
  heard sender (fun _ _ => ifTargeted target (ifTaking fun t =>
    match lineOfCode line.toNat with
    | some l => lockLine l t
    | none => t)) s

/-- R43, R95, R99: UNLOCK, a TEST of action 3. -/
def execUnlock (sender target _line : Byte) (s : State) : Answer :=
  heard sender (fun _ _ => ifTargeted target (ifTaking unlockLine)) s

end Sys2Proof.Machine
end

