-- ==== Sys2Proof/Machine/Drive.lean ====
section
/-! DEFINITION. The commands of aging, of the drive lines and of the bells: AGING_EXPIRY, SPACING_EXPIRY,
STAGGER_EXPIRY, WIDTH_EXPIRY, GAP_EXPIRY, CHIME_WIDTH_EXPIRY, CHIME_GAP_EXPIRY, OVERCURRENT,
SUPERVISION_SLOT, ENTRY_DUE. -/

namespace Sys2Proof.Machine

/-- R51: AGING_EXPIRY. -/
def execAgingExpiry (peer : Station) (s : State) : Answer :=
  .next (change (fun t => if t.agedOut peer then peerLost peer t else t) s)

/-! ## Impulses and grants -/

/-- R65: the spacing expiry of a slot has been reached. -/
def State.spacingOut (s : State) (i : SlotId) : Bool :=
  reached ((s.slot i).lastStart.map (· + s.du.spacing)) s.now

/-- R64, R65: SPACING_EXPIRY. -/
def execSpacingExpiry (slot : SlotId) (s : State) : Answer :=
  .next (change (fun t => if t.spacingOut slot then tryImpulse slot t else t) s)

/-- R83: STAGGER_EXPIRY: the arbiter checks, as at the end of every step. -/
def execStaggerExpiry (s : State) : Answer := .next (change id s)

/-! ## The ends of energize periods -/

/-- R84, R87: the player's on-phase is over: the gap starts, or the bell pattern has FINISHED. -/
def playerPhaseEnds (l : LineId) (s : State) : State :=
  let p := (s.line l).player
  if s.dsq.playerLast p then
    bellFinished l (s.setLine l { s.line l with player := { p with state := .idle } })
  else s.setLine l { s.line l with player := { p with state := .gap (s.now + s.dsq.playerGap p) } }

/-- R68, R84: the energize period of a line has run its width. -/
def periodEnds (l : LineId) (q : EnergizeRequest) (s : State) : State :=
  let s1 := s.setLine l (s.line l).turnedOff
  match q.requester with
  | .dial i => deliverImpulse i q.polarity s1
  | .player => playerPhaseEnds l s1

/-- R84: the width expiry of a line. -/
def widthExpires (l : LineId) (s : State) : State :=
  if (s.line l).state == .energized && reached (s.line l).energizeEnd s.now then
    match (s.line l).request with
    | some q => periodEnds l q s
    | none => s
  else s

/-- R84: WIDTH_EXPIRY. -/
def execWidthExpiry (line : LineId) (s : State) : Answer := .next (change (widthExpires line) s)

/-- R87: the gap of a player is over: its next on-phase is requested. -/
def gapEnds (l : LineId) (s : State) : State :=
  let p := (s.line l).player
  match p.state with
  | .gap ends =>
    if ends ≤ s.now then
      match requestPhase l ends (s.setLine l { s.line l with player := { p with phase := p.phase + 1 } }) with
      | (s1, true) => s1
      | (s1, false) => playerAborted l p.pattern.isSome s1
    else s
  | .idle | .onWait | .on => s

/-- R87: GAP_EXPIRY. -/
def execGapExpiry (line : LineId) (s : State) : Answer := .next (change (gapEnds line) s)

/-- R90, R154: a chime on-phase is over; at the last one DONE takes the own record LIVE. -/
def chimeWidthEnds (s : State) : State :=
  match s.dsq.chime with
  | .on phase mask ends =>
    if ends ≤ s.now then
      match chimePhaseEnd phase mask s with
      | (s1, true) => enterLive s1
      | (s1, false) => s1
    else s
  | .idle | .gap _ _ _ => s

/-- R90: CHIME_WIDTH_EXPIRY. -/
def execChimeWidthExpiry (s : State) : Answer := .next (change chimeWidthEnds s)

/-- R90: a chime gap is over. -/
def chimeGapEnds (s : State) : State :=
  match s.dsq.chime with
  | .gap phase mask ends => if ends ≤ s.now then chimePhaseStart phase mask s else s
  | .idle | .on _ _ _ => s

/-- R90: CHIME_GAP_EXPIRY. -/
def execChimeGapExpiry (s : State) : Answer := .next (change chimeGapEnds s)

/-! ## Overcurrent -/

/-- R91: a line after its overcurrent flag. -/
def LineRecord.overcurrent (r : LineRecord) : LineRecord :=
  { r with
    state := .faultDisabled, cls := .shorted, sampleResult := some .shorted, sampleRun := 2,
    request := none, energizeEnd := none, player := { r.player with state := .idle } }

/-- R90: a line drops out of the chime pattern. -/
def ChimePlayer.without (c : ChimePlayer) (l : LineId) : ChimePlayer :=
  match c with
  | .idle => .idle
  | .on phase mask ends => .on phase (mask &&& ~~~ lineBit l) ends
  | .gap phase mask ends => .gap phase (mask &&& ~~~ lineBit l) ends

/-- R69, R71, R90, R91, R114, R115, R116: what the overcurrent of a line reports, by the line as it stood. -/
def overcurrentReports (l : LineId) (old : LineRecord) (s : State) : State :=
  match old.kind with
  | .clock =>
    match old.request.map EnergizeRequest.requester with
    | some (.dial i) => classToDial l (abortImpulse i s)
    | _ => classToDial l s
  | .bell | .sounder => playerAborted l old.player.pattern.isSome s
  | .page => pageCut l s
  | .chime => s.setChime (s.dsq.chime.without l)
  | .unused => s

/-- R91: the overcurrent flag of an ENERGIZED line. -/
def overcurrentAt (l : LineId) (s : State) : State :=
  let old := s.line l
  if old.state = .energized then overcurrentReports l old (s.setLine l old.overcurrent) else s

/-- R91: OVERCURRENT. -/
def execOvercurrent (line : LineId) (s : State) : Answer := .next (change (overcurrentAt line) s)

/-! ## Supervision -/

/-- R97: what a change to OPEN or SHORT drops: a waiting request, or a player in GAP. -/
def faultDrops (l : LineId) (old : LineRecord) (s : State) : State :=
  match old.state, old.player.state, old.request.map EnergizeRequest.requester with
  | .waiting, _, some (.dial i) => dropImpulse i s
  | .waiting, _, some .player => playerAborted l old.player.pattern.isSome s
  | _, .gap _, _ => playerAborted l old.player.pattern.isSome s
  | _, _, _ => s

/-- R96: the state of a line at a change of its class to OPEN or SHORT. -/
def LineState.afterFault : LineState → LineState
  | .off | .waiting => .faultDisabled
  | .energized => .energized
  | .faultDisabled => .faultDisabled

/-- R96, R97: a line's class changes to OPEN or SHORT; a player waiting or in GAP goes IDLE. -/
def LineRecord.faulted (r : LineRecord) (c : LineClass) : LineRecord :=
  { r with
    cls := c
    state := r.state.afterFault
    request := if r.state = .waiting then none else r.request
    player := { r.player with state :=
      match r.player.state with
      | .onWait | .gap _ | .idle => .idle
      | .on => .on } }

/-- R96: a line's class returns to NORMAL. -/
def LineRecord.cleared (r : LineRecord) : LineRecord :=
  { r with cls := .normal, state := if r.state = .faultDisabled then .off else r.state }

/-- R71, R96, R97, R115, R116: a change of class, with its reports. -/
def classChanges (l : LineId) (c : LineClass) (s : State) : State :=
  let old := s.line l
  if c.faulted then classToDial l (faultDrops l old (s.setLine l (old.faulted c)))
  else normalToZone l (classToDial l (s.setLine l old.cleared))

/-- R96: a sample of a line. -/
def sampleLine (l : LineId) (x : SenseResult) (s : State) : State :=
  let r := (s.line l).sampled x
  let s1 := s.setLine l r
  if r.sampleRun = 2 ∧ r.cls ≠ classOfSense x then classChanges l (classOfSense x) s1 else s1

/-- R93, R94: a supervision slot: the next is due 250 ms on, and at most one line is sampled. -/
def supervise (reading : SenseResult) (s : State) : State :=
  let pick := s.slotPick
  let s1 := { s with dsq := { s.dsq with
    pointer := pick.2, nextSlot := s.dsq.nextSlot.map (· + Config.supervisionMs) } }
  match pick.1 with
  | some l => sampleLine l reading s1
  | none => s1

/-- R93: SUPERVISION_SLOT. -/
def execSupervisionSlot (reading : SenseResult) (s : State) : Answer :=
  .next (change (fun t => if t.taking && reached t.dsq.nextSlot t.now then supervise reading t else t) s)

/-! ## Bells -/

/-- R131: ENTRY_DUE; entries due at the same moment follow in next-entry order. -/
def execEntryDue (s : State) : Answer := .next (change examineDue s)

end Sys2Proof.Machine
end

