-- ==== Sys2Proof/Machine/Keys.lean ====
section
/-! DEFINITION. The commands of the floor, of the drill unit's keys and panel, and of the dial store:
PAGE_KEY_PRESS, PAGE_KEY_RELEASE, REFUSAL_END, WINDOW_CLOSE, READY_WAIT_END, HOLD_END, TARGET_GRACE_EXPIRY,
DRILL_KEY_PRESS, MUSTER_KEY_PRESS, KEY_ARMED, DRILL_DEADLINE, FIRE_PANEL_CHANGE, WRITE_COMPLETE,
ERASE_COMPLETE. -/

namespace Sys2Proof.Machine

/-! ## Page keys -/

/-- R142: when the level that counts from now on began: a level counts when it has held for 50 ms. -/
def State.levelBegan (s : State) : Nat := s.now - Config.debounceMs

/-- R142: a key that counts as held from now on was armed: it had counted as released since the reset, or it was
not held for the first 50 ms after the reset. -/
def State.keyArmed (s : State) (k : KeyId) : Bool :=
  (s.key k).armed || (!(s.key k).held && Config.debounceMs ≤ s.levelBegan)

/-- R142: whether a key is held, with the part up or not. -/
def setHeld (k : KeyId) (held : Bool) (s : State) : State := s.setKey k { s.key k with held }

/-- R142, R146, R161: a counted change of a key to held; unarmed it is no press. -/
def keyHeld (k : KeyId) (s : State) : State :=
  if (s.key k).held then s
  else
    let s1 := s.setKey k { s.key k with armed := s.keyArmed k, held := true }
    if s.keyArmed k && s.taking then pressKey k s1 else s1

/-- R146: PAGE_KEY_PRESS; a part without supply or held in reset counts no press. -/
def execPageKeyPress (key : KeyId) (s : State) : Answer :=
  .next (if s.up then change (keyHeld key) s else setHeld key true s)

/-- R142, R155: a key counts as released: it is armed, and the own claim or floor of the key ends. -/
def keyReleased (k : KeyId) (s : State) : State :=
  let s1 := s.setKey k { s.key k with held := false, armed := true }
  match s1.fu.own with
  | some o => if o.key = k && s1.taking then releaseOwnKey o s1 else s1
  | none => s1

/-- R155: PAGE_KEY_RELEASE; a part without supply or held in reset counts no release. -/
def execPageKeyRelease (key : KeyId) (s : State) : Answer :=
  .next (if s.up then change (keyReleased key) s else setHeld key false s)

/-- R142: REFUSAL_END: the 2 s of a refusal are over. -/
def execRefusalEnd (key : KeyId) (s : State) : Answer :=
  .next (whenUp (fun t => if reached (t.key key).refusalEnd t.now then lampOff key t else t) s)

/-! ## Windows, waits and holds -/

/-- R151: the entry of a claimant whose window has reached its end. -/
def State.closingClaim (s : State) (claimant : Station) : Option ClaimEntry :=
  s.fu.claims.find? fun e => e.claimant == claimant && e.windowEnd ≤ s.now

/-- R151: the window of a claimant's entry closes. -/
def windowCloses (claimant : Station) (s : State) : State :=
  match s.closingClaim claimant with
  | some x => if s.taking then closeWindow x s else s
  | none => s

/-- R151: WINDOW_CLOSE. -/
def execWindowClose (claimant : Station) (s : State) : Answer := .next (change (windowCloses claimant) s)

/-- R153: the ready wait ends. -/
def readyWaitEnds (s : State) : State :=
  match s.fu.own with
  | some o => if o.phase == .gathering && reached o.readyWaitEnd s.now then closeGathering o s else s
  | none => s

/-- R153: READY_WAIT_END. -/
def execReadyWaitEnd (s : State) : Answer := .next (change readyWaitEnds s)

/-- R156, first row: the hold end of the own floor. -/
def holdEnds (s : State) : State :=
  match s.fu.view, s.fu.own with
  | some v, some o =>
    if s.own = some v.holder && o.phase.holdsFloor && v.holdEnd ≤ s.now then ownHoldEnds o s else s
  | _, _ => s

/-- R156: HOLD_END. -/
def execHoldEnd (s : State) : Answer := .next (change holdEnds s)

/-- R156, second row: the grace of a peer's floor has passed. -/
def graceExpires (s : State) : State :=
  match s.fu.view with
  | some v => if s.own ≠ some v.holder ∧ v.holdEnd + Config.graceMs ≤ s.now then floorLeavesView s else s
  | none => s

/-- R156: TARGET_GRACE_EXPIRY. -/
def execTargetGraceExpiry (s : State) : Answer := .next (change graceExpires s)

/-! ## The drill and muster keys -/

/-- R165, R166: DRILL_KEY_PRESS. -/
def execDrillKeyPress (s : State) : Answer :=
  .next (change (fun t => if t.running && t.dru.drillArmed then pressDrillKey t else t) s)

/-- R165, R174: MUSTER_KEY_PRESS. -/
def execMusterKeyPress (s : State) : Answer :=
  .next (change (fun t => if t.running && t.dru.musterArmed then pressMusterKey t else t) s)

/-- R165: a key counts as released for the first time after a reset. -/
def armKey (key : DrillUnitKey) (s : State) : State :=
  match key with
  | .drillKey => { s with dru := { s.dru with drillArmed := true } }
  | .musterKey => { s with dru := { s.dru with musterArmed := true } }

/-- R165: KEY_ARMED. -/
def execKeyArmed (key : DrillUnitKey) (s : State) : Answer := .next (whenUp (armKey key) s)

/-- R168: DRILL_DEADLINE: school time has reached a deadline of the running drill. -/
def execDrillDeadline (s : State) : Answer :=
  .next (change (fun t => if t.taking then checkPhase t else t) s)

/-! ## The fire panel -/

/-- R181: FIRE_PANEL_CHANGE; the level the contact has already is no change. -/
def execFirePanelChange (asserted : Bool) (s : State) : Answer :=
  .next (change (fun t => if t.dru.contact = asserted then t else contactChanges asserted t) s)

/-! ## The dial store -/

/-- R187: the write under way has run its 5 ms. -/
def writeEnds (s : State) : State :=
  match s.ds.activity with
  | .writing p ends => if ends ≤ s.now then completeWrite p s else s
  | .idle | .erasing _ => s

/-- R187: WRITE_COMPLETE. -/
def execWriteComplete (s : State) : Answer := .next (whenUp writeEnds s)

/-- R187: the erase under way has run its 60 ms. -/
def eraseEnds (s : State) : State :=
  match s.ds.activity with
  | .erasing ends => if ends ≤ s.now then completeErase s else s
  | .idle | .writing _ _ => s

/-- R187: ERASE_COMPLETE. -/
def execEraseComplete (s : State) : Answer := .next (whenUp eraseEnds s)

end Sys2Proof.Machine
end

