-- ==== Sys2Proof/Machine/Tick.lean ====
section
/-! DEFINITION. The passing of one millisecond, which is what a step does on an empty queue
(notes/assumptions/6.md), and the commands that fall due at it without anything read from outside. -/

namespace Sys2Proof.Machine

/-- R1, R2, R206: one millisecond: school time counts unless it is UNSET or at the top of its range, and the
station timer unless RST holds the part. -/
def TimeBase.afterMs (t : TimeBase) (held : Bool) : TimeBase :=
  { t with
    fullTime := t.fullTime.map fun x => min (x + 1) Config.maxFullTime
    timer := if held then t.timer else t.timer + 1 }

/-- One millisecond passes. -/
def passMs (s : State) : State := if s.powered then { s with tb := s.tb.afterMs s.rst } else s

/-- A command when its condition holds. -/
def dueWhen (condition : Bool) (c : Instr) : List Instr := if condition then [c] else []

/-- The lines of a kind, in the order of the scan order table. -/
def State.scanLines (s : State) (k : LineKind) : List LineId :=
  s.dsq.scanOrder.toList.filter fun l => (s.line l).kind == k

/-- The energize period of a line has run out. -/
def State.widthOut (s : State) (l : LineId) : Bool :=
  (s.line l).state == .energized && reached (s.line l).energizeEnd s.now

/-- The gap of a player has run out. -/
def State.gapOut (s : State) (l : LineId) : Bool :=
  match (s.line l).player.state with
  | .gap ends => ends ≤ s.now
  | .idle | .onWait | .on => false

/-- Energize periods, gaps and the chime. -/
def State.driveDue (s : State) : List Instr :=
  (allLines.filter s.widthOut).map .widthExpiry ++
  ((s.scanLines .sounder).filter s.gapOut).map .gapExpiry ++
  ((s.scanLines .bell).filter s.gapOut).map .gapExpiry ++
  (match s.dsq.chime with
   | .idle => []
   | .on _ _ ends => dueWhen (ends ≤ s.now) .chimeWidthExpiry
   | .gap _ _ ends => dueWhen (ends ≤ s.now) .chimeGapExpiry)

/-- R131: the next entry is due. -/
def State.entryOut (s : State) : Bool :=
  s.examines && match s.bs.next, s.school with
    | some (_, due), some t => due ≤ (t : Int)
    | _, _ => false

/-- R163: school time has just reached a deadline of the running drill. -/
def State.deadlineOut (s : State) : Bool :=
  s.taking && match s.dru.record, s.school with
    | some r, some t =>
      r.phase.running && (t == r.start + r.soundLimit * 1000 || t == r.start + r.evacuationLimit * 1000)
    | _, _ => false

/-- School time: entries, boundaries and deadlines. -/
def State.schoolDue (s : State) : List Instr :=
  dueWhen s.entryOut .entryDue ++ dueWhen (atBoundary s.school).isSome .schoolTimeBoundary ++
  dueWhen s.deadlineOut .drillDeadline

/-- R65: the spacing of a slot has just run out. -/
def State.spacingNow (s : State) (i : SlotId) : Bool :=
  ((s.slot i).lastStart.map (· + s.du.spacing)) == some s.now

/-- R83: the stagger gap has just passed. -/
def State.staggerNow (s : State) : Bool := s.dsq.lastGrant.map (· + s.dsq.stagger) == some s.now

/-- Spacings and the stagger gap. -/
def State.spacingDue (s : State) : List Instr :=
  (allSlots.filter s.spacingNow).map .spacingExpiry ++ dueWhen s.staggerNow .staggerExpiry

/-- R156: which end of a hold is due. -/
def State.holdDue (s : State) : List Instr :=
  match s.fu.view with
  | none => []
  | some v =>
    if s.own = some v.holder then
      dueWhen (v.holdEnd ≤ s.now && s.fu.own.any fun o => o.phase.holdsFloor) .holdEnd
    else dueWhen (v.holdEnd + Config.graceMs ≤ s.now) .targetGraceExpiry

/-- Windows, waits, holds and refusals. -/
def State.floorDue (s : State) : List Instr :=
  (if s.taking then
    ((s.fu.claims.filter fun e => e.windowEnd ≤ s.now).map fun e => .windowClose e.claimant) ++
    dueWhen (s.fu.own.any fun o => o.phase == .gathering && reached o.readyWaitEnd s.now) .readyWaitEnd ++
    s.holdDue
  else []) ++
  (allKeys.filter fun k => reached (s.key k).refusalEnd s.now).map .refusalEnd

/-- The timers of the station as a whole. -/
def State.stationDue (s : State) : List Instr :=
  dueWhen (reached s.tb.beaconDue s.now) .beaconTimerExpiry ++
  dueWhen (s.listening && reached s.sp.listeningEnd s.now) .listeningEnd ++
  (allStations.filter s.agedOut).map .agingExpiry ++
  dueWhen (s.displays && reached s.sp.displayDue s.now) .displayWord ++
  (match s.ds.activity with
   | .idle => []
   | .writing _ ends => dueWhen (ends ≤ s.now) .writeComplete
   | .erasing ends => dueWhen (ends ≤ s.now) .eraseComplete)

/-- The commands that are due at this moment, in the order the model gives them. -/
def State.dueCommands (s : State) : List Instr :=
  if s.up then s.driveDue ++ s.schoolDue ++ s.spacingDue ++ s.floorDue ++ s.stationDue else []

/-- One millisecond passes, and the commands that fall due wait in the queue. -/
def tick (s : State) : State :=
  let t := passMs s
  { t with pending := t.dueCommands }

end Sys2Proof.Machine
end

