-- ==== Sys2Proof/Machine/Dispatch.lean ====
section
/-! DEFINITION. The dispatch: one arm per command, each one direct call of its meaning. -/

namespace Sys2Proof.Machine

/-- The effect of a command on everything but the queue. -/
def exec (i : Instr) (s : State) : Host.Outcome State Fault Refusal :=
  match i with
  | .powerOn straps warning => Sys2Proof.Machine.execPowerOn straps warning s
  | .rstAssert => Sys2Proof.Machine.execRstAssert s
  | .rstRelease straps => Sys2Proof.Machine.execRstRelease straps s
  | .configImageRead memory => Sys2Proof.Machine.execConfigImageRead memory s
  | .listeningEnd => Sys2Proof.Machine.execListeningEnd s
  | .supplyWarning => Sys2Proof.Machine.execSupplyWarning s
  | .warningClears => Sys2Proof.Machine.execWarningClears s
  | .warningReasserts => Sys2Proof.Machine.execWarningReasserts s
  | .clearTimerExpiry straps => Sys2Proof.Machine.execClearTimerExpiry straps s
  | .supplyCollapse => Sys2Proof.Machine.execSupplyCollapse s
  | .displayWord => Sys2Proof.Machine.execDisplayWord s
  | .beaconTimerExpiry => Sys2Proof.Machine.execBeaconTimerExpiry s
  | .schoolTimeBoundary => Sys2Proof.Machine.execSchoolTimeBoundary s
  | .idleGapExpiry => Sys2Proof.Machine.execIdleGapExpiry s
  | .backOffEnd => Sys2Proof.Machine.execBackOffEnd s
  | .transmitComplete => Sys2Proof.Machine.execTransmitComplete s
  | .collision => Sys2Proof.Machine.execCollision s
  | .receiveAbort => Sys2Proof.Machine.execReceiveAbort s
  | .frameRejected frame => Sys2Proof.Machine.execFrameRejected frame s
  | .beacon sender body => Sys2Proof.Machine.execBeacon sender body s
  | .dayplan sender day code => Sys2Proof.Machine.execDayplan sender day code s
  | .removeOverride sender day => Sys2Proof.Machine.execRemoveOverride sender day s
  | .shift sender day kind first last delta => Sys2Proof.Machine.execShift sender day kind first last delta s
  | .cancel sender day first last => Sys2Proof.Machine.execCancel sender day first last s
  | .clearAll sender day => Sys2Proof.Machine.execClearAll sender day s
  | .claim sender body => Sys2Proof.Machine.execClaim sender body s
  | .object sender claimant number reason => Sys2Proof.Machine.execObject sender claimant number reason s
  | .ready sender holder number readyMask refusedMask => Sys2Proof.Machine.execReady sender holder number readyMask refusedMask s
  | .release sender number reason => Sys2Proof.Machine.execRelease sender number reason s
  | .drillStart sender body => Sys2Proof.Machine.execDrillStart sender body s
  | .silence sender initiator number => Sys2Proof.Machine.execSilence sender initiator number s
  | .muster sender initiator number elapsed => Sys2Proof.Machine.execMuster sender initiator number elapsed s
  | .drillEnd sender initiator number reason => Sys2Proof.Machine.execDrillEnd sender initiator number reason s
  | .yield sender state => Sys2Proof.Machine.execYield sender state s
  | .dialSet sender target line position => Sys2Proof.Machine.execDialSet sender target line position s
  | .statusAsk sender target page => Sys2Proof.Machine.execStatusAsk sender target page s
  | .statusReply sender asker page content => Sys2Proof.Machine.execStatusReply sender asker page content s
  | .invertNextReply sender target action line => Sys2Proof.Machine.execInvertNextReply sender target action line s
  | .lockSupervision sender target line => Sys2Proof.Machine.execLockSupervision sender target line s
  | .unlock sender target line => Sys2Proof.Machine.execUnlock sender target line s
  | .agingExpiry peer => Sys2Proof.Machine.execAgingExpiry peer s
  | .spacingExpiry slot => Sys2Proof.Machine.execSpacingExpiry slot s
  | .staggerExpiry => Sys2Proof.Machine.execStaggerExpiry s
  | .widthExpiry line => Sys2Proof.Machine.execWidthExpiry line s
  | .gapExpiry line => Sys2Proof.Machine.execGapExpiry line s
  | .chimeWidthExpiry => Sys2Proof.Machine.execChimeWidthExpiry s
  | .chimeGapExpiry => Sys2Proof.Machine.execChimeGapExpiry s
  | .overcurrent line => Sys2Proof.Machine.execOvercurrent line s
  | .supervisionSlot reading => Sys2Proof.Machine.execSupervisionSlot reading s
  | .entryDue => Sys2Proof.Machine.execEntryDue s
  | .pageKeyPress key => Sys2Proof.Machine.execPageKeyPress key s
  | .pageKeyRelease key => Sys2Proof.Machine.execPageKeyRelease key s
  | .refusalEnd key => Sys2Proof.Machine.execRefusalEnd key s
  | .windowClose claimant => Sys2Proof.Machine.execWindowClose claimant s
  | .readyWaitEnd => Sys2Proof.Machine.execReadyWaitEnd s
  | .holdEnd => Sys2Proof.Machine.execHoldEnd s
  | .targetGraceExpiry => Sys2Proof.Machine.execTargetGraceExpiry s
  | .drillKeyPress => Sys2Proof.Machine.execDrillKeyPress s
  | .musterKeyPress => Sys2Proof.Machine.execMusterKeyPress s
  | .keyArmed key => Sys2Proof.Machine.execKeyArmed key s
  | .drillDeadline => Sys2Proof.Machine.execDrillDeadline s
  | .firePanelChange asserted => Sys2Proof.Machine.execFirePanelChange asserted s
  | .writeComplete => Sys2Proof.Machine.execWriteComplete s
  | .eraseComplete => Sys2Proof.Machine.execEraseComplete s
  | .startBitSeen bit => Sys2Proof.Machine.execStartBitSeen bit s
  | .delimiterRecognised => Sys2Proof.Machine.execDelimiterRecognised s

end Sys2Proof.Machine
end

