-- ==== Sys2Proof/Safety.lean ====
section
/-! DEFINITION. What the part promises in every state it can be in: the laws of the part that its chapters
name, as predicates of a state. -/

namespace Sys2Proof.Machine

/-- R1, R3: school time is in its range, and standing is UNSET exactly while it is UNSET; REFERENCE is not
taken. -/
def TimeBase.lawful (t : TimeBase) : Bool :=
  (t.fullTime.all fun x => x ≤ Config.maxFullTime) && (t.standing == .unset) == t.fullTime.isNone &&
  t.standing != .reference

/-- R45: every link count is a 16-bit count. -/
def LinkCounts.lawful (c : LinkCounts) : Bool :=
  c.goodFrames ≤ 65535 && c.crcErrors ≤ 65535 && c.unknownKinds ≤ 65535 && c.queueDrops ≤ 65535 &&
  c.giveUps ≤ 65535 && c.clashes ≤ 65535

/-- R27, R45: at most 8 frames, at most one of them a BEACON, and the link counts within 16 bits. -/
def YardLine.lawful (y : YardLine) : Bool :=
  y.queue.length ≤ Config.queueLimit &&
  (y.queue.filter fun q => q.frame == .beacon).length ≤ 1 && y.counts.lawful

/-- R144: at most four claims, never two from the same claimant. -/
def claimsLawful (claims : List ClaimEntry) : Bool :=
  decide (claims.length ≤ Config.claimLimit ∧ (claims.map ClaimEntry.claimant).Nodup)

/-- R176: the reported set is a subset of the expected set. -/
def DrillRecord.lawful (r : DrillRecord) : Bool := subset r.reported r.expected

/-- R117: TRUNK-SELECT is on exactly while at least one zone's current level is a page level. -/
def State.trunkLawful (s : State) : Bool := s.za.trunkSelect == s.anyPaged

/-- R154: MIC-LIVE is on only while the own claim record is LIVE. -/
def FloorUnit.micLawful (f : FloorUnit) : Bool :=
  !f.micLive || f.own.any fun o => o.phase == .live

/-- R144, R154: the claim list within its bounds, and MIC-LIVE only while the own claim record is LIVE. -/
def FloorUnit.lawful (f : FloorUnit) : Bool := claimsLawful f.claims && f.micLawful

/-- R83: the energized count does not exceed the drive budget. -/
def State.budgetLawful (s : State) : Bool := s.energizedCount ≤ s.dsq.budget

/-- R83, R89, R90: a zone names only PAGE lines as its page line, and the chime player holds only CHIME
lines, so that no line outside the drive budget is switched as a counted one. -/
def State.wired (s : State) : Bool :=
  (allZones.all fun z => match (s.zone z).pageLine with
    | some l => (s.line l).kind == .page
    | none => true) &&
  match s.dsq.chime with
  | .idle => true
  | .on _ mask _ | .gap _ mask _ => allLines.all fun l => !inLines mask l || (s.line l).kind == .chime

/-- R81: an energize request of a dial slot stands at the line bound to that slot. -/
def State.requestsBound (s : State) : Bool :=
  allLines.all fun l => match (s.line l).request.map EnergizeRequest.requester with
    | some (.dial i) => (s.slot i).line == some l
    | some .player | none => true

/-- R103: a zone's hold stack holds at most three entries, of floors and drills only, whose levels rise strictly
from bottom to top (the list has its top entry first) and are all lower than the zone's current level. -/
def Zone.lawful (z : Zone) : Bool :=
  z.stack.length ≤ Config.stackLimit &&
  decide (z.stack.Pairwise fun upper lower => lower.level.rank < upper.level.rank) &&
  z.stack.all fun o => o.level.rank < z.level.rank && (o.anyFloor || o.anyDrill)

/-- R103: the law of the hold stack at every zone. -/
def State.stacksLawful (s : State) : Bool := allZones.all fun z => (s.zone z).lawful

/-- R87, R104, R113, R115: a zone rings its bell line, or sounds its sounder line. -/
def State.played (s : State) (l : LineId) : Prop :=
  ∃ z : ZoneId,
    (s.zone z).bellLine = some l ∧ (∃ b, (s.zone z).owner = some (.bell b)) ∨
    (s.zone z).sounderLine = some l ∧ (s.zone z).sounderOn = true ∧ ∃ i n, (s.zone z).owner = some (.drill i n)

/-- R89, R113: a zone has its page line on for a floor. -/
def State.paged (s : State) (l : LineId) : Prop :=
  ∃ z : ZoneId, (s.zone z).pageLine = some l ∧ (s.zone z).pageOn = true ∧
    ∃ h n c, (s.zone z).owner = some (.floor h n c)

/-- R87, R89, R90: a zone, or the chime of the own claim, drives the line: a line whose player plays for a zone, a
page line that is on at a zone, or a line taken by the chime. -/
def State.drives (s : State) (l : LineId) : Prop :=
  (((s.line l).player.state = .onWait ∨ (s.line l).player.state = .on) ∧ s.played l) ∨
  ((s.line l).state = .energized ∧ s.paged l) ∨
  (s.line l).state = .energized ∧ s.fu.own ≠ none ∧
    match s.dsq.chime with
    | .idle => False
    | .on _ mask _ | .gap _ mask _ => inLines mask l = true

/-- R182: while the station yields no BELL, SOUNDER, PAGE or CHIME line is energized and MIC-LIVE is off. -/
def State.yieldLawful (s : State) : Bool :=
  !s.dru.yielding || (!s.fu.micLive && allLines.all fun l =>
    (s.line l).state != .energized || (s.line l).kind == .clock)

/-- What stands behind the law of R182 in every state: what drives the lines that are no CLOCK lines, and what a
station that yields, or takes no request, holds. -/
structure State.Driven (s : State) : Prop where
  /-- R87, R89, R90: a line that is on, or waits, is driven by a zone or by the chime. -/
  lines : ∀ l : LineId, (s.line l).kind ≠ .clock →
    (s.line l).state = .energized ∨ (s.line l).state = .waiting → s.drives l
  /-- R99, R204: outside RUNNING no line is on or waits, and no player plays. -/
  quiet : s.running = false → s.dsq.chime = .idle ∧ ∀ l : LineId,
    (s.line l).state ≠ .energized ∧ (s.line l).state ≠ .waiting ∧ (s.line l).player.state = .idle
  /-- R87: a player between two on-phases plays for a zone. -/
  gaps : ∀ (l : LineId) (ends : Nat), (s.line l).kind ≠ .clock → (s.line l).player.state = .gap ends → s.played l
  /-- R58: a dial slot is bound to a CLOCK line. -/
  bound : ∀ (i : SlotId) (l : LineId), (s.slot i).line = some l → (s.line l).kind = .clock
  /-- R90, R154: the chime plays only for an own record in CHIMING. -/
  chime : s.dsq.chime ≠ .idle → ∃ o, s.fu.own = some o ∧ o.phase = .chiming
  /-- R154. -/
  mic : s.fu.micLawful = true
  /-- R108, R160, R182: a station that yields has no own floor, and YIELD at every zone. -/
  yields : s.dru.yielding = true → s.taking = true →
    s.fu.own = none ∧ ∀ z : ZoneId, (s.zone z).owner = some .yield
  /-- R119, R120, R161: outside LISTENING and RUNNING no floor is held and every zone is IDLE. -/
  outside : s.taking = false → s.fu.own = none ∧ ∀ z : ZoneId, (s.zone z).owner = none
  /-- R192, R206: a part without supply, or held in reset, is in LOADING. -/
  held : s.up = false → s.sp.config = .loading

/-! ## Frames of a step -/

/-- The parts of the state, block by block. -/
inductive Part where
  | powered
  | rst
  | tb
  | ylc
  | pt
  | du
  | dsq
  | za
  | bs
  | fu
  | dru
  | ds
  | sp
  | pending
  deriving DecidableEq, Repr

/-- A part stands in `t` as it stood in `s`. -/
def State.sameIn (s t : State) : Part → Prop
  | .powered => t.powered = s.powered
  | .rst => t.rst = s.rst
  | .tb => t.tb = s.tb
  | .ylc => t.ylc = s.ylc
  | .pt => t.pt = s.pt
  | .du => t.du = s.du
  | .dsq => t.dsq = s.dsq
  | .za => t.za = s.za
  | .bs => t.bs = s.bs
  | .fu => t.fu = s.fu
  | .dru => t.dru = s.dru
  | .ds => t.ds = s.ds
  | .sp => t.sp = s.sp
  | .pending => t.pending = s.pending

/-- Every part but those named stands in `t` as it stood in `s`. -/
def State.keepsAllBut (s : State) (changed : List Part) (t : State) : Prop :=
  ∀ p : Part, p ∉ changed → s.sameIn t p

/-- What a step ends with when no zone changed its owner: TRUNK-SELECT follows the zones (R117), the arbiter
checks (R83), and the YLC selects (R31). -/
def endOfStep (s : State) : State := selectNext (arbitrate (syncTrunk s))

/-- The station takes a good frame whose sender byte names the peer `n`, and delivers it (R37 to R40). -/
def State.hears (s : State) (sender : Byte) (n : Station) : Prop :=
  s.up = true ∧ s.transmitting = false ∧ stationOfByte sender = some n ∧ s.own ≠ some n ∧
  s.delivers = true

/-- What the acceptance of any good frame of the peer `n` leaves (R37, R38, R48): the receiver hunts, the frame
is counted, and the sender's entry is PRESENT and refreshed. -/
def State.heardFrom (s : State) (n : Station) : State :=
  { s with
    ylc := { s.ylc with
      receive := .hunt, stamp := none
      counts := { s.ylc.counts with goodFrames := min 65535 (s.ylc.counts.goodFrames + 1) } }
    pt := s.pt.set n { s.pt[n] with state := .present, lastHeard := some s.now } }

/-- A frame stands in the transmit queue. -/
def State.queued (s : State) (f : OutFrame) : Prop := ∃ q ∈ s.ylc.queue, q.frame = f

/-- R187 to R189: a snapshot of now with these dials has begun in the store, if that was idle with a slot left and
no snapshot pending; otherwise what the store does goes on and a snapshot is pending. -/
def State.snapshotAsked (s : State) (dials : Vector DialReading 6) (t : State) : Prop :=
  if s.ds.activity = .idle ∧ s.ds.next < Config.pageSlots ∧ s.ds.pendingSnapshot = false then
    t.ds = { s.ds with activity := .writing { s.snapshotNow with dials } (s.now + Config.writeMs) }
  else t.ds = { s.ds with pendingSnapshot := true }

/-- No zone holds an owner that `is` holds of, current or stacked. -/
def State.nowhere (s : State) (is : Owner → Bool) : Prop :=
  ∀ z : ZoneId, (∀ o, (s.zone z).owner = some o → is o = false) ∧ ∀ o ∈ (s.zone z).stack, is o = false

end Sys2Proof.Machine
end

