-- ==== Sys2Proof/WellFormed.lean ====
section
/-! DEFINITION. The checks on a command that its type does not make: what a frame of the formats section
(02_the_yard_line.md, 2.11) and the checks of R38 admit. A good frame carries its body in full, so only the
bodies of variable length and the codes by which the table splits one kind into several rows are checked. -/

namespace Sys2Proof

/-- R38: a CLAIM's target count is 1–8. -/
def ClaimBody.wf (b : ClaimBody) : Bool := 1 ≤ b.targets.length && b.targets.length ≤ 8

/-- The command is one the yard line, the pins or the timers can bring. -/
def Instr.wf : Instr → Bool
  | .claim _ body => body.wf
  -- R38: a STATUS-REPLY body is 2–64 bytes, the first two being the asker and the page field
  | .statusReply _ _ _ content => content.length ≤ 62
  -- R38: a complete frame holds kind, sender, length, the body the length gives (0–64) and the CRC
  | .frameRejected frame =>
      5 ≤ frame.length && frame.length ≤ 69 && (frame.getD 2 0).toNat + 5 == frame.length
  -- the kind code splits the SHIFT frame into the rows SHIFT, CANCEL and CLEAR_ALL
  | .shift _ _ kind _ _ _ => kind != 2#8 && kind != 3#8
  -- plan code 14 is the row REMOVE_OVERRIDE
  | .dayplan _ _ code => code != 14#8
  -- the action code splits TEST into INVERT_NEXT_REPLY, LOCK_SUPERVISION and UNLOCK
  | .invertNextReply _ _ action _ => action != 2#8 && action != 3#8
  | _ => true

end Sys2Proof
end

