-- ==== Sys2Proof/Certificates/Slice0/Obligations.lean ====
section
/-! DEFINITION. The statements about the 7216: what each command does, what every step keeps, and what the
formats and the shared operations of the part give. `endOfStep` is what a step ends with when no zone changed
its owner (TRUNK-SELECT, the arbiter, the selection of a frame); `State.keepsAllBut` is the frame. -/

open Sys2Proof Sys2Proof.Machine

/-! ## The step -/

/-- A step takes the command at the front of the queue and runs exec on it with the queue's rest. -/
def Obligations.StepRunsTheFrontCommand : Prop :=
  ∀ (c : Instr) (rest : List Instr) (s : State),
    step { s with pending := c :: rest } = exec c { s with pending := rest }

/-- On an empty queue one millisecond passes: school time counts up to the top of its range (R1), the station
timer counts unless RST holds the part (R2, R206), and nothing else changes but the queue, which takes the
commands that fall due at the new moment, none while RST holds the part. That a step on an empty queue is the clock,
and that what falls due at a moment waits in the queue, are the model's choice (notes/assumptions/6.md). -/
def Obligations.EmptyQueuePassesOneMillisecond : Prop :=
  ∀ s : State, s.pending = [] → s.powered = true →
    ∃ t : State, step s = .next t ∧
      t.tb = { s.tb with
        fullTime := s.tb.fullTime.map fun x => min (x + 1) 5662310399999
        timer := if s.rst then s.tb.timer else s.tb.timer + 1 } ∧
      t.pending = t.dueCommands ∧ (s.rst = true → t.pending = []) ∧ s.keepsAllBut [.tb, .pending] t

/-- Every command completes, in every state, and leaves the queue of waiting commands to the step. -/
def Obligations.EveryCommandCompletesAndLeavesTheQueue : Prop :=
  ∀ (c : Instr) (s : State), ∃ t : State, exec c s = .next t ∧ t.pending = s.pending

/-- What every step ends with when no zone changed owner (R27, R31, R83, R117): only the YLC's selection, the
drive lines and the slots and zones they report to may change; no frame joins or leaves the queue and no count
moves; with a frame in the queue one is selected, and where none was, it is of the highest class present and of
the earliest age in it; a line keeps its kind and class, and changes its state only from WAITING to ENERGIZED;
the energized count does not pass the budget by it. -/
def Obligations.EndOfStepGrantsAndSelects : Prop :=
  ∀ s : State,
    let t := endOfStep s
    s.keepsAllBut [.ylc, .dsq, .du, .za] t ∧
    t.za.trunkSelect = s.anyPaged ∧
    t.ylc.queue.map QueuedFrame.frame = s.ylc.queue.map QueuedFrame.frame ∧
    t.ylc.counts = s.ylc.counts ∧ t.ylc.heldAsks = s.ylc.heldAsks ∧
    (s.ylc.queue ≠ [] → (selectedIndex t.ylc.queue).isSome = true) ∧
    (selectedIndex s.ylc.queue = none → ∀ i h, selectedIndex t.ylc.queue = some i →
      s.ylc.queue[i]? = some h → ∀ x ∈ s.ylc.queue,
        h.frame.classRank < x.frame.classRank ∨ h.frame.classRank = x.frame.classRank ∧ h.age ≤ x.age) ∧
    (∀ l : LineId, (t.line l).kind = (s.line l).kind ∧ (t.line l).cls = (s.line l).cls ∧
      ((t.line l).state = (s.line l).state ∨
        (s.line l).state = .waiting ∧ (t.line l).state = .energized)) ∧
    t.energizedCount ≤ max s.energizedCount s.dsq.budget ∧
    (∀ i : SlotId, (t.slot i).dial = (s.slot i).dial ∧ (t.slot i).state = (s.slot i).state ∧
      (t.slot i).polarity = (s.slot i).polarity) ∧
    ∀ z : ZoneId, (t.zone z).owner = (s.zone z).owner ∧ (t.zone z).stack = (s.zone z).stack ∧
      (t.zone z).deferred = (s.zone z).deferred

/-! ## What every step keeps -/

/-- R1, R3: school time stays in its range, standing is UNSET exactly while school time is UNSET, and the
part never takes REFERENCE. -/
def Obligations.StepKeepsSchoolTimeAndStanding : Prop :=
  ∀ s t : State, s.tb.lawful = true → step s = .next t → t.tb.lawful = true

/-- R27, R45: the transmit queue holds at most 8 frames, of which at most one is a BEACON, and the six link
counts stay 16-bit counts. -/
def Obligations.StepKeepsTransmitQueueBounds : Prop :=
  ∀ s t : State, s.ylc.lawful = true → step s = .next t → t.ylc.lawful = true

/-- R144, R154: the claim list holds at most four claims, never two from the same claimant, and MIC-LIVE is on
only while the own claim record is LIVE. -/
def Obligations.StepKeepsFloorLaws : Prop :=
  ∀ s t : State, s.fu.lawful = true → step s = .next t → t.fu.lawful = true

/-- R176: a drill record's reported set is always a subset of its expected set. -/
def Obligations.StepKeepsReportsWithinExpected : Prop :=
  ∀ s t : State, (∀ r, s.dru.record = some r → r.lawful = true) → step s = .next t →
    ∀ r, t.dru.record = some r → r.lawful = true

/-- R117: TRUNK-SELECT is on exactly while at least one zone's current level is a page level. R103: a zone's hold
stack holds at most three entries, floors and drills alone, whose levels rise strictly from bottom to top and are
all lower than the zone's current level. -/
def Obligations.StepKeepsTrunkSelect : Prop :=
  (∀ s t : State, s.trunkLawful = true → step s = .next t → t.trunkLawful = true) ∧
  ∀ s t : State, s.stacksLawful = true → step s = .next t → t.stacksLawful = true

/-- R83: the number of ENERGIZED lines of kinds BELL, SOUNDER and CLOCK never exceeds the drive budget. The
premise `State.wired` is the invariant that zones name only PAGE lines as page lines and the chime player
holds only CHIME lines. R81: a request of a dial slot stands at the line bound to that slot, so that no two lines
hold a request of one slot. -/
def Obligations.StepKeepsDriveBudget : Prop :=
  (∀ s t : State, s.wired = true → s.budgetLawful = true → step s = .next t →
    t.wired = true ∧ t.budgetLawful = true) ∧
  ∀ s t : State, s.requestsBound = true → step s = .next t → t.requestsBound = true

/-- The state after a power-on reset meets every law that these statements say each step keeps. -/
def Obligations.ResetMeetsTheLaws : Prop :=
  State.reset.tb.lawful = true ∧ State.reset.ylc.lawful = true ∧ State.reset.fu.lawful = true ∧
  (∀ r, State.reset.dru.record = some r → r.lawful = true) ∧
  State.reset.trunkLawful = true ∧ State.reset.stacksLawful = true ∧ State.reset.wired = true ∧
  State.reset.budgetLawful = true ∧ State.reset.requestsBound = true ∧ State.reset.Driven

/-! ## Frames on the wire -/

/-- The command that a good frame is, read back from the frame's characters, is that command, for every kind
of frame and every value its fields can hold. -/
def Obligations.FrameOfCommandReadsBack : Prop :=
  ∀ (c : Instr) (frame : List Byte), c.wf = true → frameOfCommand c = some frame →
    commandOfFrame frame = some c

/-- R25, R38, R44: the CRC formed over a run of bytes and its own CRC bytes is 0; a receiver takes the
characters after the delimiter of a frame sent uninverted as good, when its kind is known, its length agrees
and its sender is not the receiver's own number; a frame sent inverted it counts as a CRC error. -/
def Obligations.InvertedFrameFailsTheCrc : Prop :=
  (∀ bs : List Byte, crc16 (bs ++ halfBytes (crc16 bs)) = 0#16) ∧
  ∀ (own : Option Station) (kind sender : Byte) (body : List Byte), body.length ≤ 64 →
    frameVerdict own ((frameChars kind sender body true).drop 3) = .crcError ∧
    (kindKnown kind = true → lengthAgrees kind body = true →
      (∀ n, own = some n → stationOfByte sender ≠ some n) →
      frameVerdict own ((frameChars kind sender body false).drop 3) = .good)

/-! ## Start-up and supply -/

/-- POWER_ON (R190, R195, R206). With no valid snapshot in the store: every block at its power-on values, every
dial UNSET, the pages as they were, the write position on page 0 after its last programmed slot (a full page
starts the erase of 60 ms), cause POWER-ON, and LOADING begun with the station number of the straps. With a
valid one the Dial Unit takes the dial positions and polarities of the latest, and the store takes its sequence,
its time and its page. The latest is a valid slot of its page, absent only where no slot is valid; where the valid
sequences lie within 32,767 of one another it is newer than every other valid one by R190's order, or of equal
sequence and later in the walk. -/
def Obligations.PowerOnRecoversTheDials : Prop :=
  ∀ (straps : BitVec 5) (n : Station) (s : State), s.powered = false → s.rst = false →
    s.ds.activity = .idle → stationOfStraps straps = some n →
    (s.ds.latest = none →
      exec (.powerOn straps false) s = .next
        { State.reset with
          rst := false
          ylc := YardLine.afterReset 0 s.ylc.sendIndex
          fu := FloorUnit.afterReset 0 s.fu.inputs
          ds := { DialStore.blank with
            pages := s.ds.pages
            next := nextFree s.ds.pages[(0 : Fin 2)]
            cutIndex := s.ds.cutIndex
            activity := if 32 ≤ nextFree s.ds.pages[(0 : Fin 2)] then .erasing 60 else .idle }
          sp := { SettingsPort.afterReset .powerOn none with number := some n, csc := true }
          pending := s.pending }) ∧
    (∀ (page : Fin 2) (p : Snapshot), s.ds.latest = some (page, p) →
      ∃ t : State, exec (.powerOn straps false) s = .next t ∧
        (∀ i : SlotId, (t.slot i).dial = p.dials[i].dial ∧ (t.slot i).polarity = p.dials[i].polarity ∧
          (t.slot i).line = none) ∧
        t.ds.lastSequence = some p.sequence ∧ t.ds.lastTime = some p.time ∧ t.ds.page = page ∧
        t.ds.next = nextFree s.ds.pages[page] ∧ t.ds.pages = s.ds.pages ∧
        t.sp.config = .loading ∧ t.sp.cause = .powerOn ∧ t.sp.number = some n ∧ t.sp.imageCrc = none ∧
        t.tb = TimeBase.powerOn ∧ t.fu.counter = 0 ∧ t.dru.counter = 0) ∧
    (∀ (page : Fin 2) (p : Snapshot), s.ds.latest = some (page, p) →
      ∃ i : Fin 32, (s.ds.pages[page])[i].valid? = some p ∧
        ∀ base : Nat, base < 65536 →
          (∀ (g : Fin 2) (j : Fin 32) (q : Snapshot), (s.ds.pages[g])[j].valid? = some q →
            q.sequence < 65536 ∧ (q.sequence + 65536 - base) % 65536 ≤ 32767) →
          ∀ (g : Fin 2) (j : Fin 32) (q : Snapshot), (s.ds.pages[g])[j].valid? = some q →
            (p.sequence + 65536 - q.sequence) % 65536 ≤ 32767 ∧
            (q.sequence = p.sequence → g < page ∨ g = page ∧ j ≤ i)) ∧
    (s.ds.latest = none ↔ ∀ (page : Fin 2) (i : Fin 32), (s.ds.pages[page])[i].valid? = none)

/-- RST_ASSERT on a part with supply that is not held yet, and CLEAR_TIMER_EXPIRY at its time in HOLD-UP (R3,
R22, R77, R194, R195, R206): a warm reset with cause RESET-INPUT, held until the release, or POWER-DIP, with
LOADING begun. School time counts on and stands FREE; the station timer stands at 0; the dial positions, the
bell day, the claim and drill counters, the pages and the held image CRC outlive it; a pending snapshot is given
up; no page key is armed (R142), and the back-off generator is seeded with the station timer as it stood (R32);
all else is at its reset value. -/
def Obligations.WarmResetKeepsTimeAndDials : Prop :=
  ∀ (straps : BitVec 5) (n : Station) (s : State), s.up = true →
    let ds : DialStore :=
      { s.ds.cutOperation with pendingSnapshot := false, supply := .run, clearTimer := none }
    let after (rst : Bool) (ds : DialStore) (sp : SettingsPort) : State :=
      { powered := true
        rst
        tb := { TimeBase.powerOn with
          fullTime := s.tb.fullTime
          standing := if s.tb.fullTime.isSome then .free else .unset }
        ylc := YardLine.afterReset s.tb.timer s.ylc.sendIndex
        pt := peersAfterReset
        du := { DialUnit.powerOn with
          slots := s.du.slots.map fun d =>
            DialSlot.unbound (d.pendingSet.orElse fun _ => d.dial) d.polarity }
        dsq := Sequencer.afterReset
        za := ZoneArbiter.afterReset
        bs := s.bs
        fu := { FloorUnit.afterReset s.fu.counter s.fu.inputs with
          inputs := s.fu.inputs.map fun k => { armed := false, held := k.held, refusalEnd := none } }
        dru := DrillUnit.afterReset s.dru.counter
        ds
        sp
        pending := s.pending }
    exec .rstAssert s = .next (after true ds (SettingsPort.afterReset .resetInput s.sp.imageCrc)) ∧
    (s.ds.supply = .holdUp → reached s.ds.clearTimer s.now = true → s.ds.warning = false →
      stationOfStraps straps = some n →
      exec (.clearTimerExpiry straps) s = .next (after false
        { ds with activity := if 32 ≤ ds.next then .erasing 60 else .idle }
        { SettingsPort.afterReset .powerDip s.sp.imageCrc with number := some n, csc := true }))

/-- RST_RELEASE with no warning standing: the straps are read; 1 to 30 gives the station number, turns CSC on for
the read of the image and shifts the read command 03 and the address 0000 out on SDO, 0 and 31 are a strap fault
with fault code 1, in which no BEACON is timed; a full page starts its erase (R187, R196, R197, R198, R203). -/
def Obligations.RstReleaseStartsLoading : Prop :=
  ∀ (straps : BitVec 5) (s : State), s.powered = true → s.rst = true → s.ds.warning = false →
    (∀ n, stationOfStraps straps = some n →
      ∃ t, exec (.rstRelease straps) s = .next t ∧
        t.settingsOut = [0x03#8, 0x00#8, 0x00#8] ∧
        t = { s with
          rst := false
          ds := { s.ds with
            activity := if s.ds.activity = .idle ∧ 32 ≤ s.ds.next then .erasing (s.now + 60)
              else s.ds.activity }
          sp := { s.sp with number := some n, csc := true } }) ∧
    (straps = 0#5 ∨ straps = 31#5 → s.sp.number = none →
      ∃ t, exec (.rstRelease straps) s = .next t ∧ t.sp.config = .configFault ∧
        t.sp.faultCode = some .strapFault ∧ t.sp.number = none ∧ t.tb.fullTime = none ∧
        t.tb.standing = .unset ∧ t.tb.beaconDue = none ∧ t.sp.imageCrc = none)

/-- CONFIG_IMAGE_READ. An image that passes every check (R199 to R201, R204, R205): LISTENING for B, the CRC
held, the first eight warnings kept and their total held at 255, every block with its settings (the TB's, the DU's,
the DSQ's with its scan order, exclusion mask and patterns (R80, R86), the zones' lines (R101), the BS's, the FU's and
the DRU's), every line OFF with its kind; each dial slot bound to its clock line with its modulus, the position it held
reduced to the modulus and its polarity kept, a slot with no line UNSET and NEG (R58); a contact that counts as
asserted begins the yield here, with YIELD at every zone (R181, R182), and else every zone is IDLE; no snapshot or peer
entry touched; over an unset school time the Bell Scheduler keeps its
plan day, lists, marks and count when the held CRC equals the new one, and clears them otherwise. An image that
fails a check (R199, R203, R21, R5): CONFIG-FAULT with fault code 2, nothing applied, no CRC held, school time
UNSET, the station not yielding (R184), and the beacon timer started with B at its default of 10 s. -/
def Obligations.ImageReadEntersListeningOrFault : Prop :=
  ∀ (memory : List Byte) (n : Station) (s : State), s.up = true → s.reading = true →
    s.sp.number = some n →
    (∀ i, checkImage memory = some i →
      let x := (settingsOf i.sections).1
      let warnings := (settingsOf i.sections).2
      ∃ t, exec (.configImageRead memory) s = .next t ∧
        t.sp = { s.sp with
          config := .listening
          image := some i.bytes
          imageCrc := some i.crc
          warnings := warnings.take 8
          warningTotal := min 255 warnings.length
          csc := false
          listeningEnd := some (s.now + x.beaconInterval * 1000)
          displayDue := some (s.now + 1000) } ∧
        t.tb = { s.tb with
          beaconInterval := x.beaconInterval
          stepThreshold := x.stepThreshold
          slewLimit := x.slewLimit } ∧
        t.du.width = x.width ∧ t.du.spacing = x.spacing ∧ t.du.holdWindow = x.holdWindow ∧
        t.dsq.budget = x.budget ∧ t.dsq.stagger = x.stagger ∧ t.dsq.nextSlot = some s.now ∧
        t.dsq.scanOrder = x.scanOrder ∧ t.dsq.exclusion = x.exclusion ∧
        t.dsq.bellPatterns = x.bellPatterns ∧ t.dsq.sounderPattern = x.sounderPattern ∧
        t.dsq.chimePattern = x.chimePattern ∧
        (∀ l : LineId, (t.line l).kind = x.kinds[l] ∧ (t.line l).state = .off) ∧
        (∀ z : ZoneId, (t.zone z).bellLine = x.zones[z].bellLine ∧
          (t.zone z).pageLine = x.zones[z].pageLine ∧ (t.zone z).sounderLine = x.zones[z].sounderLine ∧
          (t.zone z).owner = if t.dru.yielding then some .yield else none) ∧
        (∀ (i : SlotId) (l : LineId) (m : Nat), x.clocks[i.val]? = some (l, m) →
          (t.slot i).line = some l ∧ (t.slot i).modulus = m ∧
          (t.slot i).dial = (s.slot i).dial.map (· % m) ∧ (t.slot i).polarity = (s.slot i).polarity) ∧
        (∀ i : SlotId, x.clocks[i.val]? = none →
          (t.slot i).line = none ∧ (t.slot i).dial = none ∧ (t.slot i).polarity = .neg) ∧
        t.bs.entries = x.entries ∧ t.bs.plans = x.plans ∧ t.bs.weekday = x.weekday ∧
        t.bs.lateLimit = x.lateLimit ∧
        t.fu.keys = x.keys ∧ t.fu.readyWait = x.readyWait ∧
        t.dru.evacuationLimit = x.evacuationLimit ∧ t.dru.soundLimit = x.soundLimit ∧
        t.dru.schoolWide = x.schoolWide ∧ t.dru.contact = s.dru.contact ∧
        t.dru.yielding = (s.dru.contact || t.dru.peerCause) ∧
        (s.school = none → s.sp.imageCrc = some i.crc →
          t.bs.planDay = s.bs.planDay ∧ t.bs.activePlan = s.bs.activePlan ∧
          t.bs.overrides = s.bs.overrides ∧ t.bs.shifts = s.bs.shifts ∧ t.bs.marks = s.bs.marks ∧
          t.bs.taken = s.bs.taken ∧ t.bs.missed = s.bs.missed) ∧
        (s.school = none → s.sp.imageCrc ≠ some i.crc →
          t.bs.planDay = none ∧ t.bs.activePlan = none ∧ t.bs.overrides = [] ∧ t.bs.shifts = [] ∧
          t.bs.marks = [] ∧ t.bs.taken = [] ∧ t.bs.missed = 0) ∧
        s.keepsAllBut [.tb, .sp, .ylc, .du, .dsq, .za, .bs, .fu, .dru] t) ∧
    (checkImage memory = none →
      exec (.configImageRead memory) s = .next (endOfStep
        { s with
          sp := { s.sp with
            config := .configFault
            faultCode := some .configFault
            image := none
            imageCrc := none
            warnings := []
            warningTotal := 0
            csc := false
            displayDue := some (s.now + 1000) }
          tb := { TimeBase.powerOn with
            timer := s.tb.timer
            beaconDue := some (s.now + 10000 * stationNumber n / 32) }
          bs := BellScheduler.powerOn
          dru := { s.dru with yielding := false } }))

/-- LISTENING_END at its time (R204, R5): RUNNING, with the first BEACON due (B × n) / 32 after the entry,
truncated; the peer table, the drills and the store stand as they were. A zone at DRILL whose drill is SOUNDING has
its sounder on and its player asking for the first on-phase, where its sounder line is OFF and named by no other
zone or slot (R113, R118). An entry due by now is examined: TAKEN within the late limit, PASSED beyond it (R131,
R137). A contact that counts as asserted queues YIELD(1) (R181). -/
def Obligations.ListeningEndsInRunning : Prop :=
  ∀ (n : Station) (s : State), s.up = true → s.listening = true → reached s.sp.listeningEnd s.now = true →
    s.own = some n →
    ∃ t, exec .listeningEnd s = .next t ∧ t.sp = { s.sp with config := .running, listeningEnd := none } ∧
      t.tb = { s.tb with
        beaconDue := some (s.now + s.tb.beaconInterval * 1000 * stationNumber n / 32) } ∧
      (∀ (z : ZoneId) (l : LineId) (r : DrillRecord), s.dru.record = some r → r.phase = .sounding →
        (s.zone z).owner = some (.drill r.initiator r.number) → (s.zone z).sounderLine = some l →
        (s.line l).state = .off → (∀ i : SlotId, (s.slot i).line ≠ some l) →
        (∀ y : ZoneId, (s.zone y).bellLine ≠ some l ∧ (s.zone y).pageLine ≠ some l ∧
          (y ≠ z → (s.zone y).sounderLine ≠ some l)) →
        (t.zone z).owner = (s.zone z).owner ∧ (t.zone z).sounderOn = true ∧
        (t.line l).player.pattern = none ∧ (t.line l).player.phase = 0 ∧
        ((t.line l).state = .waiting ∧ (t.line l).player.state = .onWait ∨
          (t.line l).state = .energized ∧ (t.line l).player.state = .on)) ∧
      (∀ (day i x : Nat) (due : Int), s.bs.planDay = some day → s.bs.next = some (i, due) →
        s.school = some x → due ≤ (x : Int) →
        ((x : Int) - due ≤ s.bs.lateLimit * 1000 →
          t.bs.markAt i = .taken ∧ s.bs.window.base + i ∈ t.bs.taken) ∧
        ((s.bs.lateLimit : Int) * 1000 < (x : Int) - due → t.bs.markAt i = .passed)) ∧
      (s.dru.contact = true → s.ylc.queue.length < 8 → t.queued (.yield 1#8)) ∧
      s.keepsAllBut [.sp, .tb, .ylc, .du, .dsq, .za, .bs, .fu] t

/-- SUPPLY_WARNING in RUN (R193 and the rules its table names): supply state HOLD-UP; every drive line off
with no request, the players and supervision stopped; every zone IDLE with an empty stack and no deferred
bell, TRUNK-SELECT off; the transmit queue empty, YL-EN off; the beacon timer stopped while school time
stands; the floor given up; no impulse left; a snapshot of the values of now begun in an idle store with a slot left (a slot
with no bound line UNSET, but in CONFIG-FAULT as it stands, R76), and otherwise asked for (R189). -/
def Obligations.SupplyWarningEntersHoldUp : Prop :=
  ∀ s : State, s.up = true → s.ds.supply = .run →
    ∃ t, exec .supplyWarning s = .next t ∧ t.ds.supply = .holdUp ∧ t.ds.warning = true ∧
      t.ds.clearTimer = none ∧
      (s.ds.activity = .idle ∧ s.ds.next < 32 ∧ s.ds.pendingSnapshot = false →
        ∃ p, t.ds.activity = .writing p (s.now + 5) ∧ p.sequence = s.ds.nextSequence ∧
          p.time = s.school.map (fun x => (x / 86400000, x % 86400000 / 60000)) ∧
          ∀ i : SlotId, p.dials[i] =
            { dial := if (s.slot i).line ≠ none ∨ s.sp.config = .configFault then (s.slot i).dial else none
              polarity := (s.slot i).polarity }) ∧
      (¬(s.ds.activity = .idle ∧ s.ds.next < 32 ∧ s.ds.pendingSnapshot = false) →
        t.ds.activity = s.ds.activity ∧ t.ds.pendingSnapshot = true) ∧
      (∀ l : LineId, (t.line l).state ≠ .energized ∧ (t.line l).state ≠ .waiting ∧
        (t.line l).request = none ∧ (t.line l).player.state = .idle) ∧
      t.dsq.chime = .idle ∧ t.dsq.nextSlot = none ∧
      (∀ z : ZoneId, (t.zone z).owner = none ∧ (t.zone z).stack = [] ∧ (t.zone z).deferred = none ∧
        (t.zone z).cutBell = none ∧ (t.zone z).sounderOn = false ∧ (t.zone z).pageOn = false) ∧
      t.za.trunkSelect = false ∧ t.ylc.queue = [] ∧ t.ylc.attempt = .none ∧ t.ylc.heldAsks = [] ∧
      t.tb = { s.tb with beaconDue := none, heldBeacon := false } ∧
      t.fu.own = none ∧ t.fu.micLive = false ∧ t.fu.view = none ∧ t.fu.claims = [] ∧
      t.fu.counter = s.fu.counter ∧
      (∀ i : SlotId, (s.slot i).line ≠ none → (t.slot i).impulse = .none ∧
        (t.slot i).polarity = (s.slot i).polarity) ∧
      t.sp.config = s.sp.config ∧ s.keepsAllBut [.ds, .dsq, .za, .ylc, .tb, .fu, .du, .bs, .sp] t

/-- R192. In HOLD-UP, WARNING_CLEARS starts the clear timer of 100 ms and WARNING_REASSERTS stops it with no new
snapshot. SUPPLY_COLLAPSE in any state (R191, R195): the part has no supply, and the pages outlive it, a write
under way leaving its slot programmed and not valid. What stands for the volatile state meanwhile is the model's
(notes/assumptions/25.md): the next POWER_ON resets it. -/
def Obligations.SupplyEventsActOnTheStore : Prop :=
  ∀ s : State,
    (s.up = true → s.ds.supply = .holdUp →
      (s.ds.warning = true → exec .warningClears s = .next
        { s with ds := { s.ds with warning := false, clearTimer := some (s.now + 100) } }) ∧
      exec .warningReasserts s = .next
        { s with ds := { s.ds with warning := true, clearTimer := none } }) ∧
    (s.powered = true → ∃ t, exec .supplyCollapse s = .next t ∧ t.powered = false ∧ t.rst = s.rst ∧
      t.pending = s.pending ∧
      (s.ds.activity = .idle → t.ds.pages = s.ds.pages) ∧
      (∀ (p : Snapshot) (ends : Nat) (_ : s.ds.next < 32), s.ds.activity = .writing p ends →
        (t.ds.pages[s.ds.page])[s.ds.next].valid? = none ∧
        (t.ds.pages[s.ds.page])[s.ds.next].isProgrammed = true ∧
        ∀ (g : Fin 2) (i : Fin 32), (g, i.val) ≠ (s.ds.page, s.ds.next) →
          (t.ds.pages[g])[i] = (s.ds.pages[g])[i]) ∧
      t.tb.fullTime = none ∧ t.sp.imageCrc = none)

/-- DISPLAY_WORD at its time (R207, R179): one word is shifted, CSD off after it, and the next is due 1,000 ms on. In CONFIG-FAULT
it carries the fault code; while the station yields, mode 2 with the time; in a running drill, mode 1 with the
overdue flag from bit 21, the unit at bit 20 and the count from bit 13, the value rounded up in units of 5 s to
595 s and of minutes to 127 beyond; otherwise mode 0 with the time: hours from bit 17, minutes from bit 11,
hours 31 while school time is UNSET. -/
def Obligations.DisplayWordShowsTheStation : Prop :=
  ∀ (s : State) (time : BitVec 24), s.up = true → s.displays = true → reached s.sp.displayDue s.now = true →
    time = (match s.school with
      | none => BitVec.ofNat 24 (31 * 2 ^ 17)
      | some t => BitVec.ofNat 24
          (t % 86400000 / 3600000 * 2 ^ 17 + t % 86400000 / 60000 % 60 * 2 ^ 11)) →
    ∃ w, exec .displayWord s = .next
        { s with
          sp := { s.sp with csd := false, displayWord := some w, displayDue := some (s.now + 1000) } } ∧
      (s.sp.config = .configFault → s.sp.faultCode = some .strapFault → w = 0xC00001#24) ∧
      (s.sp.config = .configFault → s.sp.faultCode = some .configFault → w = 0xC00002#24) ∧
      (s.sp.config ≠ .configFault → s.dru.yielding = true → w = 0x800000#24 ||| time) ∧
      (s.sp.config ≠ .configFault → s.dru.yielding = false → s.drillRunning = false → w = time) ∧
      ∀ r, s.sp.config ≠ .configFault → s.dru.yielding = false → s.dru.record = some r →
        r.phase.running = true →
        let e := r.elapsed s.school
        let v := if e ≤ r.evacuationLimit then r.evacuationLimit - e else e - r.evacuationLimit
        w = 0x400000#24 ||| BitVec.ofNat 24
          ((if r.evacuationLimit < e then 2 ^ 21 else 0) + (if 595 < v then 2 ^ 20 else 0) +
            (if 595 < v then min 127 ((v + 59) / 60) else (v + 4) / 5) * 2 ^ 13)

/-- R179: the remaining time of a record, running or not: the value, the overdue flag, and the unit and count
that round it up. -/
def Obligations.RemainingTimeOfADrill : Prop :=
  ∀ (r : DrillRecord) (school : Option Nat) (e : Nat),
    (r.phase.running = true → e = r.elapsed school) → (r.phase.running = false → r.finalElapsed = some e) →
    ((r.remaining school).overdue = true ↔ r.evacuationLimit < e) ∧
    ∃ v : Nat, v = (if e ≤ r.evacuationLimit then r.evacuationLimit - e else e - r.evacuationLimit) ∧
      (v ≤ 595 → (r.remaining school).minutes = false ∧ v ≤ 5 * (r.remaining school).count ∧
        5 * (r.remaining school).count < v + 5) ∧
      (595 < v → (r.remaining school).minutes = true ∧
        ∃ m, v ≤ 60 * m ∧ 60 * m < v + 60 ∧ (r.remaining school).count = min 127 m)

/-! ## The Time Base -/

/-- BEACON_TIMER_EXPIRY (R5, R28), at its time: the timer restarts with period B; with no BEACON queued, room
in the queue and BEACON taken in the state, one joins with this moment as its age; a BEACON that waits
unselected answers the request; with an attempt of it in progress the request is held. -/
def Obligations.BeaconTimerAsksForABeacon : Prop :=
  ∀ s : State, s.up = true → reached s.tb.beaconDue s.now = true →
    (s.queuedBeacon = none → s.takesFrame .beacon = true → s.ylc.queue.length < 8 →
      exec .beaconTimerExpiry s = .next (endOfStep
        { s with
          tb := { s.tb with beaconDue := some (s.now + s.tb.beaconInterval * 1000) }
          ylc := { s.ylc with
            queue := s.ylc.queue ++
              [{ frame := .beacon, age := s.now, attempts := 0, selected := false, inverted := false }] } })) ∧
    (∀ q, s.queuedBeacon = some q → q.selected = false →
      exec .beaconTimerExpiry s = .next (endOfStep
        { s with tb := { s.tb with beaconDue := some (s.now + s.tb.beaconInterval * 1000) } })) ∧
    (∀ q, s.queuedBeacon = some q → q.selected = true →
      exec .beaconTimerExpiry s = .next (endOfStep
        { s with
          tb := { s.tb with
            beaconDue := some (s.now + s.tb.beaconInterval * 1000)
            heldBeacon := true } }))

/-- SCHOOL_TIME_BOUNDARY at full time `x` (R17, R61 to R63, R188): every bound clock record is recomputed: with a
dial and no fault its dial difference is (P − D) mod M, P the minute of day mod M, and its state follows the
rows of R62; without a dial it is STOPPED, on a faulted line FAULTED, with no dial difference; the dial and the
polarity stand. A whole hour asks for a snapshot when a slot is bound and the hour is not already recorded, and
no other boundary touches the store. A day change to a day later than the plan day, while the station is loaded,
starts a new plan day (R134): earlier overrides and every shift gone, the plan and its source the day's, every usable
entry of it OPEN that is not at 00:00:00; in LISTENING, where none is examined, all of them, with no entry taken and
no bell missed. Any other boundary leaves the scheduler in LISTENING as it was. -/
def Obligations.MinuteBoundaryRecomputesTheDials : Prop :=
  ∀ (x : Nat) (s : State), s.up = true → s.school = some x → 0 < x → x % 60000 = 0 →
    ∃ t, exec .schoolTimeBoundary s = .next t ∧
      (∀ (i : SlotId) (l : LineId), (s.slot i).line = some l →
        let M := (s.slot i).modulus
        let H := s.du.holdWindow
        (t.slot i).dial = (s.slot i).dial ∧ (t.slot i).polarity = (s.slot i).polarity ∧
        ((s.slot i).dial = none → (t.slot i).state = .stopped ∧ (t.slot i).difference = none) ∧
        ∀ d, (s.slot i).dial = some d → 0 < M →
          ((s.line l).cls.faulted = true → (t.slot i).state = .faulted ∧ (t.slot i).difference = none) ∧
          ((s.line l).cls.faulted = false → ∃ e, (t.slot i).difference = some e ∧ e < M ∧
            (e + d) % M = x % 86400000 / 60000 % M ∧
            (e ≤ 1 → (t.slot i).state = .inStep) ∧ (2 ≤ e → M ≤ e + H → (t.slot i).state = .holding) ∧
            (2 ≤ e → e + H < M → (t.slot i).state = .advancing))) ∧
      (x % 3600000 ≠ 0 → t.ds = s.ds) ∧
      (x % 3600000 = 0 → s.anySlotBound = true → s.alreadyRecorded (dayOf x) (minuteOfDay x) = false →
        t.ds.pendingSnapshot = true ∨ ∃ p, t.ds.activity = .writing p (s.now + 5) ∧
          p.time = some (dayOf x, minuteOfDay x) ∧ p.sequence = s.ds.nextSequence) ∧
      (∀ d, s.bs.planDay = some d → s.loaded = true →
        let day := x / 86400000
        let plan : PlanCode × PlanSource :=
          match s.bs.overrides.find? (fun o => o.1 == day) with
          | some o => (o.2, .override)
          | none => (s.bs.weekday[(⟨day % 7, Nat.mod_lt _ (by decide)⟩ : Fin 7)], .weekdayMap)
        let w := s.bs.windowOf plan.1
        (x % 86400000 = 0 → d < day →
          t.bs.planDay = some day ∧ t.bs.activePlan = some plan.1 ∧ t.bs.source = plan.2 ∧
          t.bs.overrides = s.bs.overrides.filter (fun o => decide (day ≤ o.1)) ∧ t.bs.shifts = [] ∧
          t.bs.marks.length = w.count ∧
          (∀ i, i < w.count → (s.bs.freshMarks w).getD i .unusable = .opened →
            0 < (s.bs.entryAt (w.base + i)).timeOfDay → t.bs.markAt i = .opened) ∧
          (s.listening = true → t.bs.marks = s.bs.freshMarks w ∧ t.bs.taken = [] ∧ t.bs.missed = 0)) ∧
        (x % 86400000 ≠ 0 ∨ day ≤ d → s.listening = true → t.bs = s.bs)) ∧
      s.keepsAllBut [.ylc, .du, .dsq, .za, .bs, .ds] t

/-- TRANSMIT_COMPLETE of an own BEACON with school time set (R14 to R16): no peer sample fresh: no change, and
standing FREE. Otherwise standing is AGREED, and with the correction c school time stands when |c| is at most 1,
moves by c when |c| reaches the step threshold, and by c cut to the slew limit between, within the range of
R1; every fresh sample is decreased by the amount applied, saturated, its standing and station-timer value kept,
and no other sample changes. -/
def Obligations.RoundAppliesASlewOrAStep : Prop :=
  ∀ (s : State) (x i : Nat) (q : QueuedFrame), s.up = true → s.transmitting = true → s.school = some x →
    x ≤ 5662310399999 → s.tb.heldBeacon = false → selectedIndex s.ylc.queue = some i →
    s.ylc.queue[i]? = some q → q.frame = .beacon →
    ∃ t, exec .transmitComplete s = .next t ∧
      let e := eligibleSet s.freshSamples
      let c := correctionOf (if e.2 then e.1 ++ [0] else e.1)
      (e.1 = [] → t.tb = { s.tb with standing := .free } ∧ t.pt = s.pt) ∧
      (e.1 ≠ [] → ∃ a : Int, t.tb.standing = .agreed ∧ t.tb.fullTime = some ((x : Int) + a).toNat ∧
        0 ≤ (x : Int) + a ∧
        (c.natAbs ≤ 1 → a = 0) ∧
        (2 ≤ c.natAbs → s.tb.stepThreshold ≤ c.natAbs →
          a = max 0 (min 5662310399999 ((x : Int) + c)) - x) ∧
        (2 ≤ c.natAbs → c.natAbs < s.tb.stepThreshold →
          a = max 0 (min 5662310399999
            ((x : Int) + max (-(s.tb.slewLimit : Int)) (min s.tb.slewLimit c))) - x) ∧
        ∀ n : Station,
          (∀ y, (s.peer n).sample = some y → (s.peer n).state = .present →
            s.now < y.takenAt + 3 * (s.tb.beaconInterval * 1000) → a ≠ 0 →
            t.peer n = { s.peer n with
              sample := some { y with offset := max (-2147483647) (min 2147483647 (y.offset - a)) } }) ∧
          ((a = 0 ∨ (s.peer n).sample = none ∨ (s.peer n).state ≠ .present ∨
              ∃ y, (s.peer n).sample = some y ∧
                y.takenAt + 3 * (s.tb.beaconInterval * 1000) ≤ s.now) → t.peer n = s.peer n))

/-- R14, the correction of a round over the n values of its set: with f = floor((n - 1) / 3) the values are sorted, the
f lowest and the f highest discarded, at least one left, and the correction is the sum of the lowest and the highest
left, halved toward zero; with values within 2,147,483,647 of 0 the sum is within twice that and the correction within
it; with at most f values outside a range, wrong by any amount and on either side, the lowest and the highest left, and
the correction, lie within the range. With the own value alone the correction is 0, and a round that holds no peer
sample makes none. -/
def Obligations.CorrectionToleratesFaultyPeers : Prop :=
  (∀ values : List Int, values ≠ [] →
    let n := values.length
    let f := (n - 1) / 3
    ∃ (sorted left : List Int) (lo hi : Int), sorted.Perm values ∧ sorted.Pairwise (· ≤ ·) ∧
      left = (sorted.drop f).take (n - 2 * f) ∧ left.length = n - 2 * f ∧ 1 ≤ left.length ∧
      left.head? = some lo ∧ left.getLast? = some hi ∧ (∀ v ∈ left, lo ≤ v ∧ v ≤ hi) ∧
      correctionOf values = (lo + hi).tdiv 2 ∧
      ((∀ v ∈ values, v.natAbs ≤ 2147483647) →
        (lo + hi).natAbs ≤ 4294967294 ∧ (correctionOf values).natAbs ≤ 2147483647) ∧
      ∀ low high : Int, (values.filter fun v => decide (v < low ∨ high < v)).length ≤ f →
        low ≤ lo ∧ hi ≤ high ∧ low ≤ correctionOf values ∧ correctionOf values ≤ high) ∧
  correctionOf [0] = 0 ∧
  ∀ (s : State) (x : Nat), s.school = some x → (eligibleSet s.freshSamples).1 = [] →
    (agreementRound s).school = some x ∧ (agreementRound s).pt = s.pt

/-! ## The yard line: sending -/

/-- TRANSMIT_COMPLETE (R33): YL-EN off, the frame out of the queue, the receiver in HUNT with its stamp dropped
(R37). Of the own CLAIM while CLAIMING with it (R147): it joins a claim list with room, its window end at this moment
plus the window, not objected; at a full list that it does not outrank the record is IDLE with a refusal and
RELEASE(WITHDRAWN) queued. Of a BEACON with a request held (R28), or a STATUS-REPLY with an ask held for it (R29): the
hold ends and a new frame joins. COLLISION (R34): before the eighth the frame stays at its place with one more attempt
made, and answers what is held for it; at the eighth it is removed, the give-up count rises, an own CLAIM under way
returns the record to IDLE with a refusal (R147), and what is held joins anew. -/
def Obligations.AttemptEndsSentOrCollided : Prop :=
  ∀ (s : State) (i : Nat) (q : QueuedFrame), s.up = true → s.transmitting = true →
    selectedIndex s.ylc.queue = some i → s.ylc.queue[i]? = some q →
    let ended (queue : List QueuedFrame) (counts : LinkCounts) : YardLine :=
      { s.ylc with queue, attempt := .none, receive := .hunt, stamp := none, counts }
    let gone := ended (s.ylc.queue.eraseIdx i) s.ylc.counts
    let asked (frame : OutFrame) : QueuedFrame :=
      { frame, age := s.now, attempts := 0, selected := false, inverted := false }
    (q.frame ≠ .beacon → (∀ b, q.frame ≠ .claim b) → (∀ a p, q.frame ≠ .statusReply a p) →
      exec .transmitComplete s = .next (endOfStep { s with ylc := gone })) ∧
    (∀ (b : ClaimBody) (o : OwnClaim) (n : Station), q.frame = .claim b → s.own = some n →
      s.fu.own = some o → o.phase = .claiming → o.number = b.number →
      (∀ e ∈ s.fu.claims, e.claimant ≠ n) → s.fu.claims.length < 4 →
      exec .transmitComplete s = .next (endOfStep
        { s with
          ylc := gone
          fu := { s.fu with
            claims := s.fu.claims ++
              [{ claimant := n, number := o.number, cls := o.cls, targets := o.targets,
                 holdLimit := o.holdLimit, windowEnd := s.now + o.window, objected := false }] } })) ∧
    (∀ (b : ClaimBody) (o : OwnClaim) (n : Station), q.frame = .claim b → s.own = some n →
      s.fu.own = some o → o.phase = .claiming → o.number = b.number → s.ylc.queue.length ≤ 8 →
      (∀ e ∈ s.fu.claims, e.claimant ≠ n) → 4 ≤ s.fu.claims.length → s.running = true →
      (∀ e ∈ s.fu.claims, outranks e.cls e.claimant o.cls n = true) →
      ∃ t, exec .transmitComplete s = .next t ∧ t.fu.own = none ∧ t.fu.claims = s.fu.claims ∧
        (t.key o.key).refusalEnd = some (s.now + 2000) ∧ t.queued (.release o.number 2#8)) ∧
    (∀ b, q.frame = .claim b → (∀ o, s.fu.own = some o → ¬(o.phase = .claiming ∧ o.number = b.number)) →
      exec .transmitComplete s = .next (endOfStep { s with ylc := gone })) ∧
    (∀ (a : Station) (p : Byte), q.frame = .statusReply a p →
      ((a, p) ∉ s.ylc.heldAsks → exec .transmitComplete s = .next (endOfStep { s with ylc := gone })) ∧
      ((a, p) ∈ s.ylc.heldAsks → s.takesFrame q.frame = true → s.ylc.queue.length ≤ 8 →
        (∀ x ∈ s.ylc.queue.eraseIdx i, x.frame ≠ q.frame) →
        exec .transmitComplete s = .next (endOfStep
          { s with
            ylc := { gone with
              heldAsks := s.ylc.heldAsks.erase (a, p)
              queue := s.ylc.queue.eraseIdx i ++ [asked q.frame] } }) ∧
        (q.attempts + 1 < 8 → exec .collision s = .next (endOfStep
          { s with
            ylc := { ended (s.ylc.queue.set i { q with attempts := q.attempts + 1, selected := false })
                s.ylc.counts with
              heldAsks := s.ylc.heldAsks.erase (a, p) } })) ∧
        (8 ≤ q.attempts + 1 → exec .collision s = .next (endOfStep
          { s with
            ylc := { gone with
              heldAsks := s.ylc.heldAsks.erase (a, p)
              queue := s.ylc.queue.eraseIdx i ++ [asked q.frame]
              counts := { s.ylc.counts with giveUps := min 65535 (s.ylc.counts.giveUps + 1) } } })))) ∧
    (q.frame = .beacon → s.tb.heldBeacon = true → s.takesFrame .beacon = true → s.ylc.queue.length ≤ 8 →
      (∀ x ∈ s.ylc.queue.eraseIdx i, x.frame ≠ .beacon) →
      (∃ t, exec .transmitComplete s = .next t ∧ t.tb.heldBeacon = false ∧ t.ylc.counts = s.ylc.counts ∧
        t.ylc.queue.map QueuedFrame.frame = (s.ylc.queue.eraseIdx i).map QueuedFrame.frame ++ [.beacon]) ∧
      (q.attempts + 1 < 8 → exec .collision s = .next (endOfStep
        { s with
          tb := { s.tb with heldBeacon := false }
          ylc := ended (s.ylc.queue.set i { q with attempts := q.attempts + 1, selected := false })
            s.ylc.counts })) ∧
      (8 ≤ q.attempts + 1 → exec .collision s = .next (endOfStep
        { s with
          tb := { s.tb with heldBeacon := false }
          ylc := ended (s.ylc.queue.eraseIdx i ++ [asked .beacon])
            { s.ylc.counts with giveUps := min 65535 (s.ylc.counts.giveUps + 1) } }))) ∧
    (∀ b, q.frame = .claim b →
      (q.attempts + 1 < 8 → exec .collision s = .next (endOfStep
        { s with
          ylc := ended (s.ylc.queue.set i { q with attempts := q.attempts + 1, selected := false })
            s.ylc.counts })) ∧
      (8 ≤ q.attempts + 1 →
        let givenUp := ended (s.ylc.queue.eraseIdx i)
          { s.ylc.counts with giveUps := min 65535 (s.ylc.counts.giveUps + 1) }
        (∀ o, s.fu.own = some o → o.phase = .claiming → o.number = b.number →
          exec .collision s = .next (endOfStep
            { s with
              ylc := givenUp
              fu := { s.fu with
                own := none
                inputs := s.fu.inputs.set o.key
                  { s.fu.inputs[o.key] with refusalEnd := some (s.now + 2000) } } })) ∧
        ((∀ o, s.fu.own = some o → ¬(o.phase = .claiming ∧ o.number = b.number)) →
          exec .collision s = .next (endOfStep { s with ylc := givenUp })))) ∧
    ((q.frame = .beacon → s.tb.heldBeacon = false) → (∀ b, q.frame ≠ .claim b) →
      (∀ a p, q.frame = .statusReply a p → (a, p) ∉ s.ylc.heldAsks) →
      (q.attempts + 1 < 8 →
        exec .collision s = .next (endOfStep
          { s with
            ylc := ended (s.ylc.queue.set i { q with attempts := q.attempts + 1, selected := false })
              s.ylc.counts })) ∧
      (8 ≤ q.attempts + 1 →
        exec .collision s = .next (endOfStep
          { s with
            ylc := ended (s.ylc.queue.eraseIdx i)
              { s.ylc.counts with giveUps := min 65535 (s.ylc.counts.giveUps + 1) } })))

/-- Access to the line (R7, R23, R32, R33, R37, R42, R44). IDLE_GAP_EXPIRY: the line is QUIET, and nothing else while
slots are left to count or no frame is in its access wait. START_BIT_SEEN: the line is BUSY, a countdown keeps the
slots not yet counted, and a receiver inside a frame takes the character: the third one of HEADER, the length, leads to
BODY for as many characters as it gives, and these to CHECK for the two CRC bytes; a length above 64 discards the
frame at once: HUNT, the stamp dropped, and one CRC error counted, or none while the station transmits. BACK_OFF_END, and IDLE_GAP_EXPIRY
with no slot left: the transmission of the selected frame begins with the characters of the frame, the body as its
owners have it now, and BUSY by its own start bit; the body of a BEACON holds the
stamp, the own full time at its delimiter, two byte times (1.042 ms) on (R7); the standing; the flags of the own contact
and of a line fault, or of the config fault alone; the floor of the view with its hold remaining rounded up (R157); and
the drill record with the own muster elapsed, 0xFFFF where absent (R180); with nothing to report, and in
CONFIG-FAULT, the fields of both are 0 and the muster elapsed 0xFFFF (R6). A STATUS-REPLY that begins while the invert-next-reply flag is set is marked inverted and the
flag is cleared. -/
def Obligations.AccessToTheLine : Prop :=
  ∀ (s : State) (bit : StartBit), s.up = true →
    let received : ReceiveState :=
      match s.ylc.receive with
      | .hunt => .hunt
      | .header taken =>
        if taken < 2 then .header (taken + 1)
        else if bit.character = 0#8 then .check 2
        else .body bit.character.toNat
      | .body left => if left ≤ 1 then .check 2 else .body (left - 1)
      | .check left => .check (left - 1)
    let lengthFault : Bool := match s.ylc.receive with
      | .header taken => decide (2 ≤ taken ∧ 64 < bit.character.toNat)
      | .hunt | .body _ | .check _ => false
    let heard (y : YardLine) : YardLine :=
      if lengthFault = true then
        { y with
          receive := .hunt
          stamp := none
          counts :=
            if s.transmitting = true then y.counts
            else { y.counts with crcErrors := min 65535 (y.counts.crcErrors + 1) } }
      else { y with receive := received }
    (s.ylc.busy = true → s.transmitting = false → s.ylc.attempt ≠ .waiting 0 →
      exec .idleGapExpiry s = .next (endOfStep { s with ylc := { s.ylc with busy := false } })) ∧
    (∀ k, s.ylc.busy = false → s.ylc.attempt = .waiting k →
      exec (.startBitSeen bit) s = .next (endOfStep
        { s with ylc := heard { s.ylc with busy := true, attempt := .waiting (k - bit.counted) } })) ∧
    (s.ylc.busy = true ∨ (∀ k, s.ylc.attempt ≠ .waiting k) →
      exec (.startBitSeen bit) s = .next (endOfStep
        { s with ylc := heard { s.ylc with busy := true } })) ∧
    (∀ x, s.school = some x → ∃ y, (y = x + 1 ∨ y = x + 2) ∧
      let stamp := min y 5662310399999
      s.beaconBody.stampDay = BitVec.ofNat 16 (stamp / 86400000) ∧
      s.beaconBody.stampMs = BitVec.ofNat 32 (stamp % 86400000)) ∧
    (s.school = none → s.beaconBody.stampDay = 0#16 ∧ s.beaconBody.stampMs = 0#32) ∧
    (∃ floor drill : List Byte,
      let two (x : Nat) : List Byte := halfBytes (BitVec.ofNat 16 x)
      let four (x : Nat) : List Byte := quadBytes (BitVec.ofNat 32 x)
      let standing : Byte := match s.tb.standing with
        | .unset => 0
        | .free => 1
        | .agreed => 2
        | .reference => 3
      let flags : Byte :=
        if s.sp.config = .configFault then 2
        else (if s.dru.contact = true then 1 else 0) |||
          (if ∃ l : LineId, (s.line l).cls = .opened ∨ (s.line l).cls = .shorted then 4 else 0)
      s.frameBody .beacon =
        halfBytes s.beaconBody.stampDay ++ quadBytes s.beaconBody.stampMs ++ [standing, flags] ++ floor ++ drill ∧
      (s.sp.config = .configFault ∨ s.fu.view = none → floor = List.replicate 5 0#8) ∧
      (∀ v, s.sp.config ≠ .configFault → s.fu.view = some v →
        floor = [BitVec.ofNat 8 (v.holder.val + 1), v.number, if v.cls = .urgent then 1#8 else 0#8] ++
          two ((v.holdEnd - s.now + 999) / 1000)) ∧
      (s.sp.config = .configFault ∨ s.dru.record = none →
        drill = List.replicate 21 0#8 ++ [0xFF#8, 0xFF#8]) ∧
      ∀ (r : DrillRecord) (n : Station), s.sp.config ≠ .configFault → s.dru.record = some r → s.own = some n →
        let phase : Byte := match r.phase with
          | .sounding => 1
          | .evacuating => 2
          | .overdue => 3
          | .mustered => 4
          | .ended => 5
        drill = [BitVec.ofNat 8 (r.initiator.val + 1), r.number] ++ two (r.start / 86400000) ++
          four (r.start % 86400000) ++ [phase] ++ two r.evacuationLimit ++ two r.soundLimit ++
          quadBytes r.expected ++ quadBytes r.reported ++ two (r.muster[n].getD 65535)) ∧
    ∀ (i : Nat) (q : QueuedFrame) (n : Station) (c : Instr), s.own = some n →
      selectedIndex s.ylc.queue = some i → s.ylc.queue[i]? = some q →
      (c = .backOffEnd ∧ s.ylc.busy = false ∧ (∃ k, s.ylc.attempt = .waiting k) ∨
        c = .idleGapExpiry ∧ s.ylc.busy = true ∧ s.ylc.attempt = .waiting 0) →
      let reply := match q.frame with
        | .statusReply _ _ => true
        | _ => false
      let inverted := q.inverted || (reply && s.ylc.invertNext)
      exec c s = .next (endOfStep
        { s with
          ylc := { s.ylc with
            busy := true
            attempt := .sending (frameChars q.frame.kind (stationByte n) (s.frameBody q.frame) inverted)
            queue := s.ylc.queue.set i { q with inverted }
            invertNext := s.ylc.invertNext && !reply
            sendIndex := s.ylc.sendIndex + 1 } })

/-- R30: a newcomer at a full queue: if some frame that is not selected is of a lower class than the newcomer,
the youngest frame of the lowest class among those not selected leaves and the newcomer joins; otherwise the
newcomer does not join; either way the queue-drop count rises by one. -/
def Obligations.FullQueueGivesUpTheLowestClass : Prop :=
  ∀ (f : OutFrame) (s : State), s.takesFrame f = true → s.ylc.queue.length = 8 →
    (enqueue f s).ylc.counts.queueDrops = min 65535 (s.ylc.counts.queueDrops + 1) ∧
    ((∀ q ∈ s.ylc.queue, q.selected = true ∨ q.frame.classRank ≤ f.classRank) →
      (enqueue f s).ylc.queue = s.ylc.queue) ∧
    (∀ q ∈ s.ylc.queue, q.selected = false → f.classRank < q.frame.classRank →
      ∃ (i : Nat) (v : QueuedFrame), s.ylc.queue[i]? = some v ∧ v.selected = false ∧
        (∀ x ∈ s.ylc.queue, x.selected = false → x.frame.classRank < v.frame.classRank ∨
          x.frame.classRank = v.frame.classRank ∧ x.age ≤ v.age) ∧
        (enqueue f s).ylc.queue = s.ylc.queue.eraseIdx i ++
          [{ frame := f, age := s.now, attempts := 0, selected := false, inverted := false }])

/-! ## The yard line: receiving -/

/-- DELIMITER_RECOGNISED in HUNT (R8, R37): the receive stamp and the station timer are taken and the state is
HEADER. RECEIVE_ABORT inside a frame (R37, R38): HUNT, the stamp dropped, and one CRC error counted, or none
while the station transmits. FRAME_REJECTED while not transmitting (R38, R39): the count of the first check the
frame fails rises: CRC errors, unknown kinds, or clashes with the clash flag. -/
def Obligations.ReceiverTakesAndDropsFrames : Prop :=
  ∀ (frame : List Byte) (s : State), s.up = true →
    let dropped (clash : Bool) (counts : LinkCounts) : State :=
      endOfStep { s with ylc := { s.ylc with receive := .hunt, stamp := none, clash, counts } }
    let crcError :=
      dropped s.ylc.clash { s.ylc.counts with crcErrors := min 65535 (s.ylc.counts.crcErrors + 1) }
    (s.ylc.receive = .hunt → exec .delimiterRecognised s = .next (endOfStep
      { s with
        ylc := { s.ylc with
          receive := .header 0
          stamp := some { fullTime := s.tb.fullTime, timer := s.tb.timer } } })) ∧
    (s.ylc.receive ≠ .hunt → s.transmitting = false → exec .receiveAbort s = .next crcError) ∧
    (s.ylc.receive ≠ .hunt → s.transmitting = true →
      exec .receiveAbort s = .next (dropped s.ylc.clash s.ylc.counts)) ∧
    (s.transmitting = false →
      (frameVerdict s.own frame = .crcError → exec (.frameRejected frame) s = .next crcError) ∧
      (frameVerdict s.own frame = .unknownKind → exec (.frameRejected frame) s = .next
        (dropped s.ylc.clash
          { s.ylc.counts with unknownKinds := min 65535 (s.ylc.counts.unknownKinds + 1) })) ∧
      (frameVerdict s.own frame = .clash → exec (.frameRejected frame) s = .next
        (dropped true { s.ylc.counts with clashes := min 65535 (s.ylc.counts.clashes + 1) })))

/-- Any frame that reaches no block (R37 to R40, R48): read back while the station transmits it is dropped
uncounted; with the own number as sender it is a station clash; with a sender that names no station, or in a
state that delivers nothing, it is counted good and nothing else. -/
def Obligations.FramesThatReachNoBlock : Prop :=
  ∀ (c : Instr) (kind sender : Byte) (body : List Byte) (s : State),
    bodyOfCommand c = some (kind, sender, body) → s.up = true →
    let dropped (clash : Bool) (counts : LinkCounts) : State :=
      endOfStep { s with ylc := { s.ylc with receive := .hunt, stamp := none, clash, counts } }
    (s.transmitting = true → exec c s = .next (dropped s.ylc.clash s.ylc.counts)) ∧
    (∀ n, s.transmitting = false → s.own = some n → stationOfByte sender = some n →
      exec c s = .next
        (dropped true { s.ylc.counts with clashes := min 65535 (s.ylc.counts.clashes + 1) })) ∧
    (s.transmitting = false → (stationOfByte sender = none ∨ s.delivers = false) →
      (∀ n, s.own = some n → stationOfByte sender ≠ some n) →
      exec c s = .next (dropped s.ylc.clash
        { s.ylc.counts with goodFrames := min 65535 (s.ylc.counts.goodFrames + 1) }))

/-- STATUS_REPLY (R40, R48) reaches the Peer Table only. STATUS_ASK for this station where it answers (R41, R29)
queues a STATUS-REPLY for its asker and page field when none for them is queued and there is room.
INVERT_NEXT_REPLY, LOCK_SUPERVISION and UNLOCK for this station (R43, R44, R95): the flag set; supervision locked
to the line 1–16 named, whatever lock stood before; the lock lifted with the pointer at the position of the line
that was locked. For another station each reaches the Peer Table only. The body of a STATUS-REPLY, as its transmission
begins (R41, R42): the asker, the page field and the content: GENERAL, with bells missed 0 in CONFIG-FAULT; and outside
CONFIG-FAULT CLOCKS, the bound slots in order (R76); DRILL, the record and the muster elapsed of stations 1 to 15, and
in part 1 of 16 to 30 (R180); PLAN, the plan of the day and the overrides, and in part 1 the shifts (R138); LINES
(R98). Any other page field, and in CONFIG-FAULT any but GENERAL, has no content. -/
def Obligations.AsksAndTestsOfThisStation : Prop :=
  (∀ (sender target page line : Byte) (content : List Byte) (n : Station) (s : State), s.hears sender n →
    exec (.statusReply sender target page content) s = .next (endOfStep (s.heardFrom n)) ∧
    (targetsOwn s.own target = true →
      (s.answersAsks = true → s.ylc.queue.length < 8 →
        (∀ q ∈ s.ylc.queue, q.frame ≠ .statusReply n page) →
        exec (.statusAsk sender target page) s = .next (endOfStep
          { s.heardFrom n with
            ylc := { (s.heardFrom n).ylc with
              queue := s.ylc.queue ++
                [{ frame := .statusReply n page, age := s.now, attempts := 0, selected := false,
                   inverted := false }] } })) ∧
      exec (.invertNextReply sender target 1#8 line) s = .next (endOfStep
        { s.heardFrom n with ylc := { (s.heardFrom n).ylc with invertNext := true } }) ∧
      (∀ l, s.taking = true → lineOfCode line.toNat = some l →
        exec (.lockSupervision sender target line) s = .next (endOfStep
          { s.heardFrom n with dsq := { s.dsq with locked := some l } })) ∧
      (∀ (l : LineId) (p : Fin 16), s.taking = true → s.dsq.locked = some l → s.dsq.scanOrder[p] = l →
        (∀ p' : Fin 16, p' < p → s.dsq.scanOrder[p'] ≠ l) →
        exec (.unlock sender target line) s = .next (endOfStep
          { s.heardFrom n with dsq := { s.dsq with locked := none, pointer := some p } }))) ∧
    (targetsOwn s.own target = false →
      exec (.statusAsk sender target page) s = .next (endOfStep (s.heardFrom n)) ∧
      exec (.invertNextReply sender target 1#8 line) s = .next (endOfStep (s.heardFrom n)) ∧
      exec (.lockSupervision sender target line) s = .next (endOfStep (s.heardFrom n)) ∧
      exec (.unlock sender target line) s = .next (endOfStep (s.heardFrom n)))) ∧
  ∀ (asker : Station) (page : Byte) (s : State), ∃ content : List Byte,
    s.frameBody (.statusReply asker page) = [BitVec.ofNat 8 (asker.val + 1), page] ++ content ∧
    let one (x : Nat) : Byte := BitVec.ofNat 8 x
    let two (x : Nat) : List Byte := halfBytes (BitVec.ofNat 16 x)
    let four (x : Nat) : List Byte := quadBytes (BitVec.ofNat 32 x)
    let loaded : Prop := s.sp.config ≠ .configFault
    (page = 0x01#8 → ∃ faults : Half,
      (∀ l : LineId, faults.getLsbD l.val = true ↔ (s.line l).cls = .opened ∨ (s.line l).cls = .shorted) ∧
      content = [0x72#8, 0x16#8, 0x01#8,
          match s.tb.standing with
          | .unset => 0#8
          | .free => 1#8
          | .agreed => 2#8
          | .reference => 3#8,
          match s.sp.cause with
          | .powerOn => 0#8
          | .resetInput => 1#8
          | .powerDip => 2#8,
          match s.sp.config with
          | .loading => 0#8
          | .listening => 1#8
          | .running => 2#8
          | .configFault => 3#8,
          (if s.ylc.clash then 1#8 else 0#8) ||| (if s.dru.yielding then 2#8 else 0#8)] ++
        two s.ylc.counts.goodFrames ++ two s.ylc.counts.crcErrors ++ two s.ylc.counts.unknownKinds ++
        two s.ylc.counts.queueDrops ++ two s.ylc.counts.giveUps ++ two s.ylc.counts.clashes ++
        two (if s.sp.config = .configFault then 0 else s.bs.missed) ++ halfBytes faults ++
        [one s.sp.warningTotal] ++ s.sp.warnings.flatMap fun x =>
          [one ((match x.kind with
            | .clamped => 1
            | .defaulted => 2
            | .unusable => 3) * 16 + x.sectionCode), x.item]) ∧
    (page = 0x02#8 → loaded →
      let slots := s.du.slots.toList.filter fun d => d.line.isSome
      content = one slots.length :: slots.flatMap fun d =>
        [one ((d.line.map Fin.val).getD 0 + 1), if d.modulus = 1440 then 1#8 else 0#8] ++
        two (d.dial.getD 65535) ++
        [one ((match d.state with
          | .stopped => 0
          | .inStep => 1
          | .advancing => 2
          | .holding => 3
          | .faulted => 4) * 16 + if d.polarity = .neg then 1 else 0)]) ∧
    (page = 0x03#8 → loaded → s.dru.record = none → content = [0#8]) ∧
    (page = 0x13#8 → loaded → s.dru.record = none → content = []) ∧
    (∀ r, s.dru.record = some r → loaded →
      let muster (stations : List Station) : List Byte :=
        stations.flatMap fun n => two (r.muster[n].getD 65535)
      let m := r.remaining s.school
      (page = 0x03#8 → content =
        [1#8, one (r.initiator.val + 1), r.number] ++ two (r.start / 86400000) ++ four (r.start % 86400000) ++
        two r.evacuationLimit ++ two r.soundLimit ++ quadBytes r.expected ++ quadBytes r.reported ++
        [match r.phase with
          | .sounding => 1#8
          | .evacuating => 2#8
          | .overdue => 3#8
          | .mustered => 4#8
          | .ended => 5#8,
          match r.endReason with
          | none => 0#8
          | some .manual => 1#8
          | some .yield => 2#8,
          (if m.minutes then 1#8 else 0#8) ||| (if m.overdue then 2#8 else 0#8), one m.count] ++
        muster ((List.finRange 30).take 15)) ∧
      (page = 0x13#8 → content = muster ((List.finRange 30).drop 15))) ∧
    (page = 0x04#8 → loaded →
      content = (match s.bs.planDay, s.bs.activePlan with
        | some day, some c =>
          [one (planCodeNat c), if s.bs.source = .override then 1#8 else 0#8] ++ two day
        | some day, none => [15#8, if s.bs.source = .override then 1#8 else 0#8] ++ two day
        | none, _ => [15#8, 0#8, 0xFF#8, 0xFF#8]) ++
        [one s.bs.overrides.length] ++ s.bs.overrides.flatMap fun o => two o.1 ++ [one (planCodeNat o.2)]) ∧
    (page = 0x14#8 → loaded →
      content = one s.bs.shifts.length :: s.bs.shifts.flatMap fun
        | .shift first last delta => [1#8, one first, one last, BitVec.ofInt 8 delta]
        | .cancel first last => [2#8, one first, one last, 0#8]) ∧
    (page = 0x05#8 → loaded →
      content = [if s.dsq.locked = none then 0#8 else 1#8, one ((s.dsq.locked.map lineCode).getD 0)] ++
        (List.finRange 16).flatMap fun l =>
          [match (s.line l).kind with
            | .unused => 0#8
            | .bell => 1#8
            | .sounder => 2#8
            | .clock => 3#8
            | .page => 4#8
            | .chime => 5#8,
            one ((match (s.line l).state with
              | .off => 0
              | .waiting => 1
              | .energized => 2
              | .faultDisabled => 3) * 16 +
              match (s.line l).cls with
              | .unknown => 0
              | .normal => 1
              | .opened => 2
              | .shorted => 3)]) ∧
    (page ≠ 0x01#8 → s.sp.config = .configFault ∨
      (∀ known ∈ [0x02#8, 0x03#8, 0x13#8, 0x04#8, 0x14#8, 0x05#8], page ≠ known) → content = [])

/-- BEACON of a peer (R9 to R11, R48, R49): the sender's entry, whole: PRESENT at this moment, the two flags, the
floor and drill summaries, and the sample: removed for a sender that is UNSET, kept where the own school time is
UNSET at the receive stamp and in CONFIG-FAULT, and otherwise the sender's full time less the receive stamp,
saturated, with the sender's standing and the station timer at the delimiter. No other entry changes. A station
with no school time, in LISTENING or RUNNING in either supply state, adopts it: the sender's full time plus the
station-timer time since the delimiter, within the range of R1, with standing FREE. Floor summary (R158), in LISTENING
or RUNNING: one that contradicts the sender's floor, held for 100 ms at the delimiter, ends it; over a FREE view a floor
of another station with no claim in the list is adopted; any other leaves the view, unless the station comes to yield.
Drill summary (R170), with school time set and no yield: of the record's drill it adds its reports and its own muster
(R176), silences a SOUNDING record (R173) and, from an initiator that ended it, ends it (R177); of a running drill with
none running it is joined (R171); one MUSTERED or ENDED of another drill leaves the record. -/
def Obligations.BeaconRefreshesItsSendersEntry : Prop :=
  ∀ (sender : Byte) (b : BeaconBody) (n : Station) (s : State), s.hears sender n →
    let full : Nat := b.stampDay.toNat * 86400000 + min b.stampMs.toNat 86399999
    ∃ t, exec (.beacon sender b) s = .next t ∧
      (∀ m, m ≠ n → t.peer m = s.peer m) ∧
      (t.peer n).state = .present ∧ (t.peer n).lastHeard = some s.now ∧
      (t.peer n).yielding = b.flags.getLsbD 0 ∧ (t.peer n).configFault = b.flags.getLsbD 1 ∧
      (t.peer n).floor = (stationOfByte b.floorHolder).map (fun h =>
        { holder := h, number := b.floorNumber, cls := if b.floorClass = 0#8 then .general else .urgent,
          holdRemaining := b.holdRemaining }) ∧
      (t.peer n).drill = drillSummaryOf b ∧
      (standingOfByte b.standing = .unset → (t.peer n).sample = none) ∧
      (standingOfByte b.standing ≠ .unset → s.receiveStamp.fullTime = none ∨ s.loaded = false →
        (t.peer n).sample = (s.peer n).sample) ∧
      (∀ x, s.loaded = true → standingOfByte b.standing ≠ .unset → s.receiveStamp.fullTime = some x →
        (t.peer n).sample = some
          { offset := max (-2147483647) (min 2147483647 ((full : Int) - x))
            standing := standingOfByte b.standing
            takenAt := s.receiveStamp.timer } ∧
        t.tb = s.tb) ∧
      (s.loaded = true → standingOfByte b.standing ≠ .unset → s.receiveStamp.fullTime = none →
        s.school = none →
        t.tb = { s.tb with
          fullTime := some (min (full + (s.tb.timer - s.receiveStamp.timer)) 5662310399999)
          standing := .free }) ∧
      t.ylc.counts.goodFrames = min 65535 (s.ylc.counts.goodFrames + 1) ∧
      t.sp = s.sp ∧ t.pending = s.pending ∧
      (s.taking = true →
        (∀ v, s.fu.view = some v →
          (v.holder = n → ¬(stationOfByte b.floorHolder = some n ∧ b.floorNumber = v.number) →
            v.heldSince + 100 ≤ s.receiveStamp.timer →
            t.fu.view = none ∧ t.nowhere (Owner.isFloor v.holder v.number)) ∧
          (v.holder ≠ n ∨ stationOfByte b.floorHolder = some n ∧ b.floorNumber = v.number ∨
              s.receiveStamp.timer < v.heldSince + 100 →
            (t.dru.yielding = true → s.dru.yielding = true) → t.fu.view = some v)) ∧
        (s.fu.view = none → (t.dru.yielding = true → s.dru.yielding = true) →
          (∀ h, stationOfByte b.floorHolder = some h → s.own ≠ some h →
            (∀ e ∈ s.fu.claims, ¬(e.claimant = h ∧ e.number = b.floorNumber)) →
            t.fu.view = some
              { holder := h
                number := b.floorNumber
                cls := if b.floorClass = 0#8 then .general else .urgent
                holdEnd := s.now + b.holdRemaining.toNat * 1000
                heldSince := s.now
                accepted := 0 }) ∧
          (∀ h, stationOfByte b.floorHolder = some h →
            s.own = some h ∨ (∃ e ∈ s.fu.claims, e.claimant = h ∧ e.number = b.floorNumber) →
            t.fu.view = none) ∧
          (stationOfByte b.floorHolder = none → t.fu.view = none)) ∧
        ∀ (d : DrillSummary) (x : Nat), drillSummaryOf b = some d → s.school = some x →
          s.dru.yielding = false → t.dru.yielding = false →
          (∀ r, s.dru.record = some r → r.initiator = d.initiator → r.number = d.number →
            ∃ r', t.dru.record = some r' ∧
              r'.reported = r.reported ||| (d.reportedSet &&& r.expected) ∧ r'.expected = r.expected ∧
              (∀ e, d.ownMuster = some e → inSet r.expected n = true → inSet d.reportedSet n = true →
                r.muster[n] = none → r'.muster = r.muster.set n (some e)) ∧
              (r.phase = .sounding → d.phase = .evacuating ∨ d.phase = .overdue → r'.phase ≠ .sounding) ∧
              (n = r.initiator → d.phase = .ended → r.phase ≠ .ended →
                r'.phase = .ended ∧ r'.endReason = some (if b.flags.getLsbD 0 then .yield else .manual)) ∧
              (r.phase.running = true → r'.phase.running = false →
                t.nowhere (Owner.isDrill r.initiator r.number))) ∧
          ((∀ r, s.dru.record = some r → ¬(r.initiator = d.initiator ∧ r.number = d.number)) →
            (d.phase.running = false → t.dru.record = s.dru.record) ∧
            (d.phase.running = true → s.drillRunning = false →
              ∃ r, t.dru.record = some r ∧ r.initiator = d.initiator ∧ r.number = d.number ∧
                r.start = d.startDay.toNat * 86400000 + d.startMs ∧
                r.evacuationLimit = max 60 (min 1800 d.evacuationLimit.toNat) ∧
                r.soundLimit = max 30 (min 600 d.soundLimit.toNat) ∧ r.expected = d.expectedSet ∧
                r.reported = (d.reportedSet ||| t.peerReports d.initiator d.number) &&& r.expected ∧
                let checked : DrillPhase :=
                  if r.expected ≠ 0 ∧ r.reported = r.expected then .mustered
                  else if r.evacuationLimit * 1000 ≤ x - r.start then .overdue
                  else if r.soundLimit * 1000 ≤ x - r.start then .evacuating
                  else .sounding
                r.phase = if checked = .sounding ∧ d.phase ≠ .sounding then .evacuating else checked)))

/-! ## Day plans and shifts heard -/

/-- DAYPLAN for a day that is not the plan day (R125 rows 2, 5 to 8), in a state that delivers it: ignored before
the plan day; an entry for the day replaced; a new entry at its place in day order; at a full list refused when
the day is the latest, else in place of the entry with the latest day. REMOVE_OVERRIDE (rows 3 and 4): the entry
for the day leaves the list; without one nothing happens; for the plan day the weekday map gives the plan and
the source again. -/
def Obligations.DayplansSetTheOverrides : Prop :=
  ∀ (sender code : Byte) (day : Half) (n : Station) (c : PlanCode) (s : State), s.hears sender n →
    s.loaded = true → planOfCode code.toNat = some c →
    let list := s.bs.overrides
    let d := day.toNat
    let after (l : List (Nat × PlanCode)) : State :=
      endOfStep { s.heardFrom n with bs := { s.bs with overrides := l } }
    let placed (l : List (Nat × PlanCode)) : List (Nat × PlanCode) :=
      l.takeWhile (fun o => decide (o.1 ≤ d)) ++ (d, c) :: l.dropWhile (fun o => decide (o.1 ≤ d))
    ((∃ p, s.bs.planDay = some p ∧ d < p) → exec (.dayplan sender day code) s = .next (after list)) ∧
    ((∀ p, s.bs.planDay = some p → p < d) →
      ((∃ o ∈ list, o.1 = d) → exec (.dayplan sender day code) s =
        .next (after (list.map fun o => if o.1 = d then (d, c) else o))) ∧
      ((∀ o ∈ list, o.1 ≠ d) → list.length < 16 →
        exec (.dayplan sender day code) s = .next (after (placed list))) ∧
      ((∀ o ∈ list, o.1 < d) → 16 ≤ list.length →
        exec (.dayplan sender day code) s = .next (after list)) ∧
      ((∀ o ∈ list, o.1 ≠ d) → (∃ o ∈ list, d < o.1) → 16 ≤ list.length →
        exec (.dayplan sender day code) s = .next (after (placed list.dropLast)))) ∧
    ((∀ o ∈ list, o.1 ≠ d) → exec (.removeOverride sender day) s = .next (after list)) ∧
    ((∃ o ∈ list, o.1 = d) → (∀ p, s.bs.planDay = some p → p < d) →
      exec (.removeOverride sender day) s = .next (after (list.filter fun o => o.1 != d))) ∧
    ((∃ o ∈ list, o.1 = d) → s.bs.planDay = some d →
      ∃ t, exec (.removeOverride sender day) s = .next t ∧
        t.bs.overrides = list.filter (fun o => o.1 != d) ∧
        t.bs.planDay = s.bs.planDay ∧ t.bs.taken = s.bs.taken ∧ t.bs.missed = s.bs.missed ∧
        t.bs.activePlan = some (s.bs.weekday[(⟨d % 7, Nat.mod_lt _ (by decide)⟩ : Fin 7)]) ∧
        t.bs.source = .weekdayMap ∧ s.keepsAllBut [.ylc, .pt, .bs, .dsq, .du, .za] t)

/-- DAYPLAN that changes the plan of the day (R126): the code active with source OVERRIDE; the shift list empty;
each usable entry of the new plan OPEN, or PASSED uncounted when its list index is in the taken set or its time
of day is reached; taken set, plan day and count as they were. -/
def Obligations.ChangeOfThePlanOfTheDay : Prop :=
  ∀ (sender code : Byte) (day : Half) (n : Station) (c : PlanCode) (x : Nat) (s : State),
    s.hears sender n → s.loaded = true → planOfCode code.toNat = some c → s.bs.planDay = some day.toNat →
    s.school = some x → s.bs.activePlan ≠ some c → s.bs.overrides.length < 16 →
    ∃ t, exec (.dayplan sender day code) s = .next t ∧ t.bs.activePlan = some c ∧
      t.bs.source = .override ∧ t.bs.shifts = [] ∧ t.bs.taken = s.bs.taken ∧
      t.bs.planDay = s.bs.planDay ∧ t.bs.missed = s.bs.missed ∧
      t.bs.marks.length = (s.bs.windowOf c).count ∧
      (∀ i, i < (s.bs.windowOf c).count →
        let index := (s.bs.windowOf c).base + i
        t.bs.markAt i =
          if (s.bs.freshMarks (s.bs.windowOf c)).getD i .unusable = .unusable then .unusable
          else if index ∈ s.bs.taken ∨
            day.toNat * 86400000 + (s.bs.entryAt index).timeOfDay * 1000 ≤ x then .passed
          else .opened) ∧
      s.keepsAllBut [.ylc, .pt, .bs, .dsq, .du, .za] t

/-- SHIFT and CANCEL for the plan day whose range starts in the plan, with fewer than 8 records held (R127 row 6,
R128, R129), and CLEAR_ALL (row 3): the list changed, a delta clamped to ±120 minutes, and every OPEN entry now
reached or outside the day PASSED, uncounted; all else of the scheduler stands. The effective time of an entry
is its time of day plus 60 s for each minute of the SHIFT records whose range holds it. -/
def Obligations.ShiftsChangeTheDay : Prop :=
  ∀ (sender first last delta : Byte) (day : Half) (n : Station) (s : State), s.hears sender n →
    s.loaded = true → s.bs.planDay = some day.toNat →
    let effective (b : BellScheduler) (i : Nat) : Int :=
      ((b.entryAt (b.window.base + i)).timeOfDay : Int) + (b.shifts.map fun r =>
        match r with
        | .shift f l d => if f ≤ i ∧ i ≤ l then 60 * d else 0
        | .cancel _ _ => 0).sum
    let passed (b : BellScheduler) (i : Nat) : Bool :=
      (match s.school with
        | some x => decide ((day.toNat : Int) * 86400000 + effective b i * 1000 ≤ (x : Int))
        | none => false) || decide (effective b i < 0) || decide (86400 ≤ effective b i)
    let after (shifts : List ShiftRecord) : State :=
      endOfStep { s.heardFrom n with
        bs := { s.bs with
          shifts
          marks := s.bs.marks.mapIdx fun i m =>
            if m = .opened ∧ passed { s.bs with shifts } i = true then .passed else m } }
    (first.toNat < s.bs.window.count → first.toNat ≤ last.toNat → s.bs.shifts.length < 8 →
      exec (.shift sender day 1#8 first last delta) s = .next (after (s.bs.shifts ++
        [.shift first.toNat last.toNat (max (-120) (min 120 delta.toInt))])) ∧
      exec (.cancel sender day first last) s = .next (after (s.bs.shifts ++
        [.cancel first.toNat last.toNat]))) ∧
    exec (.clearAll sender day) s = .next (after [])

/-! ## The floor -/

/-- CLAIM (R148, R144) of a peer: its entry, with a class code above 1 taken as URGENT, the window and hold limit at
their nearest limits and the targets that name a station or all, takes the place of the sender's old entry; joins a
list with room; at a full list takes the place of the lowest-ranked entry when it outranks it, and is discarded when it
does not. Nothing else of the Floor Unit changes while the sender has no other floor in the view and this station holds
no floor that objects. A floor of the sender's of another number leaves the view and every zone (step 1). A holder in
RUNNING whose class is at or above the claim's queues OBJECT(HELD), a holder of a lower class none (step 3). An own
claim displaced at a full list returns the record to IDLE with a refusal and queues RELEASE(WITHDRAWN) (R147). -/
def Obligations.ClaimJoinsTheList : Prop :=
  ∀ (sender : Byte) (b : ClaimBody) (n : Station) (s : State), s.hears sender n → s.taking = true →
    let e : ClaimEntry :=
      { claimant := n
        number := b.number
        cls := if b.cls = 0#8 then .general else .urgent
        targets := b.targets.filterMap fun p =>
          if p.1 = 31#8 then some { station := .all, zones := p.2 }
          else (stationOfByte p.1).map fun m => { station := .one m, zones := p.2 }
        holdLimit := max 10 (min 600 b.holdLimit.toNat)
        windowEnd := s.now + max 100 (min 2000 b.window.toNat)
        objected := false }
    let after (claims : List ClaimEntry) : State :=
      endOfStep { s.heardFrom n with fu := { s.fu with claims } }
    let sameFloor : Prop := ∀ v, s.fu.view = some v → v.holder = n → v.number = b.number
    let objects (o : OwnClaim) : Prop := s.running = true ∧ s.fu.own = some o ∧ o.phase.holdsFloor = true ∧
      (o.cls = .urgent ∨ e.cls = .general)
    (sameFloor → (∀ o, ¬objects o) →
      ((∃ x ∈ s.fu.claims, x.claimant = n) → exec (.claim sender b) s =
        .next (after (s.fu.claims.map fun x => if x.claimant = n then e else x))) ∧
      ((∀ x ∈ s.fu.claims, x.claimant ≠ n) →
        (s.fu.claims.length < 4 → exec (.claim sender b) s = .next (after (s.fu.claims ++ [e]))) ∧
        ∀ low ∈ s.fu.claims, 4 ≤ s.fu.claims.length → s.own ≠ some low.claimant →
          (∀ x ∈ s.fu.claims, x = low ∨ x.outranks low = true) →
          (e.outranks low = true → exec (.claim sender b) s =
            .next (after (s.fu.claims.filter (fun x => x.claimant != low.claimant) ++ [e]))) ∧
          (e.outranks low = false → exec (.claim sender b) s = .next (after s.fu.claims)))) ∧
    (∀ v, s.fu.view = some v → v.holder = n → v.number ≠ b.number →
      ∃ t, exec (.claim sender b) s = .next t ∧ t.fu.view = none ∧
        t.nowhere (Owner.isFloor n v.number) ∧
        (s.fu.claims.length < 4 → (∀ x ∈ s.fu.claims, x.claimant ≠ n) →
          t.fu.claims = s.fu.claims ++ [e])) ∧
    (∀ o, sameFloor → objects o → s.ylc.queue.length < 8 →
      ∃ t, exec (.claim sender b) s = .next t ∧ t.queued (.object n b.number 1#8) ∧
        t.fu.own = s.fu.own ∧ t.fu.view = s.fu.view ∧
        (s.fu.claims.length < 4 → (∀ x ∈ s.fu.claims, x.claimant ≠ n) →
          t.fu.claims = s.fu.claims ++ [e])) ∧
    ∀ (o : OwnClaim) (low : ClaimEntry), sameFloor → s.fu.own = some o → o.phase = .claiming →
      low ∈ s.fu.claims → s.own = some low.claimant → low.number = o.number → 4 ≤ s.fu.claims.length →
      (∀ x ∈ s.fu.claims, x.claimant ≠ n) → (∀ x ∈ s.fu.claims, x = low ∨ x.outranks low = true) →
      e.outranks low = true →
      ∃ t, exec (.claim sender b) s = .next t ∧ t.fu.own = none ∧
        (t.key o.key).refusalEnd = some (s.now + 2000) ∧
        t.fu.claims = s.fu.claims.filter (fun x => x.claimant != low.claimant) ++ [e] ∧
        (s.running = true → s.ylc.queue.length < 8 → t.queued (.release o.number 2#8))

/-- OBJECT (R149): of an entry of the claim list, it is marked objected and nothing else; of the own floor, the
own record is IDLE, MIC-LIVE off, the chime idle, a refusal shown on the key for 2 s, the floor out of the view
and of every zone, and RELEASE(WITHDRAWN) queued; of anything else, nothing. -/
def Obligations.ObjectMarksTheClaimOrEndsTheFloor : Prop :=
  ∀ (sender claimant number reason : Byte) (n : Station) (s : State), s.hears sender n → s.taking = true →
    (stationOfByte claimant = none →
      exec (.object sender claimant number reason) s = .next (endOfStep (s.heardFrom n))) ∧
    ∀ c, stationOfByte claimant = some c →
      ((∃ e ∈ s.fu.claims, e.claimant = c ∧ e.number = number) →
        exec (.object sender claimant number reason) s = .next (endOfStep
          { s.heardFrom n with
            fu := { s.fu with
              claims := s.fu.claims.map fun e =>
                if e.claimant = c ∧ e.number = number then { e with objected := true } else e } })) ∧
      ((∀ e ∈ s.fu.claims, ¬(e.claimant = c ∧ e.number = number)) →
        (∀ o, s.fu.own = some o → s.own = some c → o.number = number → o.phase.holdsFloor = true →
          ∃ t, exec (.object sender claimant number reason) s = .next t ∧ t.fu.own = none ∧
            t.fu.micLive = false ∧ t.dsq.chime = .idle ∧
            (t.key o.key).refusalEnd = some (s.now + 2000) ∧ t.viewIs c number = false ∧
            (s.viewIs c number = true → t.nowhere (Owner.isFloor c number)) ∧
            (s.running = true → s.ylc.queue.length < 8 → t.queued (.release number 2#8))) ∧
        ((∀ o, s.fu.own = some o → ¬(s.own = some c ∧ o.number = number ∧ o.phase.holdsFloor = true)) →
          exec (.object sender claimant number reason) s = .next (endOfStep (s.heardFrom n))))

/-- R150: a RELEASE, whatever its reason code: the sender's entry of that number leaves the claim list, the
sender's floor of that number leaves the view and every zone, and nothing else of the Floor Unit changes. A zone that
the floor held and whose stack is empty becomes IDLE, or rings its deferred bell when the bell is within the late limit
and its line good; the slot is empty then (R111, R112). Over a stack with the running drill on top, the drill is current
again (R111). -/
def Obligations.ReleaseEndsClaimAndFloor : Prop :=
  ∀ (sender number reason : Byte) (n : Station) (s : State), s.hears sender n → s.taking = true →
    ∃ t, exec (.release sender number reason) s = .next t ∧
      t.fu = { s.fu with
        claims := s.fu.claims.filter fun e => decide (¬(e.claimant = n ∧ e.number = number))
        view := if s.viewIs n number then none else s.fu.view } ∧
      (s.viewIs n number = true → t.nowhere (Owner.isFloor n number)) ∧
      (s.viewIs n number = true → ∀ (z : ZoneId) (c : FloorClass),
        (s.zone z).owner = some (.floor n number c) →
        ((s.zone z).stack = [] →
          ((s.zone z).deferred = none → (t.zone z).owner = none) ∧
          ∀ b, (s.zone z).deferred = some b → (t.zone z).deferred = none ∧
            (∀ (l : LineId) (x : Nat), (s.zone z).bellLine = some l → (s.line l).cls.faulted = false →
              s.school = some x →
              ((x : Int) - b.effective ≤ s.bs.lateLimit * 1000 → (t.zone z).owner = some (.bell b)) ∧
              ((s.bs.lateLimit : Int) * 1000 < (x : Int) - b.effective → (t.zone z).owner = none)) ∧
            ((s.zone z).bellLine = none ∨
                (∃ l, (s.zone z).bellLine = some l ∧ (s.line l).cls.faulted = true) →
              (t.zone z).owner = none)) ∧
        (∀ (r : DrillRecord) (rest : List Owner), s.dru.record = some r → r.phase.running = true →
          (s.zone z).stack = .drill r.initiator r.number :: rest →
          (t.zone z).owner = some (.drill r.initiator r.number) ∧
          (t.zone z).stack = rest.filter (fun o => !Owner.isFloor n number o))) ∧
      s.keepsAllBut [.fu, .ylc, .pt, .za, .dsq, .du, .bs] t

/-- READY of this station's floor (R153) that leaves an expected responder unanswered, or comes once the gathering
has closed: the sender's ready mask is stored, and nothing else; any other READY has no effect. The gathering closes at
READY_WAIT_END at its time, and at a READY that leaves no expected responder unanswered, its mask stored (R153, R154):
with no zone accepted anywhere the record is IDLE, a refusal is shown, RELEASE(NO-ZONES) queued and the floor out of the
view; otherwise the record is CHIMING with MIC-LIVE as it was and the CHIME lines on, or, where the station has no
usable CHIME line, LIVE with MIC-LIVE on. -/
def Obligations.ReadyIsStoredAndGatheringCloses : Prop :=
  ∀ (o : OwnClaim) (s : State), s.fu.own = some o →
    let closes (c : Instr) (g : OwnClaim) (base : State) : Prop :=
      (s.ownAccepted o.number = 0#8 →
        (∀ m : Station, g.responders[m] = none ∨ g.responders[m] = some 0#8) →
        ∃ t, exec c s = .next t ∧ t.fu.own = none ∧
          (t.key o.key).refusalEnd = some (s.now + 2000) ∧
          (∀ n, s.own = some n → t.viewIs n o.number = false) ∧
          (s.ylc.queue.length < 8 → t.queued (.release o.number 4#8))) ∧
      (s.ownAccepted o.number ≠ 0#8 ∨
          (∃ (m : Station) (r : ZoneMask), g.responders[m] = some r ∧ r ≠ 0#8) →
        (s.chimeLines = 0#16 → exec c s = .next (endOfStep
          { base with
            fu := { s.fu with
              own := some { g with phase := .live, readyWaitEnd := none }
              micLive := true } })) ∧
        (s.chimeLines ≠ 0#16 → ∃ t, exec c s = .next t ∧
          t.fu = { s.fu with own := some { g with phase := .chiming, readyWaitEnd := none } } ∧
          t.dsq.chime = .on 0 s.chimeLines (s.now + s.dsq.chimePattern.w1) ∧
          ∀ l, inLines s.chimeLines l = true → (s.line l).state = .off →
            (t.line l).state = .energized))
    (∀ (sender holder number : Byte) (mask refused : ZoneMask) (n h : Station),
      s.hears sender n → s.taking = true → stationOfByte holder = some h →
      let g : OwnClaim := { o with responders := o.responders.set n (some mask) }
      (s.own = some h → o.number = number → o.phase.holdsFloor = true →
        (o.phase = .gathering → ∃ m, m ≠ n ∧ inSet o.expected m = true ∧ o.responders[m] = none) →
        exec (.ready sender holder number mask refused) s = .next (endOfStep
          { s.heardFrom n with fu := { s.fu with own := some g } })) ∧
      (s.own = some h → o.number = number → o.phase = .gathering → s.running = true →
        s.dsq.chime = .idle → (∀ m, m ≠ n → inSet o.expected m = true → o.responders[m] ≠ none) →
        closes (.ready sender holder number mask refused) g (s.heardFrom n)) ∧
      (¬(s.own = some h ∧ o.number = number ∧ o.phase.holdsFloor = true) →
        exec (.ready sender holder number mask refused) s = .next (endOfStep (s.heardFrom n)))) ∧
    (s.up = true → s.running = true → o.phase = .gathering → reached o.readyWaitEnd s.now = true →
      s.dsq.chime = .idle → closes .readyWaitEnd o s)

/-- PAGE_KEY_PRESS in LISTENING or RUNNING of a key that is armed: by a release since the reset, or by standing not
held for the first 50 ms after it, so that its press counts from 100 ms on (R142, R146): refused, with the refusal shown for 2 s and
nothing else, on any of the conditions of the rule; otherwise accepted: the counter rises by one, the own record
is CLAIMING with it, and a CLAIM of the key's window, hold limit and targets joins a queue with room. A press of a key
not armed is ignored: the key is held. REFUSAL_END at its time (R142): the lamp shows the refusal no longer, and nothing
else changes. The lamp of a key (R142, R161): steady, and on, while the own record of the key is CHIMING or LIVE; slow
flash, 500 ms on and 500 ms off, while it is CLAIMING or GATHERING; else fast flash, 125 ms on and 125 ms off, while a
refusal was shown less than 2 s ago; else, and outside LISTENING and RUNNING, off. -/
def Obligations.PageKeyPressClaimsOrIsRefused : Prop :=
  (∀ (k : KeyId) (n : Station) (s : State), s.up = true → s.own = some n →
    let key := s.fu.keys[k]
    let refused : Prop := s.running = false ∨ key.targets = [] ∨ s.fu.own ≠ none ∨ s.dru.yielding = true ∨
      (s.drillRunning = true ∧ key.cls = .general) ∨
      (∃ v, s.fu.view = some v ∧ v.holder ≠ n ∧ (v.cls = .urgent ∨ key.cls = .general)) ∨
      ∃ e ∈ s.fu.claims, outranks e.cls e.claimant key.cls n = true
    let pressed (refusalEnd : Option Nat) : FloorUnit :=
      { s.fu with inputs := s.fu.inputs.set k { armed := true, held := true, refusalEnd } }
    (s.taking = true → ((s.key k).armed = true ∨ 100 ≤ s.tb.timer) → (s.key k).held = false →
      (refused → exec (.pageKeyPress k) s =
        .next (endOfStep { s with fu := pressed (some (s.now + 2000)) })) ∧
      (¬refused → s.ylc.queue.length < 8 →
        ∃ o : OwnClaim, o.phase = .claiming ∧ o.key = k ∧ o.number = s.fu.counter + 1 ∧ o.cls = key.cls ∧
          o.window = key.window ∧ o.holdLimit = key.holdLimit ∧ o.targets = key.targets ∧
          o.ownZones = zonesTargeted (some n) key.targets ∧
          o.expected = s.expectedResponders n key.targets ∧
          (∀ m : Station, o.responders[m] = none) ∧
          exec (.pageKeyPress k) s = .next (endOfStep
            { s with
              fu := { pressed (s.key k).refusalEnd with own := some o, counter := o.number }
              ylc := { s.ylc with
                queue := s.ylc.queue ++
                  [{ frame := .claim o.body, age := s.now, attempts := 0, selected := false,
                     inverted := false }] } }))) ∧
    ((s.key k).armed = false → s.tb.timer < 100 → (s.key k).held = false →
      exec (.pageKeyPress k) s = .next (endOfStep
        { s with
          fu := { s.fu with inputs := s.fu.inputs.set k { s.fu.inputs[k] with held := true } } })) ∧
    (reached (s.key k).refusalEnd s.now = true →
      exec (.refusalEnd k) s = .next
        { s with
          fu := { s.fu with inputs := s.fu.inputs.set k { s.fu.inputs[k] with refusalEnd := none } } })) ∧
  ∀ (k : KeyId) (s : State),
    let moment (timer : Nat) : State := { s with tb := { s.tb with timer } }
    let shown : Prop := ∃ e, (s.key k).refusalEnd = some e ∧ s.now < e
    (s.up = false ∨ s.taking = false → s.lamp k = .off) ∧
    (s.up = true → s.taking = true →
      (∀ o, s.fu.own = some o → o.key = k →
        (o.phase = .chiming ∨ o.phase = .live → s.lamp k = .steady) ∧
        (o.phase = .claiming ∨ o.phase = .gathering → s.lamp k = .slowFlash)) ∧
      ((∀ o, s.fu.own = some o → o.key ≠ k) →
        (shown → s.lamp k = .fastFlash) ∧ (¬shown → s.lamp k = .off))) ∧
    (s.lamp k = .steady → s.lampOn k = true) ∧ (s.lamp k = .off → s.lampOn k = false) ∧
    (s.lamp k = .slowFlash →
      ∃ phase : Nat, ∀ timer, (moment timer).lampOn k = decide ((phase + timer) % 1000 < 500)) ∧
    (s.lamp k = .fastFlash →
      ∃ phase : Nat, ∀ timer e, (s.key k).refusalEnd = some e → timer < e →
        (moment timer).lampOn k = decide ((phase + timer) % 250 < 125))

/-- PAGE_KEY_RELEASE of the key of the own record (R155, R142, R154): the record is IDLE, MIC-LIVE off, the chime
idle, the lamp off and the key armed; a claim not yet decided leaves the list and RELEASE(WITHDRAWN) is queued,
a floor leaves the view and RELEASE(ENDED) is queued. Of any other key, the key alone is armed and released. -/
def Obligations.PageKeyReleaseEndsTheOwnClaim : Prop :=
  ∀ (k : KeyId) (n : Station) (s : State), s.up = true → s.own = some n →
    (∀ o, s.fu.own = some o → o.key = k → s.taking = true →
      ∃ t, exec (.pageKeyRelease k) s = .next t ∧ t.fu.own = none ∧ t.fu.micLive = false ∧
        t.dsq.chime = .idle ∧ t.key k = { armed := true, held := false, refusalEnd := none } ∧
        (o.phase = .claiming → t.fu.claims = s.fu.claims.filter (fun e => e.claimant != n) ∧
          t.fu.view = s.fu.view) ∧
        (o.phase ≠ .claiming → t.viewIs n o.number = false ∧
          (s.viewIs n o.number = true → t.nowhere (Owner.isFloor n o.number))) ∧
        (s.running = true → s.ylc.queue.length < 8 →
          t.queued (.release o.number (if o.phase = .claiming then 2#8 else 1#8)))) ∧
    ((∀ o, s.fu.own = some o → o.key ≠ k) →
      exec (.pageKeyRelease k) s = .next (endOfStep
        { s with
          fu := { s.fu with
            inputs := s.fu.inputs.set k { s.fu.inputs[k] with armed := true, held := false } } }))

/-- WINDOW_CLOSE at its time (R151, R152, R161): the claim leaves the list. One that is outranked or objected, or
meets another floor of a class at or above its own, loses: for a peer's claim nothing else happens, for the own
claim its record is IDLE with a refusal shown, and no frame. A peer's claim that wins: the view is HELD by it with
its hold end and held since, a floor displaced standing at no zone; in RUNNING the zones accepted are targeted and
hold the floor, an IDLE zone targeted whose page line is good is accepted, and for a station that it targets READY is
queued, its refused mask the zones targeted and not accepted (R152 step 3); in LISTENING no zone is offered. An own floor so
displaced leaves the record IDLE, MIC-LIVE off, the chime idle and its lamp off (R152 step 1). The own claim that wins in
RUNNING (R153): with an expected responder unanswered the record is GATHERING to its ready wait, the view HELD by it and
no frame queued; with none unanswered the gathering closes at once: with no zone accepted anywhere the record is IDLE,
the refusal shown, the view not its, and RELEASE(NO-ZONES) queued; with an IDLE zone targeted whose page line is good,
that zone is accepted and the record CHIMING over the CHIME lines, or LIVE with MIC-LIVE on where there is none. -/
def Obligations.WindowCloseDecidesTheClaim : Prop :=
  ∀ (c : Station) (x : ClaimEntry) (s : State), s.up = true → s.taking = true →
    s.closingClaim c = some x →
    let left := s.fu.claims.filter fun e => e.claimant != c
    let loses : Prop := x.objected = true ∨ (∃ e ∈ s.fu.claims, e.claimant ≠ c ∧ e.outranks x = true) ∨
      ∃ v, s.fu.view = some v ∧ ¬(v.holder = c ∧ v.number = x.number) ∧
        (v.cls = .urgent ∨ x.cls = .general)
    (loses → s.own ≠ some c →
      exec (.windowClose c) s = .next (endOfStep { s with fu := { s.fu with claims := left } })) ∧
    (∀ o, loses → s.own = some c → s.fu.own = some o → o.phase = .claiming → o.number = x.number →
      exec (.windowClose c) s = .next (endOfStep
        { s with
          fu := { s.fu with
            claims := left
            own := none
            inputs := s.fu.inputs.set o.key
              { s.fu.inputs[o.key] with refusalEnd := some (s.now + 2000) } } })) ∧
    (¬loses → s.own ≠ some c →
      ∃ (t : State) (v : FloorView), exec (.windowClose c) s = .next t ∧ t.fu.view = some v ∧
        v.holder = c ∧ v.number = x.number ∧ v.cls = x.cls ∧ v.holdEnd = s.now + x.holdLimit * 1000 ∧
        v.heldSince = s.now ∧ t.fu.claims = left ∧
        (∀ w, s.fu.view = some w → ¬(w.holder = c ∧ w.number = x.number) →
          t.nowhere (Owner.isFloor w.holder w.number)) ∧
        (s.listening = true → v.accepted = 0#8) ∧
        (∀ z : ZoneId, inZones v.accepted z = true → s.running = true ∧
          inZones (zonesTargeted s.own x.targets) z = true ∧
          ((t.zone z).owner = some (.floor c x.number x.cls) ∨
            ∃ o ∈ (s.zone z).owner.toList ++ (s.zone z).stack, Owner.isFloor c x.number o = true)) ∧
        (s.running = true → zonesTargeted s.own x.targets ≠ 0#8 → s.ylc.queue.length < 8 →
          t.queued (.ready c x.number v.accepted (zonesTargeted s.own x.targets &&& ~~~v.accepted))) ∧
        (∀ (z : ZoneId) (l : LineId), s.running = true → inZones (zonesTargeted s.own x.targets) z = true →
          (s.zone z).owner = none → (s.zone z).pageLine = some l → (s.line l).cls.faulted = false →
          inZones v.accepted z = true) ∧
        (∀ (n : Station) (w : FloorView) (o : OwnClaim), s.own = some n → s.fu.view = some w →
          w.holder = n → s.fu.own = some o → o.phase.holdsFloor = true →
          t.fu.own = none ∧ t.fu.micLive = false ∧ t.dsq.chime = .idle ∧
          (t.key o.key).refusalEnd = none)) ∧
    ∀ o, ¬loses → s.own = some c → s.running = true → s.fu.own = some o → o.phase = .claiming →
      o.number = x.number →
      ∃ t, exec (.windowClose c) s = .next t ∧ t.fu.claims = left ∧
        ((∃ n, inSet o.expected n = true ∧ o.responders[n] = none) →
          t.fu.own = some
            { o with phase := .gathering, readyWaitEnd := some (s.now + s.fu.readyWait) } ∧
          t.viewIs c x.number = true ∧ t.fu.micLive = s.fu.micLive ∧ ∀ f, t.queued f → s.queued f) ∧
        ((∀ n, inSet o.expected n = true → o.responders[n] ≠ none) →
          (zonesTargeted s.own x.targets = 0#8 →
            (∀ n : Station, o.responders[n] = none ∨ o.responders[n] = some 0#8) →
            t.fu.own = none ∧ (t.key o.key).refusalEnd = some (s.now + 2000) ∧
            t.viewIs c x.number = false ∧
            (s.ylc.queue.length < 8 → t.queued (.release o.number 4#8))) ∧
          (∀ (z : ZoneId) (l : LineId), inZones (zonesTargeted s.own x.targets) z = true →
            (s.zone z).owner = none → (s.zone z).pageLine = some l → (s.line l).cls.faulted = false →
            s.dsq.chime = .idle →
            (∃ v, t.fu.view = some v ∧ v.holder = c ∧ v.number = x.number ∧
              inZones v.accepted z = true) ∧
            (s.chimeLines ≠ 0#16 →
              t.fu.own = some { o with phase := .chiming, readyWaitEnd := none } ∧
              t.dsq.chime = .on 0 s.chimeLines (s.now + s.dsq.chimePattern.w1)) ∧
            (s.chimeLines = 0#16 →
              t.fu.own = some { o with phase := .live, readyWaitEnd := none } ∧ t.fu.micLive = true)))

/-- HOLD_END of the own floor and TARGET_GRACE_EXPIRY of a peer's, 2 s after its hold end (R156): the floor
leaves the view and every zone; of the own floor the record is IDLE, MIC-LIVE off, the chime idle, the lamp off
and RELEASE(EXPIRED) queued. -/
def Obligations.HoldOfAFloorEnds : Prop :=
  ∀ (v : FloorView) (n : Station) (s : State), s.up = true → s.own = some n → s.fu.view = some v →
    (∀ o, v.holder = n → s.fu.own = some o → o.number = v.number → o.phase.holdsFloor = true →
      v.holdEnd ≤ s.now →
      ∃ t, exec .holdEnd s = .next t ∧ t.fu.own = none ∧ t.fu.micLive = false ∧ t.dsq.chime = .idle ∧
        (t.key o.key).refusalEnd = none ∧ t.fu.view = none ∧ t.nowhere (Owner.isFloor n v.number) ∧
        (s.running = true → s.ylc.queue.length < 8 → t.queued (.release v.number 3#8))) ∧
    (v.holder ≠ n → v.holdEnd + 2000 ≤ s.now →
      ∃ t, exec .targetGraceExpiry s = .next t ∧ t.fu = { s.fu with view := none } ∧
        t.nowhere (Owner.isFloor v.holder v.number) ∧
        s.keepsAllBut [.fu, .ylc, .za, .dsq, .du, .bs] t)

/-! ## Drills and yield -/

/-- DRILL_DEADLINE (R168, R169), for a running drill: the first row of the phase check that applies: all reported
takes it to MUSTERED with its final elapsed, the evacuation deadline to OVERDUE, the sound deadline from SOUNDING
to EVACUATING, and otherwise nothing changes; a drill that is MUSTERED stands at no zone, and one that leaves
SOUNDING sounds at no zone it owns. A record outside the running phases stands. -/
def Obligations.DeadlineMovesThePhase : Prop :=
  ∀ (r : DrillRecord) (s : State), s.up = true → s.taking = true → s.dru.record = some r →
    (r.phase.running = false → exec .drillDeadline s = .next (endOfStep s)) ∧
    (r.phase.running = true →
      let elapsed : Nat := match s.school with
        | some x => x - r.start
        | none => 0
      ∃ (t : State) (r' : DrillRecord), exec .drillDeadline s = .next t ∧
        t.dru = { s.dru with record := some r' } ∧
        (r.expected ≠ 0 → r.reported = r.expected →
          r' = { r with phase := .mustered, finalElapsed := some (elapsed / 1000) } ∧
          t.nowhere (Owner.isDrill r.initiator r.number)) ∧
        ((r.expected = 0 ∨ r.reported ≠ r.expected) →
          (r.evacuationLimit * 1000 ≤ elapsed → r' = { r with phase := .overdue }) ∧
          (elapsed < r.evacuationLimit * 1000 →
            (r.soundLimit * 1000 ≤ elapsed → r.phase = .sounding →
              r' = { r with phase := .evacuating }) ∧
            (elapsed < r.soundLimit * 1000 ∨ r.phase ≠ .sounding → r' = r)) ∧
          (r.phase = .sounding → r'.phase ≠ .sounding → ∀ z : ZoneId,
            (s.zone z).owner = some (.drill r.initiator r.number) → (s.zone z).sounderLine ≠ none →
            (t.zone z).sounderOn = false)) ∧
        phaseCode r.phase ≤ phaseCode r'.phase ∧
        s.keepsAllBut [.dru, .ylc, .za, .dsq, .du, .bs] t)

/-- R166, R167: DRILL_KEY_PRESS of an armed key in RUNNING, row by row. While the station yields or school time is
UNSET it is ignored. With no drill running a new one is started: the counter rises and numbers it; start now,
the limits loaded, the expected set the target set with the own station, no report, SOUNDING; DRILL-START joins a
queue with room. SOUNDING is silenced, with the phase checked at once, and SILENCE queued. EVACUATING or OVERDUE is
ENDED with reason MANUAL and its final elapsed, stands at no zone, and DRILL-END is queued. -/
def Obligations.DrillKeyStartsSilencesOrEnds : Prop :=
  ∀ (n : Station) (s : State), s.up = true → s.running = true → s.dru.drillArmed = true →
    s.own = some n → s.ylc.queue.length < 8 →
    (s.dru.yielding = true ∨ s.school = none → exec .drillKeyPress s = .next (endOfStep s)) ∧
    (∀ x, s.dru.yielding = false → s.school = some x → s.drillRunning = false →
      0 < s.dru.evacuationLimit → 0 < s.dru.soundLimit →
      ∃ t, exec .drillKeyPress s = .next t ∧
        t.dru = { s.dru with
          counter := s.dru.counter + 1
          record := some
            { initiator := n, number := s.dru.counter + 1, start := x
              evacuationLimit := s.dru.evacuationLimit, soundLimit := s.dru.soundLimit
              expected := s.targetSet ||| stationSet n, reported := 0
              muster := Vector.replicate 30 none, phase := .sounding, endReason := none
              finalElapsed := none } } ∧
        t.queued (.drillStart
          { number := s.dru.counter + 1
            startDay := BitVec.ofNat 16 (x / 86400000)
            startMs := BitVec.ofNat 32 (x % 86400000)
            evacuationLimit := BitVec.ofNat 16 s.dru.evacuationLimit
            soundLimit := BitVec.ofNat 16 s.dru.soundLimit
            expectedSet := s.targetSet ||| stationSet n }) ∧
        s.keepsAllBut [.dru, .ylc, .za, .dsq, .du, .bs] t) ∧
    (∀ r, s.dru.yielding = false → s.school ≠ none → s.dru.record = some r →
      (r.phase = .sounding → ∃ t, exec .drillKeyPress s = .next t ∧
        t.dru = { s.dru with
          record := some ({ r with phase := .evacuating }.checked s.school) } ∧
        t.queued (.silence r.initiator r.number)) ∧
      (r.phase = .evacuating ∨ r.phase = .overdue → ∃ t, exec .drillKeyPress s = .next t ∧
        t.dru = { s.dru with
          record := some
            { r with
              phase := .ended
              endReason := some .manual
              finalElapsed := some (r.elapsed s.school) } } ∧
        t.nowhere (Owner.isDrill r.initiator r.number) ∧
        t.queued (.drillEnd r.initiator r.number 1#8)))

/-- R174: MUSTER_KEY_PRESS of an armed key in RUNNING: with a drill running that expects this station, and no
report of it yet nor a yield, the elapsed seconds limited to 65,534 are the own muster elapsed, the own station
joins the reported set, MUSTER joins a queue with room, and the phase is checked; otherwise it is ignored.
KEY_ARMED (R165): the key named is armed; nothing else changes. -/
def Obligations.MusterKeyReportsThisStation : Prop :=
  ∀ s : State, s.up = true →
    exec (.keyArmed .drillKey) s = .next { s with dru := { s.dru with drillArmed := true } } ∧
    exec (.keyArmed .musterKey) s = .next { s with dru := { s.dru with musterArmed := true } } ∧
    ∀ n, s.running = true → s.dru.musterArmed = true → s.own = some n →
      (∀ r, s.dru.record = some r → r.phase.running = true → inSet r.expected n = true →
        inSet r.reported n = false → s.dru.yielding = false → s.ylc.queue.length < 8 →
        ∃ t, exec .musterKeyPress s = .next t ∧
          t.dru = { s.dru with
            record := some
              ({ r with
                reported := r.reported ||| stationSet n
                muster := r.muster.set n (some (min 65534 (r.elapsed s.school))) }.checked s.school) } ∧
          t.queued (.muster r.initiator r.number (BitVec.ofNat 16 (min 65534 (r.elapsed s.school)))) ∧
          s.keepsAllBut [.dru, .ylc, .za, .dsq, .du, .bs] t) ∧
      ((∀ r, s.dru.record = some r → r.phase.running = false ∨ inSet r.expected n = false ∨
          inSet r.reported n = true ∨ s.dru.yielding = true) →
        exec .musterKeyPress s = .next (endOfStep s))

/-- DRILL_START (R170 to R172) heard while this station does not yield and has school time. With no drill running:
the drill is joined with the fields of the frame at their nearest limits, the reports its peers hold limited to
the expected set, and the phase its elapsed time gives. With another drill running, of the two the one with the
earlier start wins, of equal starts the one with the lower initiator: the offered drill takes the record when it
wins, the old drill then standing at no zone, and changes nothing when it does not. A joined drill that runs, over zones
with no drill, comes to each (R107, R109): to an IDLE zone; over a bell, which is deferred; over a GENERAL floor, which
goes to the top of the hold stack; at an URGENT floor or a yield into the stack, below every URGENT floor and above every
GENERAL one, while the stack holds fewer than three. -/
def Obligations.DrillStartIsJoinedOrCompared : Prop :=
  ∀ (sender : Byte) (b : DrillStartBody) (n : Station) (x : Nat) (s : State), s.hears sender n →
    s.taking = true → s.dru.yielding = false → s.school = some x →
    (∀ r, s.dru.record = some r → r.is n b.number = false) →
    let start := b.startDay.toNat * 86400000 + min b.startMs.toNat 86399999
    let joined (r : DrillRecord) : Prop :=
      r.initiator = n ∧ r.number = b.number ∧ r.start = start ∧
      r.evacuationLimit = max 60 (min 1800 b.evacuationLimit.toNat) ∧
      r.soundLimit = max 30 (min 600 b.soundLimit.toNat) ∧
      r.expected = b.expectedSet &&& 0x7FFFFFFE#32 ∧
      r.reported = (s.heardFrom n).peerReports n b.number &&& r.expected ∧ r.endReason = none ∧
      r.phase =
        (if r.expected ≠ 0 ∧ r.reported = r.expected then .mustered
        else if r.evacuationLimit * 1000 ≤ x - r.start then .overdue
        else if r.soundLimit * 1000 ≤ x - r.start then .evacuating
        else .sounding)
    (s.drillRunning = false →
      ∃ (t : State) (r : DrillRecord), exec (.drillStart sender b) s = .next t ∧
        t.dru = { s.dru with record := some r } ∧ joined r ∧
        (r.phase.running = true → s.nowhere Owner.anyDrill → ∀ z : ZoneId,
          match (s.zone z).owner with
          | none => (t.zone z).owner = some (.drill n b.number) ∧ (t.zone z).stack = (s.zone z).stack
          | some (.bell d) => (t.zone z).owner = some (.drill n b.number) ∧
            (t.zone z).stack = (s.zone z).stack ∧ (t.zone z).deferred = some d
          | some (.floor h k .general) => (t.zone z).owner = some (.drill n b.number) ∧
            (t.zone z).stack = .floor h k .general :: (s.zone z).stack
          | some o => (t.zone z).owner = some o ∧
            (t.zone z).stack =
              if (s.zone z).stack.length < 3 then
                (s.zone z).stack.filter (fun u => u.level == .pageUrgent) ++
                  .drill n b.number :: (s.zone z).stack.filter (fun u => u.level != .pageUrgent)
              else (s.zone z).stack) ∧
        s.keepsAllBut [.dru, .ylc, .pt, .za, .dsq, .du, .bs] t) ∧
    (∀ r, s.dru.record = some r → r.phase.running = true →
      (r.start < start ∨ (start = r.start ∧ r.initiator ≤ n) →
        exec (.drillStart sender b) s = .next (endOfStep (s.heardFrom n))) ∧
      (start < r.start ∨ (start = r.start ∧ n < r.initiator) →
        ∃ (t : State) (r' : DrillRecord), exec (.drillStart sender b) s = .next t ∧
          t.dru = { s.dru with record := some r' } ∧ joined r' ∧
          t.nowhere (Owner.isDrill r.initiator r.number)))

/-- SILENCE, MUSTER and DRILL_END of the record's drill (R173, R175, R177), each with its effect on the record
and on nothing else of the Drill Unit; of another drill, no effect. -/
def Obligations.DrillFramesOfTheRecord : Prop :=
  ∀ (sender initiator number reason : Byte) (elapsed : Half) (n i : Station) (r : DrillRecord) (s : State),
    s.hears sender n → s.taking = true → stationOfByte initiator = some i → s.dru.record = some r →
    let why : EndReason := if reason = 2#8 then .yield else .manual
    (r.initiator = i → r.number = number →
      (r.phase = .sounding → ∃ t, exec (.silence sender initiator number) s = .next t ∧
        t.dru = { s.dru with record := some ({ r with phase := .evacuating }.checked s.school) }) ∧
      (inSet r.expected n = true → ∃ t, exec (.muster sender initiator number elapsed) s = .next t ∧
        t.dru = { s.dru with
          record := some
            ({ r with
              reported := r.reported ||| (stationSet n &&& r.expected)
              muster := if r.muster[n] = none then r.muster.set n (some (min 65534 elapsed.toNat))
                else r.muster }.checked s.school) }) ∧
      (r.phase.running = true → ∃ t, exec (.drillEnd sender initiator number reason) s = .next t ∧
        t.dru = { s.dru with
          record := some
            { r with
              phase := .ended, endReason := some why, finalElapsed := some (r.elapsed s.school) } } ∧
        t.nowhere (Owner.isDrill i number)) ∧
      (r.phase = .mustered → ∃ t, exec (.drillEnd sender initiator number reason) s = .next t ∧
        t.dru = { s.dru with record := some { r with phase := .ended, endReason := some why } })) ∧
    (¬(r.initiator = i ∧ r.number = number) →
      exec (.silence sender initiator number) s = .next (endOfStep (s.heardFrom n)) ∧
      exec (.muster sender initiator number elapsed) s = .next (endOfStep (s.heardFrom n)) ∧
      exec (.drillEnd sender initiator number reason) s = .next (endOfStep (s.heardFrom n)))

/-- R50: a YIELD sets its sender's yielding flag from its state byte, 0 clearing it, and a later BEACON sets it
from its flags, so that the later of the two stands; the YIELD is delivered to the Drill Unit as well (R55, R181):
the peer cause and the yielding state follow the flags as they then stand. -/
def Obligations.YieldSetsItsSendersFlag : Prop :=
  ∀ (sender state : Byte) (n : Station) (s : State), s.hears sender n →
    (∃ t, exec (.yield sender state) s = .next t ∧
      t.pt = s.pt.set n { s.pt[n] with
        state := .present, lastHeard := some s.now, yielding := decide (state ≠ 0#8) } ∧
      (s.taking = true →
        t.dru.peerCause = (s.dru.schoolWide && decide (∃ m : Station,
          (t.peer m).state = .present ∧ (t.peer m).yielding = true)) ∧
        t.dru.yielding = (s.dru.contact || t.dru.peerCause)) ∧
      (s.taking = false → t.dru = s.dru) ∧
      s.keepsAllBut [.pt, .ylc, .dru, .fu, .za, .dsq, .du, .bs] t) ∧
    ∀ b, ∃ t, exec (.beacon sender b) s = .next t ∧ (t.peer n).yielding = b.flags.getLsbD 0

/-- R182, the law of the part on yield: every step keeps the invariant State.Driven, by which a station that yields has
no own floor and YIELD at every zone, every BELL, SOUNDER, PAGE or CHIME line that is ENERGIZED or WAITING is driven by
a zone or the chime, and the chime plays for an own record alone; and under it, while the station yields, no such line
is ENERGIZED and MIC-LIVE is off. FIRE_PANEL_CHANGE in RUNNING (R181 to R183, R160): asserted over a station that does
not yield: the yielding state set, every zone at YIELD with no deferred bell, the own claim and the floor of the view
given up with MIC-LIVE off, a running drill ENDED with reason YIELD, YIELD(1) queued; every line that a zone or the
chime drives is OFF, so that no BELL, SOUNDER, PAGE or CHIME line is left ENERGIZED where each that was ENERGIZED or
WAITING was so driven; clear, with no peer cause: the yielding state clear, the yield at no zone and YIELD(0) queued. In
LOADING the contact and the yielding state change, and nothing else (R181, R184). -/
def Obligations.FirePanelTakesTheZones : Prop :=
  (∀ s t : State, s.Driven → step s = .next t → t.Driven) ∧
  (∀ s : State, s.Driven → s.yieldLawful = true) ∧
  (∀ (on : Bool) (s : State), s.up = true → s.loading = true → s.dru.contact ≠ on →
    exec (.firePanelChange on) s = .next (endOfStep
      { s with dru := { s.dru with contact := on, yielding := on || s.dru.peerCause } })) ∧
  ∀ s : State, s.up = true → s.running = true → s.ylc.queue.length < 8 →
    (s.dru.contact = false → s.dru.yielding = false → (∀ z, (s.zone z).owner ≠ some .yield) →
      ∃ t, exec (.firePanelChange true) s = .next t ∧
      t.dru.contact = true ∧ t.dru.yielding = true ∧ t.fu.own = none ∧ t.fu.view = none ∧
      (s.fu.micLawful = true → t.fu.micLive = false) ∧
      (∀ l : LineId, s.drives l → (t.line l).state = .off) ∧
      (s.fu.micLawful = true → (∀ l : LineId, (s.line l).kind ≠ .clock →
        (s.line l).state = .energized ∨ (s.line l).state = .waiting → s.drives l) →
        t.yieldLawful = true) ∧
      (∀ z : ZoneId, (t.zone z).owner = some .yield ∧ (t.zone z).deferred = none) ∧
      (∀ r, s.dru.record = some r → r.phase.running = true →
        t.dru.record = some { r with
          phase := .ended, endReason := some .yield, finalElapsed := some (r.elapsed s.school) } ∧
        t.nowhere (Owner.isDrill r.initiator r.number)) ∧
      (∀ r, s.dru.record = some r → r.phase.running = false → t.dru.record = some r) ∧
      t.queued (.yield 1#8) ∧ s.keepsAllBut [.dru, .fu, .ylc, .za, .dsq, .du, .bs] t) ∧
    (s.dru.contact = true → s.dru.yielding = true → s.peerCauseNow = false →
      ∃ t, exec (.firePanelChange false) s = .next t ∧
        t.dru = { s.dru with contact := false, peerCause := false, yielding := false } ∧
        t.nowhere (fun o => o == .yield) ∧ t.queued (.yield 0#8))

/-! ## Peers -/

/-- AGING_EXPIRY of an entry not heard for 3B (R51): LOST, the sample, the yielding flag and the floor summary
removed, the config-fault flag, the drill summary and the last heard kept; a floor of that peer in the view
ends in LISTENING and RUNNING (R52). -/
def Obligations.SilentPeerIsLost : Prop :=
  ∀ (n : Station) (s : State), s.up = true → s.delivers = true → (s.peer n).state = .present →
    reached ((s.peer n).lastHeard.map (· + 3 * (s.tb.beaconInterval * 1000))) s.now = true →
    ∃ t, exec (.agingExpiry n) s = .next t ∧
      t.pt = s.pt.set n { s.pt[n] with
        state := .lost, sample := none, yielding := false, floor := none } ∧
      (s.taking = true → ∀ v, s.fu.view = some v → v.holder = n → t.fu.view = none ∧
        t.nowhere (Owner.isFloor v.holder v.number)) ∧
      s.keepsAllBut [.pt, .ylc, .dru, .fu, .za, .dsq, .du, .bs] t

/-! ## Clock lines -/

/-- DIAL_SET for this station and a line bound to a slot, loaded (R72, R73): with no impulse in flight the dial
takes the position mod M, the polarity stands, and a snapshot of the dials as they then are is begun in an idle store
with a slot left and no snapshot pending, and otherwise pending (R189); with one in flight it is
the pending set and nothing else; of a line that is bound to none, and for another station, nothing. -/
def Obligations.DialSetMovesTheDial : Prop :=
  ∀ (sender target line : Byte) (position : Half) (n : Station) (s : State), s.hears sender n →
    (targetsOwn s.own target = true → s.loaded = true →
      (∀ (l : LineId) (i : SlotId), lineOfCode line.toNat = some l → s.slotOf l = some i →
        let value := position.toNat % (s.slot i).modulus
        ((s.slot i).impulse ≠ .inFlight →
          ∃ t, exec (.dialSet sender target line position) s = .next t ∧
            (t.slot i).dial = some value ∧ (t.slot i).polarity = (s.slot i).polarity ∧
            s.snapshotAsked
              (s.dialReadings.set i { dial := some value, polarity := (s.slot i).polarity }) t ∧
            (∀ j, j ≠ i → (t.slot j).dial = (s.slot j).dial) ∧
            s.keepsAllBut [.ylc, .pt, .du, .ds, .dsq, .za] t) ∧
        ((s.slot i).impulse = .inFlight →
          exec (.dialSet sender target line position) s = .next (endOfStep
            { s.heardFrom n with
              du := { s.du with
                slots := s.du.slots.set i { s.du.slots[i] with pendingSet := some value } } }))) ∧
      ((∀ l, lineOfCode line.toNat = some l → s.slotOf l = none) →
        exec (.dialSet sender target line position) s = .next (endOfStep (s.heardFrom n)))) ∧
    (targetsOwn s.own target = false →
      exec (.dialSet sender target line position) s = .next (endOfStep (s.heardFrom n)))

/-- SPACING_EXPIRY at S after the last start, of a record that calls for an impulse and has none, its line OFF
(R64, R65, R81): the line WAITING with a CLOCK request of width W and the polarity opposite to the record's, its
age this moment, and the record's impulse WAITING. WIDTH_EXPIRY of an impulse (R68, R73): the polarity is the
delivered impulse's; the dial has gone on by one minute modulo M, or stands at the pending set, which is then
gone, with a snapshot of the dials as they then are begun or pending, the line being that of the slot (R189). -/
def Obligations.ImpulseIsAskedForAndDelivered : Prop :=
  ∀ (i : SlotId) (l : LineId) (s : State), s.up = true →
    (s.running = true → (s.slot i).line = some l → (s.slot i).calls = true → (s.slot i).impulse = .none →
      reached ((s.slot i).lastStart.map (· + s.du.spacing)) s.now = true → (s.line l).state = .off →
      exec (.spacingExpiry i) s = .next (endOfStep
        { s with
          dsq := { s.dsq with
            lines := s.dsq.lines.set l { s.dsq.lines[l] with
              state := .waiting
              request := some
                { cls := .clock
                  width := s.du.width
                  polarity := if (s.slot i).polarity = .pos then .neg else .pos
                  requester := .dial i
                  age := s.now } } }
          du := { s.du with
            slots := s.du.slots.set i { s.du.slots[i] with impulse := .waiting } } })) ∧
    (∀ q, (s.line l).state = .energized → reached (s.line l).energizeEnd s.now = true →
      (s.line l).request = some q → q.requester = .dial i →
      ∃ t, exec (.widthExpiry l) s = .next t ∧ (t.slot i).polarity = q.polarity ∧
        (t.slot i).pendingSet = none ∧
        ((s.slot i).pendingSet = none →
          (t.slot i).dial = (s.slot i).dial.map (fun d => (d + 1) % (s.slot i).modulus) ∧ t.ds = s.ds) ∧
        (∀ p, (s.slot i).pendingSet = some p → (t.slot i).dial = some p ∧
          ((s.slot i).line = some l → s.snapshotAsked (s.dialReadings.set i { dial := some p, polarity := q.polarity }) t)) ∧
        s.keepsAllBut [.ylc, .du, .dsq, .za, .ds] t)

/-! ## Drive lines -/

/-- STAGGER_EXPIRY (R82 to R84): with a request waiting, room in the budget and the stagger gap passed, the head
of the grant list is granted: its line ENERGIZED to this moment plus its width, the last grant now; with no
room or no gap nothing is granted. While a command of this moment that may ask for a line or cancel a request still
waits, nothing is granted either, so that requests of one moment all join, and a cancel of that moment acts, before any
grant (R83, R88); that these are the commands of the queue is the model's choice (notes/assumptions/6.md). The head waits, and is of the first class of SOUNDER, BELL, CLOCK that
waits. -/
def Obligations.ArbiterGrantsTheHead : Prop :=
  ∀ (l : LineId) (rest : List LineId) (q : EnergizeRequest) (s : State), s.up = true →
    s.grantList = l :: rest → (s.line l).request = some q →
    ((s.line l).state = .waiting ∧ ∀ (m : LineId) (p : EnergizeRequest), m ∈ rest →
      (s.line m).request = some p → q.cls.rank ≤ p.cls.rank) ∧
    (s.allJoined = true → s.energizedCount < s.dsq.budget →
      (∀ g, s.dsq.lastGrant = some g → g + s.dsq.stagger ≤ s.now) →
      ∃ t, exec .staggerExpiry s = .next t ∧ (t.line l).state = .energized ∧
        (t.line l).energizeEnd = some (s.now + q.width) ∧ t.dsq.lastGrant = some s.now ∧
        s.keepsAllBut [.ylc, .dsq, .du, .za] t) ∧
    (s.allJoined = false ∨ s.dsq.budget ≤ s.energizedCount ∨
        (∃ g, s.dsq.lastGrant = some g ∧ s.now < g + s.dsq.stagger) →
      ∃ t, exec .staggerExpiry s = .next t ∧ s.keepsAllBut [.ylc, .za] t)

/-- WIDTH_EXPIRY of a player's on-phase with more to come (R84, R87): the line OFF, the player in GAP until the
gap after that on-phase is over; of the last on-phase of a bell (R87, R114): the line OFF, the player idle and the zone
of the bell, with no bell deferred, IDLE and nothing missed; a bell cut short before leaves the cut-bell record and, if
it is the deferred one, the deferred slot, and nothing else changes at the zone; GAP_EXPIRY in RUNNING with the line OFF: the next on-phase is requested, its
age the gap's expiry. CHIME_WIDTH_EXPIRY and CHIME_GAP_EXPIRY (R90, R154): an on-phase that ends turns its
ENERGIZED lines OFF and starts the gap, or at the last takes a CHIMING record LIVE with MIC-LIVE on and the
player to idle; a gap that ends turns the lines taken that are OFF on for the next on-phase. -/
def Obligations.PlayersGoOnWithTheirPatterns : Prop :=
  ∀ (l : LineId) (phase ends : Nat) (mask : LineMask) (s : State), s.up = true →
    (∀ q, (s.line l).state = .energized → reached (s.line l).energizeEnd s.now = true →
      (s.line l).request = some q → q.requester = .player → s.dsq.playerLast (s.line l).player = false →
      exec (.widthExpiry l) s = .next (endOfStep
        { s with
          dsq := { s.dsq with
            lines := s.dsq.lines.set l { s.dsq.lines[l] with
              state := .off
              request := none
              energizeEnd := none
              player := { (s.line l).player with
                state := .gap (s.now + s.dsq.playerGap (s.line l).player) } } } })) ∧
    (∀ (q : EnergizeRequest) (z : ZoneId), (s.line l).state = .energized →
      reached (s.line l).energizeEnd s.now = true → (s.line l).request = some q → q.requester = .player →
      s.dsq.playerLast (s.line l).player = true → s.bellZone l = some z →
      let off : LineRecord :=
        { s.line l with
          state := .off
          request := none
          energizeEnd := none
          player := { (s.line l).player with state := .idle } }
      (∀ b, (s.zone z).owner = some (.bell b) → (s.zone z).lawful = true → (s.zone z).deferred = none →
        ∃ t, exec (.widthExpiry l) s = .next t ∧ t.line l = off ∧ (t.zone z).owner = none ∧
          (t.zone z).stack = [] ∧ t.bs = s.bs ∧ s.keepsAllBut [.ylc, .dsq, .du, .za] t) ∧
      (∀ b, (∀ d, (s.zone z).owner ≠ some (.bell d)) → (s.zone z).cutBell = some b →
        exec (.widthExpiry l) s = .next (endOfStep
          { s with
            dsq := { s.dsq with lines := s.dsq.lines.set l off }
            za := { s.za with
              zones := s.za.zones.set z { s.za.zones[z] with
                cutBell := none
                deferred :=
                  if (s.zone z).deferred = some b then none else (s.zone z).deferred } } }))) ∧
    ((s.line l).player.state = .gap ends → ends ≤ s.now → s.running = true → (s.line l).state = .off →
      let p : Player := { (s.line l).player with phase := (s.line l).player.phase + 1 }
      exec (.gapExpiry l) s = .next (endOfStep
        { s with
          dsq := { s.dsq with
            lines := s.dsq.lines.set l { s.dsq.lines[l] with
              state := .waiting
              request := some
                { cls := if p.pattern.isSome then .bell else .sounder
                  width := s.dsq.playerWidth p
                  polarity := .pos
                  requester := .player
                  age := ends }
              player := { p with state := .onWait } } } })) ∧
    (s.dsq.chime = .on phase mask ends → ends ≤ s.now → ∃ t, exec .chimeWidthExpiry s = .next t ∧
      (∀ m, inLines mask m = true → (s.line m).state = .energized → (t.line m).state = .off) ∧
      (phase + 1 < s.dsq.chimePattern.phases →
        t.dsq.chime = .gap phase mask (s.now + s.dsq.chimePattern.gap) ∧ t.fu = s.fu) ∧
      (s.dsq.chimePattern.phases ≤ phase + 1 → t.dsq.chime = .idle ∧
        (∀ o, s.fu.own = some o → o.phase = .chiming →
          t.fu = { s.fu with own := some { o with phase := .live }, micLive := true }))) ∧
    (s.dsq.chime = .gap phase mask ends → ends ≤ s.now → ∃ t, exec .chimeGapExpiry s = .next t ∧
      (∀ m, inLines mask m = true → (s.line m).state = .off → (t.line m).state = .energized) ∧
      t.dsq.chime = .on (phase + 1) mask (s.now +
        (if s.dsq.chimePattern.w2 = 0 ∨ (phase + 1) % 2 = 0 then s.dsq.chimePattern.w1
        else s.dsq.chimePattern.w2)) ∧ t.fu = s.fu)

/-- OVERCURRENT of an ENERGIZED line (R91, R69): the line FAULT-DISABLED at once with class SHORT, a SHORT sample
run of length 2, no request and its player idle; an impulse is aborted: its slot's impulse is gone, its polarity
stands, and its dial stands but for a pending set; a PAGE line of a paged zone is no longer on there. The premise is
the invariant that a request of a dial slot stands at the line bound to that slot (R81), which every step keeps. -/
def Obligations.OvercurrentDisablesTheLine : Prop :=
  ∀ (l : LineId) (s : State), s.up = true → s.requestsBound = true → (s.line l).state = .energized →
    ∃ t, exec (.overcurrent l) s = .next t ∧
      t.line l = { s.line l with
        state := .faultDisabled
        cls := .shorted
        sampleResult := some .shorted
        sampleRun := 2
        request := none
        energizeEnd := none
        player := { (s.line l).player with state := .idle } } ∧
      (∀ (q : EnergizeRequest) (i : SlotId), (s.line l).kind = .clock → (s.line l).request = some q →
        q.requester = .dial i → (s.slot i).line = some l →
        (t.slot i).impulse = .none ∧ (t.slot i).polarity = (s.slot i).polarity ∧
        (t.slot i).dial = ((s.slot i).pendingSet.orElse fun _ => (s.slot i).dial)) ∧
      (∀ z, (s.line l).kind = .page → s.pageZone l = some z → (s.zone z).level.isPage = true →
        (t.zone z).pageOn = false) ∧
      s.keepsAllBut [.ylc, .dsq, .du, .za, .bs, .ds] t

/-- SUPERVISION_SLOT at its time, in LISTENING or RUNNING (R93 to R96): the next slot 250 ms on; the line picked
is the locked line unless it is ENERGIZED, or in round-robin the first after the pointer in table order, or of the whole
table where there is no pointer, that is of kind BELL, SOUNDER or CLOCK, not ENERGIZED and not excluded, the pointer then
at its position; none is picked only where none is eligible, the pointer standing; its sample run takes the reading, and at length 2
its class is the reading's; no other line's class or run changes. -/
def Obligations.SupervisionSamplesALine : Prop :=
  ∀ (x : SenseResult) (due : Nat) (s : State), s.up = true → s.taking = true →
    s.dsq.nextSlot = some due → due ≤ s.now →
    ∃ (t : State) (pick : Option LineId), exec (.supervisionSlot x) s = .next t ∧
      t.dsq.nextSlot = some (due + 250) ∧ t.dsq.locked = s.dsq.locked ∧
      (∀ m, s.dsq.locked = some m → t.dsq.pointer = s.dsq.pointer ∧
        pick = if (s.line m).state = .energized then none else some m) ∧
      (s.dsq.locked = none →
        let eligible (p : Fin 16) : Prop :=
          (s.line s.dsq.scanOrder[p]).kind.counted = true ∧
          (s.line s.dsq.scanOrder[p]).state ≠ .energized ∧
          inLines s.dsq.exclusion s.dsq.scanOrder[p] = false
        (pick = none → t.dsq.pointer = s.dsq.pointer ∧ ∀ p, ¬eligible p) ∧
        ∀ l, pick = some l → ∃ p : Fin 16, t.dsq.pointer = some p ∧ s.dsq.scanOrder[p] = l ∧ eligible p ∧
          (s.dsq.pointer = none → ∀ p', p' < p → ¬eligible p') ∧
          ∀ (o p' : Fin 16), s.dsq.pointer = some o → p' - o - 1 < p - o - 1 → ¬eligible p') ∧
      (∀ l, pick = some l → (t.line l).sampleResult = some x ∧
        ((s.line l).sampleResult = some x → 1 ≤ (s.line l).sampleRun →
          (t.line l).sampleRun = 2 ∧ (t.line l).cls = classOfSense x) ∧
        ((s.line l).sampleResult ≠ some x →
          (t.line l).sampleRun = 1 ∧ (t.line l).cls = (s.line l).cls)) ∧
      (∀ l, pick ≠ some l → (t.line l).cls = (s.line l).cls ∧
        (t.line l).sampleResult = (s.line l).sampleResult ∧
        (t.line l).sampleRun = (s.line l).sampleRun)

/-! ## Bells -/

/-- ENTRY_DUE with the next entry reached, where the scheduler examines (R131, R136): within the late limit its
mark is TAKEN and its list index in the taken set; later its mark is PASSED; no plan, list, shift or override
changes, no mark but an OPEN one changes, and no index leaves the taken set. With no other entry due: a late one raises
the bells-missed count by the number of its zones, holding at 65,535; one in time is requested of each zone of its mask
(R104, R105): an IDLE zone that can ring takes the bell; at a page or drill level it is deferred, whatever bell was; at
BELL nothing changes; and the count rises by one for each zone that refuses: at YIELD, with no bell line or a faulted
one, or while the station does not run. -/
def Obligations.DueEntryIsTakenOrPassed : Prop :=
  ∀ (day i x : Nat) (due : Int) (s : State), s.up = true → s.examines = true →
    s.bs.planDay = some day → s.bs.next = some (i, due) → s.school = some x → due ≤ (x : Int) →
    ∃ t, exec .entryDue s = .next t ∧
      ((x : Int) - due ≤ s.bs.lateLimit * 1000 →
        t.bs.markAt i = .taken ∧ s.bs.window.base + i ∈ t.bs.taken) ∧
      ((s.bs.lateLimit : Int) * 1000 < (x : Int) - due → t.bs.markAt i = .passed) ∧
      t.bs.planDay = s.bs.planDay ∧ t.bs.activePlan = s.bs.activePlan ∧
      t.bs.shifts = s.bs.shifts ∧ t.bs.overrides = s.bs.overrides ∧
      (∀ j ∈ s.bs.taken, j ∈ t.bs.taken) ∧
      (∀ j, s.bs.markAt j ≠ .opened → t.bs.markAt j = s.bs.markAt j) ∧
      ((∀ j, j ≠ i → s.bs.markAt j = .opened → s.bs.cancelled j = false →
          (x : Int) < s.bs.effectiveFull day j) → s.bs.missed ≤ 65535 →
        let e := s.bs.entryAt (s.bs.window.base + i)
        let bell : Bell := { day, index := i, effective := due, pattern := e.pattern }
        let rings (z : ZoneId) : Bool :=
          s.running && (s.zone z).bellLine.any fun l => !(s.line l).cls.faulted
        ((s.bs.lateLimit : Int) * 1000 < (x : Int) - due →
          t.bs.missed = min 65535 (s.bs.missed + zoneCount e.zones)) ∧
        ((x : Int) - due ≤ s.bs.lateLimit * 1000 →
          (∀ z : ZoneId, inZones e.zones z = true → rings z = true →
            ((s.zone z).owner = none → (t.zone z).owner = some (.bell bell)) ∧
            ((∃ b, (s.zone z).owner = some (.bell b)) →
              (t.zone z).owner = (s.zone z).owner ∧ (t.zone z).deferred = (s.zone z).deferred) ∧
            ((s.zone z).level.isPage = true ∨ (s.zone z).level = .drill →
              (t.zone z).owner = (s.zone z).owner ∧ (t.zone z).stack = (s.zone z).stack ∧
              (t.zone z).deferred = some bell)) ∧
          t.bs.missed = min 65535 (s.bs.missed + ((zonesOf e.zones).filter fun z =>
            !rings z || (s.zone z).level == .yield).length))) ∧
      s.keepsAllBut [.ylc, .bs, .za, .dsq, .du] t

/-! ## The dial store -/

/-- WRITE_COMPLETE at its time (R186 to R189): the slot at the write position holds the snapshot and its CRC-8,
the position goes on, and the last sequence and time are the snapshot's; a page now full starts the erase of
60 ms, else a pending request starts a write of 5 ms of the values of now, in which a slot with no bound line is UNSET
but in CONFIG-FAULT as it stands (R76). ERASE_COMPLETE at its time: the other
page is blank and current, its next slot 0, the page that was current keeps its snapshots, and a pending request
starts a write. -/
def Obligations.StoreWritesAndErases : Prop :=
  ∀ (ends : Nat) (s : State), s.up = true → ends ≤ s.now →
    let fresh (sequence : Nat) : Activity :=
      .writing
        { sequence
          time := s.school.map fun x => (x / 86400000, x % 86400000 / 60000)
          dials := s.du.slots.map fun d =>
            { dial := if d.line ≠ none ∨ s.sp.config = .configFault then d.dial else none
              polarity := d.polarity } } (s.now + 5)
    (∀ (p : Snapshot) (_ : s.ds.next < 32), s.ds.activity = .writing p ends →
      ∃ t, exec .writeComplete s = .next t ∧
        (t.ds.pages[s.ds.page])[s.ds.next] = .programmed p (crc8 p.bytes) ∧
        (∀ (g : Fin 2) (i : Fin 32), (g, i.val) ≠ (s.ds.page, s.ds.next) →
          (t.ds.pages[g])[i] = (s.ds.pages[g])[i]) ∧
        t.ds.page = s.ds.page ∧ t.ds.next = s.ds.next + 1 ∧ t.ds.lastSequence = some p.sequence ∧
        t.ds.lastTime = some p.time ∧
        (s.ds.next = 31 → t.ds.activity = .erasing (s.now + 60) ∧
          t.ds.pendingSnapshot = s.ds.pendingSnapshot) ∧
        (s.ds.next < 31 → s.ds.pendingSnapshot = false → t.ds.activity = .idle) ∧
        (s.ds.next < 31 → s.ds.pendingSnapshot = true → t.ds.pendingSnapshot = false ∧
          t.ds.activity = fresh ((p.sequence + 1) % 65536)) ∧
        s.keepsAllBut [.ds] t) ∧
    (∀ other : Fin 2, s.ds.activity = .erasing ends → other ≠ s.ds.page →
      ∃ t, exec .eraseComplete s = .next t ∧ t.ds.page = other ∧ t.ds.next = 0 ∧
        (∀ i : Fin 32, (t.ds.pages[other])[i] = .blank) ∧
        t.ds.pages[s.ds.page] = s.ds.pages[s.ds.page] ∧
        (s.ds.pendingSnapshot = false → t.ds.activity = .idle) ∧
        (s.ds.pendingSnapshot = true → t.ds.pendingSnapshot = false ∧
          t.ds.activity = fresh s.ds.nextSequence) ∧
        s.keepsAllBut [.ds] t)
end

