-- ==== Sys2Proof/Laws/State.lean ====
section
/-! SUPPORT. What each write of one part of the state leaves of every part and of every reading of it, so that
no proof unfolds a record update: one lemma for each field and each write. -/

namespace Sys2Proof.Machine

/-! ## `State.setLine` -/

@[simp] theorem State.setLine_powered (s : State) (l : LineId) (r : LineRecord) :
    (s.setLine l r).powered = s.powered := rfl

@[simp] theorem State.setLine_rst (s : State) (l : LineId) (r : LineRecord) :
    (s.setLine l r).rst = s.rst := rfl

@[simp] theorem State.setLine_tb (s : State) (l : LineId) (r : LineRecord) :
    (s.setLine l r).tb = s.tb := rfl

@[simp] theorem State.setLine_ylc (s : State) (l : LineId) (r : LineRecord) :
    (s.setLine l r).ylc = s.ylc := rfl

@[simp] theorem State.setLine_pt (s : State) (l : LineId) (r : LineRecord) :
    (s.setLine l r).pt = s.pt := rfl

@[simp] theorem State.setLine_du (s : State) (l : LineId) (r : LineRecord) :
    (s.setLine l r).du = s.du := rfl

@[simp] theorem State.setLine_za (s : State) (l : LineId) (r : LineRecord) :
    (s.setLine l r).za = s.za := rfl

@[simp] theorem State.setLine_bs (s : State) (l : LineId) (r : LineRecord) :
    (s.setLine l r).bs = s.bs := rfl

@[simp] theorem State.setLine_fu (s : State) (l : LineId) (r : LineRecord) :
    (s.setLine l r).fu = s.fu := rfl

@[simp] theorem State.setLine_dru (s : State) (l : LineId) (r : LineRecord) :
    (s.setLine l r).dru = s.dru := rfl

@[simp] theorem State.setLine_ds (s : State) (l : LineId) (r : LineRecord) :
    (s.setLine l r).ds = s.ds := rfl

@[simp] theorem State.setLine_sp (s : State) (l : LineId) (r : LineRecord) :
    (s.setLine l r).sp = s.sp := rfl

@[simp] theorem State.setLine_pending (s : State) (l : LineId) (r : LineRecord) :
    (s.setLine l r).pending = s.pending := rfl

@[simp] theorem State.setLine_up (s : State) (l : LineId) (r : LineRecord) :
    (s.setLine l r).up = s.up := rfl

@[simp] theorem State.setLine_running (s : State) (l : LineId) (r : LineRecord) :
    (s.setLine l r).running = s.running := rfl

@[simp] theorem State.setLine_listening (s : State) (l : LineId) (r : LineRecord) :
    (s.setLine l r).listening = s.listening := rfl

@[simp] theorem State.setLine_taking (s : State) (l : LineId) (r : LineRecord) :
    (s.setLine l r).taking = s.taking := rfl

@[simp] theorem State.setLine_loading (s : State) (l : LineId) (r : LineRecord) :
    (s.setLine l r).loading = s.loading := rfl

@[simp] theorem State.setLine_loaded (s : State) (l : LineId) (r : LineRecord) :
    (s.setLine l r).loaded = s.loaded := rfl

@[simp] theorem State.setLine_faultValid (s : State) (l : LineId) (r : LineRecord) :
    (s.setLine l r).faultValid = s.faultValid := rfl

@[simp] theorem State.setLine_delivers (s : State) (l : LineId) (r : LineRecord) :
    (s.setLine l r).delivers = s.delivers := rfl

@[simp] theorem State.setLine_now (s : State) (l : LineId) (r : LineRecord) :
    (s.setLine l r).now = s.now := rfl

@[simp] theorem State.setLine_school (s : State) (l : LineId) (r : LineRecord) :
    (s.setLine l r).school = s.school := rfl

@[simp] theorem State.setLine_own (s : State) (l : LineId) (r : LineRecord) :
    (s.setLine l r).own = s.own := rfl

@[simp] theorem State.setLine_zone (s : State) (l : LineId) (r : LineRecord) (m : ZoneId) :
    (s.setLine l r).zone m = s.zone m := rfl

@[simp] theorem State.setLine_slot (s : State) (l : LineId) (r : LineRecord) (m : SlotId) :
    (s.setLine l r).slot m = s.slot m := rfl

@[simp] theorem State.setLine_peer (s : State) (l : LineId) (r : LineRecord) (m : Station) :
    (s.setLine l r).peer m = s.peer m := rfl

@[simp] theorem State.setLine_key (s : State) (l : LineId) (r : LineRecord) (m : KeyId) :
    (s.setLine l r).key m = s.key m := rfl

/-! ## `State.setZone` -/

@[simp] theorem State.setZone_powered (s : State) (z : ZoneId) (r : Zone) :
    (s.setZone z r).powered = s.powered := rfl

@[simp] theorem State.setZone_rst (s : State) (z : ZoneId) (r : Zone) :
    (s.setZone z r).rst = s.rst := rfl

@[simp] theorem State.setZone_tb (s : State) (z : ZoneId) (r : Zone) :
    (s.setZone z r).tb = s.tb := rfl

@[simp] theorem State.setZone_ylc (s : State) (z : ZoneId) (r : Zone) :
    (s.setZone z r).ylc = s.ylc := rfl

@[simp] theorem State.setZone_pt (s : State) (z : ZoneId) (r : Zone) :
    (s.setZone z r).pt = s.pt := rfl

@[simp] theorem State.setZone_du (s : State) (z : ZoneId) (r : Zone) :
    (s.setZone z r).du = s.du := rfl

@[simp] theorem State.setZone_dsq (s : State) (z : ZoneId) (r : Zone) :
    (s.setZone z r).dsq = s.dsq := rfl

@[simp] theorem State.setZone_bs (s : State) (z : ZoneId) (r : Zone) :
    (s.setZone z r).bs = s.bs := rfl

@[simp] theorem State.setZone_fu (s : State) (z : ZoneId) (r : Zone) :
    (s.setZone z r).fu = s.fu := rfl

@[simp] theorem State.setZone_dru (s : State) (z : ZoneId) (r : Zone) :
    (s.setZone z r).dru = s.dru := rfl

@[simp] theorem State.setZone_ds (s : State) (z : ZoneId) (r : Zone) :
    (s.setZone z r).ds = s.ds := rfl

@[simp] theorem State.setZone_sp (s : State) (z : ZoneId) (r : Zone) :
    (s.setZone z r).sp = s.sp := rfl

@[simp] theorem State.setZone_pending (s : State) (z : ZoneId) (r : Zone) :
    (s.setZone z r).pending = s.pending := rfl

@[simp] theorem State.setZone_up (s : State) (z : ZoneId) (r : Zone) :
    (s.setZone z r).up = s.up := rfl

@[simp] theorem State.setZone_running (s : State) (z : ZoneId) (r : Zone) :
    (s.setZone z r).running = s.running := rfl

@[simp] theorem State.setZone_listening (s : State) (z : ZoneId) (r : Zone) :
    (s.setZone z r).listening = s.listening := rfl

@[simp] theorem State.setZone_taking (s : State) (z : ZoneId) (r : Zone) :
    (s.setZone z r).taking = s.taking := rfl

@[simp] theorem State.setZone_loading (s : State) (z : ZoneId) (r : Zone) :
    (s.setZone z r).loading = s.loading := rfl

@[simp] theorem State.setZone_loaded (s : State) (z : ZoneId) (r : Zone) :
    (s.setZone z r).loaded = s.loaded := rfl

@[simp] theorem State.setZone_faultValid (s : State) (z : ZoneId) (r : Zone) :
    (s.setZone z r).faultValid = s.faultValid := rfl

@[simp] theorem State.setZone_delivers (s : State) (z : ZoneId) (r : Zone) :
    (s.setZone z r).delivers = s.delivers := rfl

@[simp] theorem State.setZone_now (s : State) (z : ZoneId) (r : Zone) :
    (s.setZone z r).now = s.now := rfl

@[simp] theorem State.setZone_school (s : State) (z : ZoneId) (r : Zone) :
    (s.setZone z r).school = s.school := rfl

@[simp] theorem State.setZone_own (s : State) (z : ZoneId) (r : Zone) :
    (s.setZone z r).own = s.own := rfl

@[simp] theorem State.setZone_line (s : State) (z : ZoneId) (r : Zone) (m : LineId) :
    (s.setZone z r).line m = s.line m := rfl

@[simp] theorem State.setZone_slot (s : State) (z : ZoneId) (r : Zone) (m : SlotId) :
    (s.setZone z r).slot m = s.slot m := rfl

@[simp] theorem State.setZone_peer (s : State) (z : ZoneId) (r : Zone) (m : Station) :
    (s.setZone z r).peer m = s.peer m := rfl

@[simp] theorem State.setZone_key (s : State) (z : ZoneId) (r : Zone) (m : KeyId) :
    (s.setZone z r).key m = s.key m := rfl

/-! ## `State.setSlot` -/

@[simp] theorem State.setSlot_powered (s : State) (i : SlotId) (r : DialSlot) :
    (s.setSlot i r).powered = s.powered := rfl

@[simp] theorem State.setSlot_rst (s : State) (i : SlotId) (r : DialSlot) :
    (s.setSlot i r).rst = s.rst := rfl

@[simp] theorem State.setSlot_tb (s : State) (i : SlotId) (r : DialSlot) :
    (s.setSlot i r).tb = s.tb := rfl

@[simp] theorem State.setSlot_ylc (s : State) (i : SlotId) (r : DialSlot) :
    (s.setSlot i r).ylc = s.ylc := rfl

@[simp] theorem State.setSlot_pt (s : State) (i : SlotId) (r : DialSlot) :
    (s.setSlot i r).pt = s.pt := rfl

@[simp] theorem State.setSlot_dsq (s : State) (i : SlotId) (r : DialSlot) :
    (s.setSlot i r).dsq = s.dsq := rfl

@[simp] theorem State.setSlot_za (s : State) (i : SlotId) (r : DialSlot) :
    (s.setSlot i r).za = s.za := rfl

@[simp] theorem State.setSlot_bs (s : State) (i : SlotId) (r : DialSlot) :
    (s.setSlot i r).bs = s.bs := rfl

@[simp] theorem State.setSlot_fu (s : State) (i : SlotId) (r : DialSlot) :
    (s.setSlot i r).fu = s.fu := rfl

@[simp] theorem State.setSlot_dru (s : State) (i : SlotId) (r : DialSlot) :
    (s.setSlot i r).dru = s.dru := rfl

@[simp] theorem State.setSlot_ds (s : State) (i : SlotId) (r : DialSlot) :
    (s.setSlot i r).ds = s.ds := rfl

@[simp] theorem State.setSlot_sp (s : State) (i : SlotId) (r : DialSlot) :
    (s.setSlot i r).sp = s.sp := rfl

@[simp] theorem State.setSlot_pending (s : State) (i : SlotId) (r : DialSlot) :
    (s.setSlot i r).pending = s.pending := rfl

@[simp] theorem State.setSlot_up (s : State) (i : SlotId) (r : DialSlot) :
    (s.setSlot i r).up = s.up := rfl

@[simp] theorem State.setSlot_running (s : State) (i : SlotId) (r : DialSlot) :
    (s.setSlot i r).running = s.running := rfl

@[simp] theorem State.setSlot_listening (s : State) (i : SlotId) (r : DialSlot) :
    (s.setSlot i r).listening = s.listening := rfl

@[simp] theorem State.setSlot_taking (s : State) (i : SlotId) (r : DialSlot) :
    (s.setSlot i r).taking = s.taking := rfl

@[simp] theorem State.setSlot_loading (s : State) (i : SlotId) (r : DialSlot) :
    (s.setSlot i r).loading = s.loading := rfl

@[simp] theorem State.setSlot_loaded (s : State) (i : SlotId) (r : DialSlot) :
    (s.setSlot i r).loaded = s.loaded := rfl

@[simp] theorem State.setSlot_faultValid (s : State) (i : SlotId) (r : DialSlot) :
    (s.setSlot i r).faultValid = s.faultValid := rfl

@[simp] theorem State.setSlot_delivers (s : State) (i : SlotId) (r : DialSlot) :
    (s.setSlot i r).delivers = s.delivers := rfl

@[simp] theorem State.setSlot_now (s : State) (i : SlotId) (r : DialSlot) :
    (s.setSlot i r).now = s.now := rfl

@[simp] theorem State.setSlot_school (s : State) (i : SlotId) (r : DialSlot) :
    (s.setSlot i r).school = s.school := rfl

@[simp] theorem State.setSlot_own (s : State) (i : SlotId) (r : DialSlot) :
    (s.setSlot i r).own = s.own := rfl

@[simp] theorem State.setSlot_line (s : State) (i : SlotId) (r : DialSlot) (m : LineId) :
    (s.setSlot i r).line m = s.line m := rfl

@[simp] theorem State.setSlot_zone (s : State) (i : SlotId) (r : DialSlot) (m : ZoneId) :
    (s.setSlot i r).zone m = s.zone m := rfl

@[simp] theorem State.setSlot_peer (s : State) (i : SlotId) (r : DialSlot) (m : Station) :
    (s.setSlot i r).peer m = s.peer m := rfl

@[simp] theorem State.setSlot_key (s : State) (i : SlotId) (r : DialSlot) (m : KeyId) :
    (s.setSlot i r).key m = s.key m := rfl

/-! ## `State.setPeer` -/

@[simp] theorem State.setPeer_powered (s : State) (n : Station) (e : PeerEntry) :
    (s.setPeer n e).powered = s.powered := rfl

@[simp] theorem State.setPeer_rst (s : State) (n : Station) (e : PeerEntry) :
    (s.setPeer n e).rst = s.rst := rfl

@[simp] theorem State.setPeer_tb (s : State) (n : Station) (e : PeerEntry) :
    (s.setPeer n e).tb = s.tb := rfl

@[simp] theorem State.setPeer_ylc (s : State) (n : Station) (e : PeerEntry) :
    (s.setPeer n e).ylc = s.ylc := rfl

@[simp] theorem State.setPeer_du (s : State) (n : Station) (e : PeerEntry) :
    (s.setPeer n e).du = s.du := rfl

@[simp] theorem State.setPeer_dsq (s : State) (n : Station) (e : PeerEntry) :
    (s.setPeer n e).dsq = s.dsq := rfl

@[simp] theorem State.setPeer_za (s : State) (n : Station) (e : PeerEntry) :
    (s.setPeer n e).za = s.za := rfl

@[simp] theorem State.setPeer_bs (s : State) (n : Station) (e : PeerEntry) :
    (s.setPeer n e).bs = s.bs := rfl

@[simp] theorem State.setPeer_fu (s : State) (n : Station) (e : PeerEntry) :
    (s.setPeer n e).fu = s.fu := rfl

@[simp] theorem State.setPeer_dru (s : State) (n : Station) (e : PeerEntry) :
    (s.setPeer n e).dru = s.dru := rfl

@[simp] theorem State.setPeer_ds (s : State) (n : Station) (e : PeerEntry) :
    (s.setPeer n e).ds = s.ds := rfl

@[simp] theorem State.setPeer_sp (s : State) (n : Station) (e : PeerEntry) :
    (s.setPeer n e).sp = s.sp := rfl

@[simp] theorem State.setPeer_pending (s : State) (n : Station) (e : PeerEntry) :
    (s.setPeer n e).pending = s.pending := rfl

@[simp] theorem State.setPeer_up (s : State) (n : Station) (e : PeerEntry) :
    (s.setPeer n e).up = s.up := rfl

@[simp] theorem State.setPeer_running (s : State) (n : Station) (e : PeerEntry) :
    (s.setPeer n e).running = s.running := rfl

@[simp] theorem State.setPeer_listening (s : State) (n : Station) (e : PeerEntry) :
    (s.setPeer n e).listening = s.listening := rfl

@[simp] theorem State.setPeer_taking (s : State) (n : Station) (e : PeerEntry) :
    (s.setPeer n e).taking = s.taking := rfl

@[simp] theorem State.setPeer_loading (s : State) (n : Station) (e : PeerEntry) :
    (s.setPeer n e).loading = s.loading := rfl

@[simp] theorem State.setPeer_loaded (s : State) (n : Station) (e : PeerEntry) :
    (s.setPeer n e).loaded = s.loaded := rfl

@[simp] theorem State.setPeer_faultValid (s : State) (n : Station) (e : PeerEntry) :
    (s.setPeer n e).faultValid = s.faultValid := rfl

@[simp] theorem State.setPeer_delivers (s : State) (n : Station) (e : PeerEntry) :
    (s.setPeer n e).delivers = s.delivers := rfl

@[simp] theorem State.setPeer_now (s : State) (n : Station) (e : PeerEntry) :
    (s.setPeer n e).now = s.now := rfl

@[simp] theorem State.setPeer_school (s : State) (n : Station) (e : PeerEntry) :
    (s.setPeer n e).school = s.school := rfl

@[simp] theorem State.setPeer_own (s : State) (n : Station) (e : PeerEntry) :
    (s.setPeer n e).own = s.own := rfl

@[simp] theorem State.setPeer_line (s : State) (n : Station) (e : PeerEntry) (m : LineId) :
    (s.setPeer n e).line m = s.line m := rfl

@[simp] theorem State.setPeer_zone (s : State) (n : Station) (e : PeerEntry) (m : ZoneId) :
    (s.setPeer n e).zone m = s.zone m := rfl

@[simp] theorem State.setPeer_slot (s : State) (n : Station) (e : PeerEntry) (m : SlotId) :
    (s.setPeer n e).slot m = s.slot m := rfl

@[simp] theorem State.setPeer_key (s : State) (n : Station) (e : PeerEntry) (m : KeyId) :
    (s.setPeer n e).key m = s.key m := rfl

/-! ## `State.setKey` -/

@[simp] theorem State.setKey_powered (s : State) (k : KeyId) (i : KeyInput) :
    (s.setKey k i).powered = s.powered := rfl

@[simp] theorem State.setKey_rst (s : State) (k : KeyId) (i : KeyInput) :
    (s.setKey k i).rst = s.rst := rfl

@[simp] theorem State.setKey_tb (s : State) (k : KeyId) (i : KeyInput) :
    (s.setKey k i).tb = s.tb := rfl

@[simp] theorem State.setKey_ylc (s : State) (k : KeyId) (i : KeyInput) :
    (s.setKey k i).ylc = s.ylc := rfl

@[simp] theorem State.setKey_pt (s : State) (k : KeyId) (i : KeyInput) :
    (s.setKey k i).pt = s.pt := rfl

@[simp] theorem State.setKey_du (s : State) (k : KeyId) (i : KeyInput) :
    (s.setKey k i).du = s.du := rfl

@[simp] theorem State.setKey_dsq (s : State) (k : KeyId) (i : KeyInput) :
    (s.setKey k i).dsq = s.dsq := rfl

@[simp] theorem State.setKey_za (s : State) (k : KeyId) (i : KeyInput) :
    (s.setKey k i).za = s.za := rfl

@[simp] theorem State.setKey_bs (s : State) (k : KeyId) (i : KeyInput) :
    (s.setKey k i).bs = s.bs := rfl

@[simp] theorem State.setKey_dru (s : State) (k : KeyId) (i : KeyInput) :
    (s.setKey k i).dru = s.dru := rfl

@[simp] theorem State.setKey_ds (s : State) (k : KeyId) (i : KeyInput) :
    (s.setKey k i).ds = s.ds := rfl

@[simp] theorem State.setKey_sp (s : State) (k : KeyId) (i : KeyInput) :
    (s.setKey k i).sp = s.sp := rfl

@[simp] theorem State.setKey_pending (s : State) (k : KeyId) (i : KeyInput) :
    (s.setKey k i).pending = s.pending := rfl

@[simp] theorem State.setKey_up (s : State) (k : KeyId) (i : KeyInput) :
    (s.setKey k i).up = s.up := rfl

@[simp] theorem State.setKey_running (s : State) (k : KeyId) (i : KeyInput) :
    (s.setKey k i).running = s.running := rfl

@[simp] theorem State.setKey_listening (s : State) (k : KeyId) (i : KeyInput) :
    (s.setKey k i).listening = s.listening := rfl

@[simp] theorem State.setKey_taking (s : State) (k : KeyId) (i : KeyInput) :
    (s.setKey k i).taking = s.taking := rfl

@[simp] theorem State.setKey_loading (s : State) (k : KeyId) (i : KeyInput) :
    (s.setKey k i).loading = s.loading := rfl

@[simp] theorem State.setKey_loaded (s : State) (k : KeyId) (i : KeyInput) :
    (s.setKey k i).loaded = s.loaded := rfl

@[simp] theorem State.setKey_faultValid (s : State) (k : KeyId) (i : KeyInput) :
    (s.setKey k i).faultValid = s.faultValid := rfl

@[simp] theorem State.setKey_delivers (s : State) (k : KeyId) (i : KeyInput) :
    (s.setKey k i).delivers = s.delivers := rfl

@[simp] theorem State.setKey_now (s : State) (k : KeyId) (i : KeyInput) :
    (s.setKey k i).now = s.now := rfl

@[simp] theorem State.setKey_school (s : State) (k : KeyId) (i : KeyInput) :
    (s.setKey k i).school = s.school := rfl

@[simp] theorem State.setKey_own (s : State) (k : KeyId) (i : KeyInput) :
    (s.setKey k i).own = s.own := rfl

@[simp] theorem State.setKey_line (s : State) (k : KeyId) (i : KeyInput) (m : LineId) :
    (s.setKey k i).line m = s.line m := rfl

@[simp] theorem State.setKey_zone (s : State) (k : KeyId) (i : KeyInput) (m : ZoneId) :
    (s.setKey k i).zone m = s.zone m := rfl

@[simp] theorem State.setKey_slot (s : State) (k : KeyId) (i : KeyInput) (m : SlotId) :
    (s.setKey k i).slot m = s.slot m := rfl

@[simp] theorem State.setKey_peer (s : State) (k : KeyId) (i : KeyInput) (m : Station) :
    (s.setKey k i).peer m = s.peer m := rfl

/-! ## `State.setChime` -/

@[simp] theorem State.setChime_powered (s : State) (c : ChimePlayer) :
    (s.setChime c).powered = s.powered := rfl

@[simp] theorem State.setChime_rst (s : State) (c : ChimePlayer) :
    (s.setChime c).rst = s.rst := rfl

@[simp] theorem State.setChime_tb (s : State) (c : ChimePlayer) :
    (s.setChime c).tb = s.tb := rfl

@[simp] theorem State.setChime_ylc (s : State) (c : ChimePlayer) :
    (s.setChime c).ylc = s.ylc := rfl

@[simp] theorem State.setChime_pt (s : State) (c : ChimePlayer) :
    (s.setChime c).pt = s.pt := rfl

@[simp] theorem State.setChime_du (s : State) (c : ChimePlayer) :
    (s.setChime c).du = s.du := rfl

@[simp] theorem State.setChime_za (s : State) (c : ChimePlayer) :
    (s.setChime c).za = s.za := rfl

@[simp] theorem State.setChime_bs (s : State) (c : ChimePlayer) :
    (s.setChime c).bs = s.bs := rfl

@[simp] theorem State.setChime_fu (s : State) (c : ChimePlayer) :
    (s.setChime c).fu = s.fu := rfl

@[simp] theorem State.setChime_dru (s : State) (c : ChimePlayer) :
    (s.setChime c).dru = s.dru := rfl

@[simp] theorem State.setChime_ds (s : State) (c : ChimePlayer) :
    (s.setChime c).ds = s.ds := rfl

@[simp] theorem State.setChime_sp (s : State) (c : ChimePlayer) :
    (s.setChime c).sp = s.sp := rfl

@[simp] theorem State.setChime_pending (s : State) (c : ChimePlayer) :
    (s.setChime c).pending = s.pending := rfl

@[simp] theorem State.setChime_up (s : State) (c : ChimePlayer) :
    (s.setChime c).up = s.up := rfl

@[simp] theorem State.setChime_running (s : State) (c : ChimePlayer) :
    (s.setChime c).running = s.running := rfl

@[simp] theorem State.setChime_listening (s : State) (c : ChimePlayer) :
    (s.setChime c).listening = s.listening := rfl

@[simp] theorem State.setChime_taking (s : State) (c : ChimePlayer) :
    (s.setChime c).taking = s.taking := rfl

@[simp] theorem State.setChime_loading (s : State) (c : ChimePlayer) :
    (s.setChime c).loading = s.loading := rfl

@[simp] theorem State.setChime_loaded (s : State) (c : ChimePlayer) :
    (s.setChime c).loaded = s.loaded := rfl

@[simp] theorem State.setChime_faultValid (s : State) (c : ChimePlayer) :
    (s.setChime c).faultValid = s.faultValid := rfl

@[simp] theorem State.setChime_delivers (s : State) (c : ChimePlayer) :
    (s.setChime c).delivers = s.delivers := rfl

@[simp] theorem State.setChime_now (s : State) (c : ChimePlayer) :
    (s.setChime c).now = s.now := rfl

@[simp] theorem State.setChime_school (s : State) (c : ChimePlayer) :
    (s.setChime c).school = s.school := rfl

@[simp] theorem State.setChime_own (s : State) (c : ChimePlayer) :
    (s.setChime c).own = s.own := rfl

@[simp] theorem State.setChime_line (s : State) (c : ChimePlayer) (m : LineId) :
    (s.setChime c).line m = s.line m := rfl

@[simp] theorem State.setChime_zone (s : State) (c : ChimePlayer) (m : ZoneId) :
    (s.setChime c).zone m = s.zone m := rfl

@[simp] theorem State.setChime_slot (s : State) (c : ChimePlayer) (m : SlotId) :
    (s.setChime c).slot m = s.slot m := rfl

@[simp] theorem State.setChime_peer (s : State) (c : ChimePlayer) (m : Station) :
    (s.setChime c).peer m = s.peer m := rfl

@[simp] theorem State.setChime_key (s : State) (c : ChimePlayer) (m : KeyId) :
    (s.setChime c).key m = s.key m := rfl

/-! ## `State.setBs` -/

@[simp] theorem State.setBs_powered (s : State) (b : BellScheduler) :
    (s.setBs b).powered = s.powered := rfl

@[simp] theorem State.setBs_rst (s : State) (b : BellScheduler) :
    (s.setBs b).rst = s.rst := rfl

@[simp] theorem State.setBs_tb (s : State) (b : BellScheduler) :
    (s.setBs b).tb = s.tb := rfl

@[simp] theorem State.setBs_ylc (s : State) (b : BellScheduler) :
    (s.setBs b).ylc = s.ylc := rfl

@[simp] theorem State.setBs_pt (s : State) (b : BellScheduler) :
    (s.setBs b).pt = s.pt := rfl

@[simp] theorem State.setBs_du (s : State) (b : BellScheduler) :
    (s.setBs b).du = s.du := rfl

@[simp] theorem State.setBs_dsq (s : State) (b : BellScheduler) :
    (s.setBs b).dsq = s.dsq := rfl

@[simp] theorem State.setBs_za (s : State) (b : BellScheduler) :
    (s.setBs b).za = s.za := rfl

@[simp] theorem State.setBs_fu (s : State) (b : BellScheduler) :
    (s.setBs b).fu = s.fu := rfl

@[simp] theorem State.setBs_dru (s : State) (b : BellScheduler) :
    (s.setBs b).dru = s.dru := rfl

@[simp] theorem State.setBs_ds (s : State) (b : BellScheduler) :
    (s.setBs b).ds = s.ds := rfl

@[simp] theorem State.setBs_sp (s : State) (b : BellScheduler) :
    (s.setBs b).sp = s.sp := rfl

@[simp] theorem State.setBs_pending (s : State) (b : BellScheduler) :
    (s.setBs b).pending = s.pending := rfl

@[simp] theorem State.setBs_up (s : State) (b : BellScheduler) :
    (s.setBs b).up = s.up := rfl

@[simp] theorem State.setBs_running (s : State) (b : BellScheduler) :
    (s.setBs b).running = s.running := rfl

@[simp] theorem State.setBs_listening (s : State) (b : BellScheduler) :
    (s.setBs b).listening = s.listening := rfl

@[simp] theorem State.setBs_taking (s : State) (b : BellScheduler) :
    (s.setBs b).taking = s.taking := rfl

@[simp] theorem State.setBs_loading (s : State) (b : BellScheduler) :
    (s.setBs b).loading = s.loading := rfl

@[simp] theorem State.setBs_loaded (s : State) (b : BellScheduler) :
    (s.setBs b).loaded = s.loaded := rfl

@[simp] theorem State.setBs_faultValid (s : State) (b : BellScheduler) :
    (s.setBs b).faultValid = s.faultValid := rfl

@[simp] theorem State.setBs_delivers (s : State) (b : BellScheduler) :
    (s.setBs b).delivers = s.delivers := rfl

@[simp] theorem State.setBs_now (s : State) (b : BellScheduler) :
    (s.setBs b).now = s.now := rfl

@[simp] theorem State.setBs_school (s : State) (b : BellScheduler) :
    (s.setBs b).school = s.school := rfl

@[simp] theorem State.setBs_own (s : State) (b : BellScheduler) :
    (s.setBs b).own = s.own := rfl

@[simp] theorem State.setBs_line (s : State) (b : BellScheduler) (m : LineId) :
    (s.setBs b).line m = s.line m := rfl

@[simp] theorem State.setBs_zone (s : State) (b : BellScheduler) (m : ZoneId) :
    (s.setBs b).zone m = s.zone m := rfl

@[simp] theorem State.setBs_slot (s : State) (b : BellScheduler) (m : SlotId) :
    (s.setBs b).slot m = s.slot m := rfl

@[simp] theorem State.setBs_peer (s : State) (b : BellScheduler) (m : Station) :
    (s.setBs b).peer m = s.peer m := rfl

@[simp] theorem State.setBs_key (s : State) (b : BellScheduler) (m : KeyId) :
    (s.setBs b).key m = s.key m := rfl

/-! ## `State.setYlc` -/

@[simp] theorem State.setYlc_powered (s : State) (y : YardLine) :
    (s.setYlc y).powered = s.powered := rfl

@[simp] theorem State.setYlc_rst (s : State) (y : YardLine) :
    (s.setYlc y).rst = s.rst := rfl

@[simp] theorem State.setYlc_tb (s : State) (y : YardLine) :
    (s.setYlc y).tb = s.tb := rfl

@[simp] theorem State.setYlc_pt (s : State) (y : YardLine) :
    (s.setYlc y).pt = s.pt := rfl

@[simp] theorem State.setYlc_du (s : State) (y : YardLine) :
    (s.setYlc y).du = s.du := rfl

@[simp] theorem State.setYlc_dsq (s : State) (y : YardLine) :
    (s.setYlc y).dsq = s.dsq := rfl

@[simp] theorem State.setYlc_za (s : State) (y : YardLine) :
    (s.setYlc y).za = s.za := rfl

@[simp] theorem State.setYlc_bs (s : State) (y : YardLine) :
    (s.setYlc y).bs = s.bs := rfl

@[simp] theorem State.setYlc_fu (s : State) (y : YardLine) :
    (s.setYlc y).fu = s.fu := rfl

@[simp] theorem State.setYlc_dru (s : State) (y : YardLine) :
    (s.setYlc y).dru = s.dru := rfl

@[simp] theorem State.setYlc_ds (s : State) (y : YardLine) :
    (s.setYlc y).ds = s.ds := rfl

@[simp] theorem State.setYlc_sp (s : State) (y : YardLine) :
    (s.setYlc y).sp = s.sp := rfl

@[simp] theorem State.setYlc_pending (s : State) (y : YardLine) :
    (s.setYlc y).pending = s.pending := rfl

@[simp] theorem State.setYlc_up (s : State) (y : YardLine) :
    (s.setYlc y).up = s.up := rfl

@[simp] theorem State.setYlc_running (s : State) (y : YardLine) :
    (s.setYlc y).running = s.running := rfl

@[simp] theorem State.setYlc_listening (s : State) (y : YardLine) :
    (s.setYlc y).listening = s.listening := rfl

@[simp] theorem State.setYlc_taking (s : State) (y : YardLine) :
    (s.setYlc y).taking = s.taking := rfl

@[simp] theorem State.setYlc_loading (s : State) (y : YardLine) :
    (s.setYlc y).loading = s.loading := rfl

@[simp] theorem State.setYlc_loaded (s : State) (y : YardLine) :
    (s.setYlc y).loaded = s.loaded := rfl

@[simp] theorem State.setYlc_faultValid (s : State) (y : YardLine) :
    (s.setYlc y).faultValid = s.faultValid := rfl

@[simp] theorem State.setYlc_delivers (s : State) (y : YardLine) :
    (s.setYlc y).delivers = s.delivers := rfl

@[simp] theorem State.setYlc_now (s : State) (y : YardLine) :
    (s.setYlc y).now = s.now := rfl

@[simp] theorem State.setYlc_school (s : State) (y : YardLine) :
    (s.setYlc y).school = s.school := rfl

@[simp] theorem State.setYlc_own (s : State) (y : YardLine) :
    (s.setYlc y).own = s.own := rfl

@[simp] theorem State.setYlc_line (s : State) (y : YardLine) (m : LineId) :
    (s.setYlc y).line m = s.line m := rfl

@[simp] theorem State.setYlc_zone (s : State) (y : YardLine) (m : ZoneId) :
    (s.setYlc y).zone m = s.zone m := rfl

@[simp] theorem State.setYlc_slot (s : State) (y : YardLine) (m : SlotId) :
    (s.setYlc y).slot m = s.slot m := rfl

@[simp] theorem State.setYlc_peer (s : State) (y : YardLine) (m : Station) :
    (s.setYlc y).peer m = s.peer m := rfl

@[simp] theorem State.setYlc_key (s : State) (y : YardLine) (m : KeyId) :
    (s.setYlc y).key m = s.key m := rfl

/-! ## `State.setQueued` -/

@[simp] theorem State.setQueued_powered (s : State) (i : Nat) (q : QueuedFrame) :
    (s.setQueued i q).powered = s.powered := rfl

@[simp] theorem State.setQueued_rst (s : State) (i : Nat) (q : QueuedFrame) :
    (s.setQueued i q).rst = s.rst := rfl

@[simp] theorem State.setQueued_tb (s : State) (i : Nat) (q : QueuedFrame) :
    (s.setQueued i q).tb = s.tb := rfl

@[simp] theorem State.setQueued_pt (s : State) (i : Nat) (q : QueuedFrame) :
    (s.setQueued i q).pt = s.pt := rfl

@[simp] theorem State.setQueued_du (s : State) (i : Nat) (q : QueuedFrame) :
    (s.setQueued i q).du = s.du := rfl

@[simp] theorem State.setQueued_dsq (s : State) (i : Nat) (q : QueuedFrame) :
    (s.setQueued i q).dsq = s.dsq := rfl

@[simp] theorem State.setQueued_za (s : State) (i : Nat) (q : QueuedFrame) :
    (s.setQueued i q).za = s.za := rfl

@[simp] theorem State.setQueued_bs (s : State) (i : Nat) (q : QueuedFrame) :
    (s.setQueued i q).bs = s.bs := rfl

@[simp] theorem State.setQueued_fu (s : State) (i : Nat) (q : QueuedFrame) :
    (s.setQueued i q).fu = s.fu := rfl

@[simp] theorem State.setQueued_dru (s : State) (i : Nat) (q : QueuedFrame) :
    (s.setQueued i q).dru = s.dru := rfl

@[simp] theorem State.setQueued_ds (s : State) (i : Nat) (q : QueuedFrame) :
    (s.setQueued i q).ds = s.ds := rfl

@[simp] theorem State.setQueued_sp (s : State) (i : Nat) (q : QueuedFrame) :
    (s.setQueued i q).sp = s.sp := rfl

@[simp] theorem State.setQueued_pending (s : State) (i : Nat) (q : QueuedFrame) :
    (s.setQueued i q).pending = s.pending := rfl

@[simp] theorem State.setQueued_up (s : State) (i : Nat) (q : QueuedFrame) :
    (s.setQueued i q).up = s.up := rfl

@[simp] theorem State.setQueued_running (s : State) (i : Nat) (q : QueuedFrame) :
    (s.setQueued i q).running = s.running := rfl

@[simp] theorem State.setQueued_listening (s : State) (i : Nat) (q : QueuedFrame) :
    (s.setQueued i q).listening = s.listening := rfl

@[simp] theorem State.setQueued_taking (s : State) (i : Nat) (q : QueuedFrame) :
    (s.setQueued i q).taking = s.taking := rfl

@[simp] theorem State.setQueued_loading (s : State) (i : Nat) (q : QueuedFrame) :
    (s.setQueued i q).loading = s.loading := rfl

@[simp] theorem State.setQueued_loaded (s : State) (i : Nat) (q : QueuedFrame) :
    (s.setQueued i q).loaded = s.loaded := rfl

@[simp] theorem State.setQueued_faultValid (s : State) (i : Nat) (q : QueuedFrame) :
    (s.setQueued i q).faultValid = s.faultValid := rfl

@[simp] theorem State.setQueued_delivers (s : State) (i : Nat) (q : QueuedFrame) :
    (s.setQueued i q).delivers = s.delivers := rfl

@[simp] theorem State.setQueued_now (s : State) (i : Nat) (q : QueuedFrame) :
    (s.setQueued i q).now = s.now := rfl

@[simp] theorem State.setQueued_school (s : State) (i : Nat) (q : QueuedFrame) :
    (s.setQueued i q).school = s.school := rfl

@[simp] theorem State.setQueued_own (s : State) (i : Nat) (q : QueuedFrame) :
    (s.setQueued i q).own = s.own := rfl

@[simp] theorem State.setQueued_line (s : State) (i : Nat) (q : QueuedFrame) (m : LineId) :
    (s.setQueued i q).line m = s.line m := rfl

@[simp] theorem State.setQueued_zone (s : State) (i : Nat) (q : QueuedFrame) (m : ZoneId) :
    (s.setQueued i q).zone m = s.zone m := rfl

@[simp] theorem State.setQueued_slot (s : State) (i : Nat) (q : QueuedFrame) (m : SlotId) :
    (s.setQueued i q).slot m = s.slot m := rfl

@[simp] theorem State.setQueued_peer (s : State) (i : Nat) (q : QueuedFrame) (m : Station) :
    (s.setQueued i q).peer m = s.peer m := rfl

@[simp] theorem State.setQueued_key (s : State) (i : Nat) (q : QueuedFrame) (m : KeyId) :
    (s.setQueued i q).key m = s.key m := rfl

/-! ## `State.setOwn` -/

@[simp] theorem State.setOwn_powered (s : State) (o : Option OwnClaim) :
    (s.setOwn o).powered = s.powered := rfl

@[simp] theorem State.setOwn_rst (s : State) (o : Option OwnClaim) :
    (s.setOwn o).rst = s.rst := rfl

@[simp] theorem State.setOwn_tb (s : State) (o : Option OwnClaim) :
    (s.setOwn o).tb = s.tb := rfl

@[simp] theorem State.setOwn_ylc (s : State) (o : Option OwnClaim) :
    (s.setOwn o).ylc = s.ylc := rfl

@[simp] theorem State.setOwn_pt (s : State) (o : Option OwnClaim) :
    (s.setOwn o).pt = s.pt := rfl

@[simp] theorem State.setOwn_du (s : State) (o : Option OwnClaim) :
    (s.setOwn o).du = s.du := rfl

@[simp] theorem State.setOwn_dsq (s : State) (o : Option OwnClaim) :
    (s.setOwn o).dsq = s.dsq := rfl

@[simp] theorem State.setOwn_za (s : State) (o : Option OwnClaim) :
    (s.setOwn o).za = s.za := rfl

@[simp] theorem State.setOwn_bs (s : State) (o : Option OwnClaim) :
    (s.setOwn o).bs = s.bs := rfl

@[simp] theorem State.setOwn_dru (s : State) (o : Option OwnClaim) :
    (s.setOwn o).dru = s.dru := rfl

@[simp] theorem State.setOwn_ds (s : State) (o : Option OwnClaim) :
    (s.setOwn o).ds = s.ds := rfl

@[simp] theorem State.setOwn_sp (s : State) (o : Option OwnClaim) :
    (s.setOwn o).sp = s.sp := rfl

@[simp] theorem State.setOwn_pending (s : State) (o : Option OwnClaim) :
    (s.setOwn o).pending = s.pending := rfl

@[simp] theorem State.setOwn_up (s : State) (o : Option OwnClaim) :
    (s.setOwn o).up = s.up := rfl

@[simp] theorem State.setOwn_running (s : State) (o : Option OwnClaim) :
    (s.setOwn o).running = s.running := rfl

@[simp] theorem State.setOwn_listening (s : State) (o : Option OwnClaim) :
    (s.setOwn o).listening = s.listening := rfl

@[simp] theorem State.setOwn_taking (s : State) (o : Option OwnClaim) :
    (s.setOwn o).taking = s.taking := rfl

@[simp] theorem State.setOwn_loading (s : State) (o : Option OwnClaim) :
    (s.setOwn o).loading = s.loading := rfl

@[simp] theorem State.setOwn_loaded (s : State) (o : Option OwnClaim) :
    (s.setOwn o).loaded = s.loaded := rfl

@[simp] theorem State.setOwn_faultValid (s : State) (o : Option OwnClaim) :
    (s.setOwn o).faultValid = s.faultValid := rfl

@[simp] theorem State.setOwn_delivers (s : State) (o : Option OwnClaim) :
    (s.setOwn o).delivers = s.delivers := rfl

@[simp] theorem State.setOwn_now (s : State) (o : Option OwnClaim) :
    (s.setOwn o).now = s.now := rfl

@[simp] theorem State.setOwn_school (s : State) (o : Option OwnClaim) :
    (s.setOwn o).school = s.school := rfl

@[simp] theorem State.setOwn_own (s : State) (o : Option OwnClaim) :
    (s.setOwn o).own = s.own := rfl

@[simp] theorem State.setOwn_line (s : State) (o : Option OwnClaim) (m : LineId) :
    (s.setOwn o).line m = s.line m := rfl

@[simp] theorem State.setOwn_zone (s : State) (o : Option OwnClaim) (m : ZoneId) :
    (s.setOwn o).zone m = s.zone m := rfl

@[simp] theorem State.setOwn_slot (s : State) (o : Option OwnClaim) (m : SlotId) :
    (s.setOwn o).slot m = s.slot m := rfl

@[simp] theorem State.setOwn_peer (s : State) (o : Option OwnClaim) (m : Station) :
    (s.setOwn o).peer m = s.peer m := rfl

@[simp] theorem State.setOwn_key (s : State) (o : Option OwnClaim) (m : KeyId) :
    (s.setOwn o).key m = s.key m := rfl

/-! ## `State.setView` -/

@[simp] theorem State.setView_powered (s : State) (v : Option FloorView) :
    (s.setView v).powered = s.powered := rfl

@[simp] theorem State.setView_rst (s : State) (v : Option FloorView) :
    (s.setView v).rst = s.rst := rfl

@[simp] theorem State.setView_tb (s : State) (v : Option FloorView) :
    (s.setView v).tb = s.tb := rfl

@[simp] theorem State.setView_ylc (s : State) (v : Option FloorView) :
    (s.setView v).ylc = s.ylc := rfl

@[simp] theorem State.setView_pt (s : State) (v : Option FloorView) :
    (s.setView v).pt = s.pt := rfl

@[simp] theorem State.setView_du (s : State) (v : Option FloorView) :
    (s.setView v).du = s.du := rfl

@[simp] theorem State.setView_dsq (s : State) (v : Option FloorView) :
    (s.setView v).dsq = s.dsq := rfl

@[simp] theorem State.setView_za (s : State) (v : Option FloorView) :
    (s.setView v).za = s.za := rfl

@[simp] theorem State.setView_bs (s : State) (v : Option FloorView) :
    (s.setView v).bs = s.bs := rfl

@[simp] theorem State.setView_dru (s : State) (v : Option FloorView) :
    (s.setView v).dru = s.dru := rfl

@[simp] theorem State.setView_ds (s : State) (v : Option FloorView) :
    (s.setView v).ds = s.ds := rfl

@[simp] theorem State.setView_sp (s : State) (v : Option FloorView) :
    (s.setView v).sp = s.sp := rfl

@[simp] theorem State.setView_pending (s : State) (v : Option FloorView) :
    (s.setView v).pending = s.pending := rfl

@[simp] theorem State.setView_up (s : State) (v : Option FloorView) :
    (s.setView v).up = s.up := rfl

@[simp] theorem State.setView_running (s : State) (v : Option FloorView) :
    (s.setView v).running = s.running := rfl

@[simp] theorem State.setView_listening (s : State) (v : Option FloorView) :
    (s.setView v).listening = s.listening := rfl

@[simp] theorem State.setView_taking (s : State) (v : Option FloorView) :
    (s.setView v).taking = s.taking := rfl

@[simp] theorem State.setView_loading (s : State) (v : Option FloorView) :
    (s.setView v).loading = s.loading := rfl

@[simp] theorem State.setView_loaded (s : State) (v : Option FloorView) :
    (s.setView v).loaded = s.loaded := rfl

@[simp] theorem State.setView_faultValid (s : State) (v : Option FloorView) :
    (s.setView v).faultValid = s.faultValid := rfl

@[simp] theorem State.setView_delivers (s : State) (v : Option FloorView) :
    (s.setView v).delivers = s.delivers := rfl

@[simp] theorem State.setView_now (s : State) (v : Option FloorView) :
    (s.setView v).now = s.now := rfl

@[simp] theorem State.setView_school (s : State) (v : Option FloorView) :
    (s.setView v).school = s.school := rfl

@[simp] theorem State.setView_own (s : State) (v : Option FloorView) :
    (s.setView v).own = s.own := rfl

@[simp] theorem State.setView_line (s : State) (v : Option FloorView) (m : LineId) :
    (s.setView v).line m = s.line m := rfl

@[simp] theorem State.setView_zone (s : State) (v : Option FloorView) (m : ZoneId) :
    (s.setView v).zone m = s.zone m := rfl

@[simp] theorem State.setView_slot (s : State) (v : Option FloorView) (m : SlotId) :
    (s.setView v).slot m = s.slot m := rfl

@[simp] theorem State.setView_peer (s : State) (v : Option FloorView) (m : Station) :
    (s.setView v).peer m = s.peer m := rfl

@[simp] theorem State.setView_key (s : State) (v : Option FloorView) (m : KeyId) :
    (s.setView v).key m = s.key m := rfl

/-! ## `State.setClaims` -/

@[simp] theorem State.setClaims_powered (s : State) (c : List ClaimEntry) :
    (s.setClaims c).powered = s.powered := rfl

@[simp] theorem State.setClaims_rst (s : State) (c : List ClaimEntry) :
    (s.setClaims c).rst = s.rst := rfl

@[simp] theorem State.setClaims_tb (s : State) (c : List ClaimEntry) :
    (s.setClaims c).tb = s.tb := rfl

@[simp] theorem State.setClaims_ylc (s : State) (c : List ClaimEntry) :
    (s.setClaims c).ylc = s.ylc := rfl

@[simp] theorem State.setClaims_pt (s : State) (c : List ClaimEntry) :
    (s.setClaims c).pt = s.pt := rfl

@[simp] theorem State.setClaims_du (s : State) (c : List ClaimEntry) :
    (s.setClaims c).du = s.du := rfl

@[simp] theorem State.setClaims_dsq (s : State) (c : List ClaimEntry) :
    (s.setClaims c).dsq = s.dsq := rfl

@[simp] theorem State.setClaims_za (s : State) (c : List ClaimEntry) :
    (s.setClaims c).za = s.za := rfl

@[simp] theorem State.setClaims_bs (s : State) (c : List ClaimEntry) :
    (s.setClaims c).bs = s.bs := rfl

@[simp] theorem State.setClaims_dru (s : State) (c : List ClaimEntry) :
    (s.setClaims c).dru = s.dru := rfl

@[simp] theorem State.setClaims_ds (s : State) (c : List ClaimEntry) :
    (s.setClaims c).ds = s.ds := rfl

@[simp] theorem State.setClaims_sp (s : State) (c : List ClaimEntry) :
    (s.setClaims c).sp = s.sp := rfl

@[simp] theorem State.setClaims_pending (s : State) (c : List ClaimEntry) :
    (s.setClaims c).pending = s.pending := rfl

@[simp] theorem State.setClaims_up (s : State) (c : List ClaimEntry) :
    (s.setClaims c).up = s.up := rfl

@[simp] theorem State.setClaims_running (s : State) (c : List ClaimEntry) :
    (s.setClaims c).running = s.running := rfl

@[simp] theorem State.setClaims_listening (s : State) (c : List ClaimEntry) :
    (s.setClaims c).listening = s.listening := rfl

@[simp] theorem State.setClaims_taking (s : State) (c : List ClaimEntry) :
    (s.setClaims c).taking = s.taking := rfl

@[simp] theorem State.setClaims_loading (s : State) (c : List ClaimEntry) :
    (s.setClaims c).loading = s.loading := rfl

@[simp] theorem State.setClaims_loaded (s : State) (c : List ClaimEntry) :
    (s.setClaims c).loaded = s.loaded := rfl

@[simp] theorem State.setClaims_faultValid (s : State) (c : List ClaimEntry) :
    (s.setClaims c).faultValid = s.faultValid := rfl

@[simp] theorem State.setClaims_delivers (s : State) (c : List ClaimEntry) :
    (s.setClaims c).delivers = s.delivers := rfl

@[simp] theorem State.setClaims_now (s : State) (c : List ClaimEntry) :
    (s.setClaims c).now = s.now := rfl

@[simp] theorem State.setClaims_school (s : State) (c : List ClaimEntry) :
    (s.setClaims c).school = s.school := rfl

@[simp] theorem State.setClaims_own (s : State) (c : List ClaimEntry) :
    (s.setClaims c).own = s.own := rfl

@[simp] theorem State.setClaims_line (s : State) (c : List ClaimEntry) (m : LineId) :
    (s.setClaims c).line m = s.line m := rfl

@[simp] theorem State.setClaims_zone (s : State) (c : List ClaimEntry) (m : ZoneId) :
    (s.setClaims c).zone m = s.zone m := rfl

@[simp] theorem State.setClaims_slot (s : State) (c : List ClaimEntry) (m : SlotId) :
    (s.setClaims c).slot m = s.slot m := rfl

@[simp] theorem State.setClaims_peer (s : State) (c : List ClaimEntry) (m : Station) :
    (s.setClaims c).peer m = s.peer m := rfl

@[simp] theorem State.setClaims_key (s : State) (c : List ClaimEntry) (m : KeyId) :
    (s.setClaims c).key m = s.key m := rfl

/-! ## `State.setMic` -/

@[simp] theorem State.setMic_powered (s : State) (on : Bool) :
    (s.setMic on).powered = s.powered := rfl

@[simp] theorem State.setMic_rst (s : State) (on : Bool) :
    (s.setMic on).rst = s.rst := rfl

@[simp] theorem State.setMic_tb (s : State) (on : Bool) :
    (s.setMic on).tb = s.tb := rfl

@[simp] theorem State.setMic_ylc (s : State) (on : Bool) :
    (s.setMic on).ylc = s.ylc := rfl

@[simp] theorem State.setMic_pt (s : State) (on : Bool) :
    (s.setMic on).pt = s.pt := rfl

@[simp] theorem State.setMic_du (s : State) (on : Bool) :
    (s.setMic on).du = s.du := rfl

@[simp] theorem State.setMic_dsq (s : State) (on : Bool) :
    (s.setMic on).dsq = s.dsq := rfl

@[simp] theorem State.setMic_za (s : State) (on : Bool) :
    (s.setMic on).za = s.za := rfl

@[simp] theorem State.setMic_bs (s : State) (on : Bool) :
    (s.setMic on).bs = s.bs := rfl

@[simp] theorem State.setMic_dru (s : State) (on : Bool) :
    (s.setMic on).dru = s.dru := rfl

@[simp] theorem State.setMic_ds (s : State) (on : Bool) :
    (s.setMic on).ds = s.ds := rfl

@[simp] theorem State.setMic_sp (s : State) (on : Bool) :
    (s.setMic on).sp = s.sp := rfl

@[simp] theorem State.setMic_pending (s : State) (on : Bool) :
    (s.setMic on).pending = s.pending := rfl

@[simp] theorem State.setMic_up (s : State) (on : Bool) :
    (s.setMic on).up = s.up := rfl

@[simp] theorem State.setMic_running (s : State) (on : Bool) :
    (s.setMic on).running = s.running := rfl

@[simp] theorem State.setMic_listening (s : State) (on : Bool) :
    (s.setMic on).listening = s.listening := rfl

@[simp] theorem State.setMic_taking (s : State) (on : Bool) :
    (s.setMic on).taking = s.taking := rfl

@[simp] theorem State.setMic_loading (s : State) (on : Bool) :
    (s.setMic on).loading = s.loading := rfl

@[simp] theorem State.setMic_loaded (s : State) (on : Bool) :
    (s.setMic on).loaded = s.loaded := rfl

@[simp] theorem State.setMic_faultValid (s : State) (on : Bool) :
    (s.setMic on).faultValid = s.faultValid := rfl

@[simp] theorem State.setMic_delivers (s : State) (on : Bool) :
    (s.setMic on).delivers = s.delivers := rfl

@[simp] theorem State.setMic_now (s : State) (on : Bool) :
    (s.setMic on).now = s.now := rfl

@[simp] theorem State.setMic_school (s : State) (on : Bool) :
    (s.setMic on).school = s.school := rfl

@[simp] theorem State.setMic_own (s : State) (on : Bool) :
    (s.setMic on).own = s.own := rfl

@[simp] theorem State.setMic_line (s : State) (on : Bool) (m : LineId) :
    (s.setMic on).line m = s.line m := rfl

@[simp] theorem State.setMic_zone (s : State) (on : Bool) (m : ZoneId) :
    (s.setMic on).zone m = s.zone m := rfl

@[simp] theorem State.setMic_slot (s : State) (on : Bool) (m : SlotId) :
    (s.setMic on).slot m = s.slot m := rfl

@[simp] theorem State.setMic_peer (s : State) (on : Bool) (m : Station) :
    (s.setMic on).peer m = s.peer m := rfl

@[simp] theorem State.setMic_key (s : State) (on : Bool) (m : KeyId) :
    (s.setMic on).key m = s.key m := rfl

/-! ## `State.setRecord` -/

@[simp] theorem State.setRecord_powered (s : State) (r : Option DrillRecord) :
    (s.setRecord r).powered = s.powered := rfl

@[simp] theorem State.setRecord_rst (s : State) (r : Option DrillRecord) :
    (s.setRecord r).rst = s.rst := rfl

@[simp] theorem State.setRecord_tb (s : State) (r : Option DrillRecord) :
    (s.setRecord r).tb = s.tb := rfl

@[simp] theorem State.setRecord_ylc (s : State) (r : Option DrillRecord) :
    (s.setRecord r).ylc = s.ylc := rfl

@[simp] theorem State.setRecord_pt (s : State) (r : Option DrillRecord) :
    (s.setRecord r).pt = s.pt := rfl

@[simp] theorem State.setRecord_du (s : State) (r : Option DrillRecord) :
    (s.setRecord r).du = s.du := rfl

@[simp] theorem State.setRecord_dsq (s : State) (r : Option DrillRecord) :
    (s.setRecord r).dsq = s.dsq := rfl

@[simp] theorem State.setRecord_za (s : State) (r : Option DrillRecord) :
    (s.setRecord r).za = s.za := rfl

@[simp] theorem State.setRecord_bs (s : State) (r : Option DrillRecord) :
    (s.setRecord r).bs = s.bs := rfl

@[simp] theorem State.setRecord_fu (s : State) (r : Option DrillRecord) :
    (s.setRecord r).fu = s.fu := rfl

@[simp] theorem State.setRecord_ds (s : State) (r : Option DrillRecord) :
    (s.setRecord r).ds = s.ds := rfl

@[simp] theorem State.setRecord_sp (s : State) (r : Option DrillRecord) :
    (s.setRecord r).sp = s.sp := rfl

@[simp] theorem State.setRecord_pending (s : State) (r : Option DrillRecord) :
    (s.setRecord r).pending = s.pending := rfl

@[simp] theorem State.setRecord_up (s : State) (r : Option DrillRecord) :
    (s.setRecord r).up = s.up := rfl

@[simp] theorem State.setRecord_running (s : State) (r : Option DrillRecord) :
    (s.setRecord r).running = s.running := rfl

@[simp] theorem State.setRecord_listening (s : State) (r : Option DrillRecord) :
    (s.setRecord r).listening = s.listening := rfl

@[simp] theorem State.setRecord_taking (s : State) (r : Option DrillRecord) :
    (s.setRecord r).taking = s.taking := rfl

@[simp] theorem State.setRecord_loading (s : State) (r : Option DrillRecord) :
    (s.setRecord r).loading = s.loading := rfl

@[simp] theorem State.setRecord_loaded (s : State) (r : Option DrillRecord) :
    (s.setRecord r).loaded = s.loaded := rfl

@[simp] theorem State.setRecord_faultValid (s : State) (r : Option DrillRecord) :
    (s.setRecord r).faultValid = s.faultValid := rfl

@[simp] theorem State.setRecord_delivers (s : State) (r : Option DrillRecord) :
    (s.setRecord r).delivers = s.delivers := rfl

@[simp] theorem State.setRecord_now (s : State) (r : Option DrillRecord) :
    (s.setRecord r).now = s.now := rfl

@[simp] theorem State.setRecord_school (s : State) (r : Option DrillRecord) :
    (s.setRecord r).school = s.school := rfl

@[simp] theorem State.setRecord_own (s : State) (r : Option DrillRecord) :
    (s.setRecord r).own = s.own := rfl

@[simp] theorem State.setRecord_line (s : State) (r : Option DrillRecord) (m : LineId) :
    (s.setRecord r).line m = s.line m := rfl

@[simp] theorem State.setRecord_zone (s : State) (r : Option DrillRecord) (m : ZoneId) :
    (s.setRecord r).zone m = s.zone m := rfl

@[simp] theorem State.setRecord_slot (s : State) (r : Option DrillRecord) (m : SlotId) :
    (s.setRecord r).slot m = s.slot m := rfl

@[simp] theorem State.setRecord_peer (s : State) (r : Option DrillRecord) (m : Station) :
    (s.setRecord r).peer m = s.peer m := rfl

@[simp] theorem State.setRecord_key (s : State) (r : Option DrillRecord) (m : KeyId) :
    (s.setRecord r).key m = s.key m := rfl

/-! ## `State.setYielding` -/

@[simp] theorem State.setYielding_powered (s : State) (on : Bool) :
    (s.setYielding on).powered = s.powered := rfl

@[simp] theorem State.setYielding_rst (s : State) (on : Bool) :
    (s.setYielding on).rst = s.rst := rfl

@[simp] theorem State.setYielding_tb (s : State) (on : Bool) :
    (s.setYielding on).tb = s.tb := rfl

@[simp] theorem State.setYielding_ylc (s : State) (on : Bool) :
    (s.setYielding on).ylc = s.ylc := rfl

@[simp] theorem State.setYielding_pt (s : State) (on : Bool) :
    (s.setYielding on).pt = s.pt := rfl

@[simp] theorem State.setYielding_du (s : State) (on : Bool) :
    (s.setYielding on).du = s.du := rfl

@[simp] theorem State.setYielding_dsq (s : State) (on : Bool) :
    (s.setYielding on).dsq = s.dsq := rfl

@[simp] theorem State.setYielding_za (s : State) (on : Bool) :
    (s.setYielding on).za = s.za := rfl

@[simp] theorem State.setYielding_bs (s : State) (on : Bool) :
    (s.setYielding on).bs = s.bs := rfl

@[simp] theorem State.setYielding_fu (s : State) (on : Bool) :
    (s.setYielding on).fu = s.fu := rfl

@[simp] theorem State.setYielding_ds (s : State) (on : Bool) :
    (s.setYielding on).ds = s.ds := rfl

@[simp] theorem State.setYielding_sp (s : State) (on : Bool) :
    (s.setYielding on).sp = s.sp := rfl

@[simp] theorem State.setYielding_pending (s : State) (on : Bool) :
    (s.setYielding on).pending = s.pending := rfl

@[simp] theorem State.setYielding_up (s : State) (on : Bool) :
    (s.setYielding on).up = s.up := rfl

@[simp] theorem State.setYielding_running (s : State) (on : Bool) :
    (s.setYielding on).running = s.running := rfl

@[simp] theorem State.setYielding_listening (s : State) (on : Bool) :
    (s.setYielding on).listening = s.listening := rfl

@[simp] theorem State.setYielding_taking (s : State) (on : Bool) :
    (s.setYielding on).taking = s.taking := rfl

@[simp] theorem State.setYielding_loading (s : State) (on : Bool) :
    (s.setYielding on).loading = s.loading := rfl

@[simp] theorem State.setYielding_loaded (s : State) (on : Bool) :
    (s.setYielding on).loaded = s.loaded := rfl

@[simp] theorem State.setYielding_faultValid (s : State) (on : Bool) :
    (s.setYielding on).faultValid = s.faultValid := rfl

@[simp] theorem State.setYielding_delivers (s : State) (on : Bool) :
    (s.setYielding on).delivers = s.delivers := rfl

@[simp] theorem State.setYielding_now (s : State) (on : Bool) :
    (s.setYielding on).now = s.now := rfl

@[simp] theorem State.setYielding_school (s : State) (on : Bool) :
    (s.setYielding on).school = s.school := rfl

@[simp] theorem State.setYielding_own (s : State) (on : Bool) :
    (s.setYielding on).own = s.own := rfl

@[simp] theorem State.setYielding_line (s : State) (on : Bool) (m : LineId) :
    (s.setYielding on).line m = s.line m := rfl

@[simp] theorem State.setYielding_zone (s : State) (on : Bool) (m : ZoneId) :
    (s.setYielding on).zone m = s.zone m := rfl

@[simp] theorem State.setYielding_slot (s : State) (on : Bool) (m : SlotId) :
    (s.setYielding on).slot m = s.slot m := rfl

@[simp] theorem State.setYielding_peer (s : State) (on : Bool) (m : Station) :
    (s.setYielding on).peer m = s.peer m := rfl

@[simp] theorem State.setYielding_key (s : State) (on : Bool) (m : KeyId) :
    (s.setYielding on).key m = s.key m := rfl

/-! ## `State.withPeerCause` -/

@[simp] theorem State.withPeerCause_powered (s : State) : s.withPeerCause.powered = s.powered := rfl

@[simp] theorem State.withPeerCause_rst (s : State) : s.withPeerCause.rst = s.rst := rfl

@[simp] theorem State.withPeerCause_tb (s : State) : s.withPeerCause.tb = s.tb := rfl

@[simp] theorem State.withPeerCause_ylc (s : State) : s.withPeerCause.ylc = s.ylc := rfl

@[simp] theorem State.withPeerCause_pt (s : State) : s.withPeerCause.pt = s.pt := rfl

@[simp] theorem State.withPeerCause_du (s : State) : s.withPeerCause.du = s.du := rfl

@[simp] theorem State.withPeerCause_dsq (s : State) : s.withPeerCause.dsq = s.dsq := rfl

@[simp] theorem State.withPeerCause_za (s : State) : s.withPeerCause.za = s.za := rfl

@[simp] theorem State.withPeerCause_bs (s : State) : s.withPeerCause.bs = s.bs := rfl

@[simp] theorem State.withPeerCause_fu (s : State) : s.withPeerCause.fu = s.fu := rfl

@[simp] theorem State.withPeerCause_ds (s : State) : s.withPeerCause.ds = s.ds := rfl

@[simp] theorem State.withPeerCause_sp (s : State) : s.withPeerCause.sp = s.sp := rfl

@[simp] theorem State.withPeerCause_pending (s : State) : s.withPeerCause.pending = s.pending := rfl

@[simp] theorem State.withPeerCause_up (s : State) : s.withPeerCause.up = s.up := rfl

@[simp] theorem State.withPeerCause_running (s : State) : s.withPeerCause.running = s.running := rfl

@[simp] theorem State.withPeerCause_listening (s : State) : s.withPeerCause.listening = s.listening := rfl

@[simp] theorem State.withPeerCause_taking (s : State) : s.withPeerCause.taking = s.taking := rfl

@[simp] theorem State.withPeerCause_loading (s : State) : s.withPeerCause.loading = s.loading := rfl

@[simp] theorem State.withPeerCause_loaded (s : State) : s.withPeerCause.loaded = s.loaded := rfl

@[simp] theorem State.withPeerCause_faultValid (s : State) : s.withPeerCause.faultValid = s.faultValid := rfl

@[simp] theorem State.withPeerCause_delivers (s : State) : s.withPeerCause.delivers = s.delivers := rfl

@[simp] theorem State.withPeerCause_now (s : State) : s.withPeerCause.now = s.now := rfl

@[simp] theorem State.withPeerCause_school (s : State) : s.withPeerCause.school = s.school := rfl

@[simp] theorem State.withPeerCause_own (s : State) : s.withPeerCause.own = s.own := rfl

@[simp] theorem State.withPeerCause_line (s : State) (m : LineId) : s.withPeerCause.line m = s.line m := rfl

@[simp] theorem State.withPeerCause_zone (s : State) (m : ZoneId) : s.withPeerCause.zone m = s.zone m := rfl

@[simp] theorem State.withPeerCause_slot (s : State) (m : SlotId) : s.withPeerCause.slot m = s.slot m := rfl

@[simp] theorem State.withPeerCause_peer (s : State) (m : Station) : s.withPeerCause.peer m = s.peer m := rfl

@[simp] theorem State.withPeerCause_key (s : State) (m : KeyId) : s.withPeerCause.key m = s.key m := rfl

/-! ## `State.setSchool` -/

@[simp] theorem State.setSchool_powered (s : State) (t : Option Nat) (g : Standing) :
    (s.setSchool t g).powered = s.powered := rfl

@[simp] theorem State.setSchool_rst (s : State) (t : Option Nat) (g : Standing) :
    (s.setSchool t g).rst = s.rst := rfl

@[simp] theorem State.setSchool_ylc (s : State) (t : Option Nat) (g : Standing) :
    (s.setSchool t g).ylc = s.ylc := rfl

@[simp] theorem State.setSchool_pt (s : State) (t : Option Nat) (g : Standing) :
    (s.setSchool t g).pt = s.pt := rfl

@[simp] theorem State.setSchool_du (s : State) (t : Option Nat) (g : Standing) :
    (s.setSchool t g).du = s.du := rfl

@[simp] theorem State.setSchool_dsq (s : State) (t : Option Nat) (g : Standing) :
    (s.setSchool t g).dsq = s.dsq := rfl

@[simp] theorem State.setSchool_za (s : State) (t : Option Nat) (g : Standing) :
    (s.setSchool t g).za = s.za := rfl

@[simp] theorem State.setSchool_bs (s : State) (t : Option Nat) (g : Standing) :
    (s.setSchool t g).bs = s.bs := rfl

@[simp] theorem State.setSchool_fu (s : State) (t : Option Nat) (g : Standing) :
    (s.setSchool t g).fu = s.fu := rfl

@[simp] theorem State.setSchool_dru (s : State) (t : Option Nat) (g : Standing) :
    (s.setSchool t g).dru = s.dru := rfl

@[simp] theorem State.setSchool_ds (s : State) (t : Option Nat) (g : Standing) :
    (s.setSchool t g).ds = s.ds := rfl

@[simp] theorem State.setSchool_sp (s : State) (t : Option Nat) (g : Standing) :
    (s.setSchool t g).sp = s.sp := rfl

@[simp] theorem State.setSchool_pending (s : State) (t : Option Nat) (g : Standing) :
    (s.setSchool t g).pending = s.pending := rfl

@[simp] theorem State.setSchool_up (s : State) (t : Option Nat) (g : Standing) :
    (s.setSchool t g).up = s.up := rfl

@[simp] theorem State.setSchool_running (s : State) (t : Option Nat) (g : Standing) :
    (s.setSchool t g).running = s.running := rfl

@[simp] theorem State.setSchool_listening (s : State) (t : Option Nat) (g : Standing) :
    (s.setSchool t g).listening = s.listening := rfl

@[simp] theorem State.setSchool_taking (s : State) (t : Option Nat) (g : Standing) :
    (s.setSchool t g).taking = s.taking := rfl

@[simp] theorem State.setSchool_loading (s : State) (t : Option Nat) (g : Standing) :
    (s.setSchool t g).loading = s.loading := rfl

@[simp] theorem State.setSchool_loaded (s : State) (t : Option Nat) (g : Standing) :
    (s.setSchool t g).loaded = s.loaded := rfl

@[simp] theorem State.setSchool_faultValid (s : State) (t : Option Nat) (g : Standing) :
    (s.setSchool t g).faultValid = s.faultValid := rfl

@[simp] theorem State.setSchool_delivers (s : State) (t : Option Nat) (g : Standing) :
    (s.setSchool t g).delivers = s.delivers := rfl

@[simp] theorem State.setSchool_now (s : State) (t : Option Nat) (g : Standing) :
    (s.setSchool t g).now = s.now := rfl

@[simp] theorem State.setSchool_own (s : State) (t : Option Nat) (g : Standing) :
    (s.setSchool t g).own = s.own := rfl

@[simp] theorem State.setSchool_line (s : State) (t : Option Nat) (g : Standing) (m : LineId) :
    (s.setSchool t g).line m = s.line m := rfl

@[simp] theorem State.setSchool_zone (s : State) (t : Option Nat) (g : Standing) (m : ZoneId) :
    (s.setSchool t g).zone m = s.zone m := rfl

@[simp] theorem State.setSchool_slot (s : State) (t : Option Nat) (g : Standing) (m : SlotId) :
    (s.setSchool t g).slot m = s.slot m := rfl

@[simp] theorem State.setSchool_peer (s : State) (t : Option Nat) (g : Standing) (m : Station) :
    (s.setSchool t g).peer m = s.peer m := rfl

@[simp] theorem State.setSchool_key (s : State) (t : Option Nat) (g : Standing) (m : KeyId) :
    (s.setSchool t g).key m = s.key m := rfl

/-! ## Reading what was written -/

@[simp] theorem State.setLine_line_same (s : State) (l : LineId) (r : LineRecord) :
    (s.setLine l r).line l = r := by
  simp [State.setLine, State.line]

@[simp] theorem State.setLine_line_ne (s : State) (l m : LineId) (r : LineRecord) (h : m ≠ l) :
    (s.setLine l r).line m = s.line m := by
  simp [State.setLine, State.line, Fin.val_inj, h.symm]

@[simp] theorem State.setZone_zone_same (s : State) (z : ZoneId) (r : Zone) :
    (s.setZone z r).zone z = r := by
  simp [State.setZone, State.zone]

@[simp] theorem State.setZone_zone_ne (s : State) (z y : ZoneId) (r : Zone) (h : y ≠ z) :
    (s.setZone z r).zone y = s.zone y := by
  simp [State.setZone, State.zone, Fin.val_inj, h.symm]

@[simp] theorem State.setSlot_slot_same (s : State) (i : SlotId) (r : DialSlot) :
    (s.setSlot i r).slot i = r := by
  simp [State.setSlot, State.slot]

@[simp] theorem State.setSlot_slot_ne (s : State) (i j : SlotId) (r : DialSlot) (h : j ≠ i) :
    (s.setSlot i r).slot j = s.slot j := by
  simp [State.setSlot, State.slot, Fin.val_inj, h.symm]

@[simp] theorem State.setPeer_peer_same (s : State) (n : Station) (e : PeerEntry) :
    (s.setPeer n e).peer n = e := by
  simp [State.setPeer, State.peer]

@[simp] theorem State.setPeer_peer_ne (s : State) (n m : Station) (e : PeerEntry) (h : m ≠ n) :
    (s.setPeer n e).peer m = s.peer m := by
  simp [State.setPeer, State.peer, Fin.val_inj, h.symm]

@[simp] theorem State.setKey_key_same (s : State) (k : KeyId) (i : KeyInput) :
    (s.setKey k i).key k = i := by
  simp [State.setKey, State.key]

@[simp] theorem State.setKey_key_ne (s : State) (k j : KeyId) (i : KeyInput) (h : j ≠ k) :
    (s.setKey k i).key j = s.key j := by
  simp [State.setKey, State.key, Fin.val_inj, h.symm]

@[simp] theorem State.setOwn_own_record (s : State) (o : Option OwnClaim) :
    (s.setOwn o).fu.own = o := rfl

@[simp] theorem State.setView_view (s : State) (v : Option FloorView) : (s.setView v).fu.view = v := rfl

@[simp] theorem State.setClaims_claims (s : State) (c : List ClaimEntry) :
    (s.setClaims c).fu.claims = c := rfl

@[simp] theorem State.setMic_micLive (s : State) (on : Bool) : (s.setMic on).fu.micLive = on := rfl

@[simp] theorem State.setRecord_record (s : State) (r : Option DrillRecord) :
    (s.setRecord r).dru.record = r := rfl

@[simp] theorem State.setYlc_ylc_same (s : State) (y : YardLine) : (s.setYlc y).ylc = y := rfl

@[simp] theorem State.setBs_bs_same (s : State) (b : BellScheduler) : (s.setBs b).bs = b := rfl

end Sys2Proof.Machine
end

