-- ==== Sys2Proof/Laws/Frames.lean ====
section
/-! SUPPORT. What each shared operation can change, once for each: every part of the state that is not named
stands as it stood. -/

namespace Sys2Proof.Machine

/-! ## How frames compose -/

theorem State.keepsAllBut_refl (s : State) (changed : List Part) : s.keepsAllBut changed s := by
  intro p _
  cases p <;> rfl

theorem State.sameIn_trans {s t u : State} {p : Part} (h1 : s.sameIn t p) (h2 : t.sameIn u p) :
    s.sameIn u p := by
  cases p <;> exact h2.trans h1

theorem State.keepsAllBut_trans {s t u : State} {changed : List Part} (h1 : s.keepsAllBut changed t)
    (h2 : t.keepsAllBut changed u) : s.keepsAllBut changed u :=
  fun p hp => State.sameIn_trans (h1 p hp) (h2 p hp)

theorem State.keepsAllBut_mono {s t : State} {few many : List Part} (h : s.keepsAllBut few t)
    (sub : few ⊆ many) : s.keepsAllBut many t :=
  fun p hp => h p fun hm => hp (sub hm)

theorem forEach_keepsAllBut {α : Type} {changed : List Part} {f : α → State → State}
    (h : ∀ (a : α) (s : State), s.keepsAllBut changed (f a s)) (items : List α) (s : State) :
    s.keepsAllBut changed (forEach items f s) := by
  induction items generalizing s with
  | nil => exact s.keepsAllBut_refl changed
  | cons a rest ih => exact State.keepsAllBut_trans (h a s) (ih (f a s))

/-! ## The writes of one part -/

theorem State.setLine_frame (s : State) (l : LineId) (r : LineRecord) :
    s.keepsAllBut [.dsq] (s.setLine l r) := by
  intro p hp
  cases p <;> first | rfl | simp at hp

theorem State.setZone_frame (s : State) (z : ZoneId) (r : Zone) : s.keepsAllBut [.za] (s.setZone z r) := by
  intro p hp
  cases p <;> first | rfl | simp at hp

theorem State.setSlot_frame (s : State) (i : SlotId) (r : DialSlot) :
    s.keepsAllBut [.du] (s.setSlot i r) := by
  intro p hp
  cases p <;> first | rfl | simp at hp

theorem State.setKey_frame (s : State) (k : KeyId) (i : KeyInput) : s.keepsAllBut [.fu] (s.setKey k i) := by
  intro p hp
  cases p <;> first | rfl | simp at hp

theorem State.setYlc_frame (s : State) (y : YardLine) : s.keepsAllBut [.ylc] (s.setYlc y) := by
  intro p hp
  cases p <;> first | rfl | simp at hp

theorem State.setBs_frame (s : State) (b : BellScheduler) : s.keepsAllBut [.bs] (s.setBs b) := by
  intro p hp
  cases p <;> first | rfl | simp at hp

theorem State.setChime_frame (s : State) (c : ChimePlayer) : s.keepsAllBut [.dsq] (s.setChime c) := by
  intro p hp
  cases p <;> first | rfl | simp at hp

theorem State.setOwn_frame (s : State) (o : Option OwnClaim) : s.keepsAllBut [.fu] (s.setOwn o) := by
  intro p hp
  cases p <;> first | rfl | simp at hp

theorem State.setView_frame (s : State) (v : Option FloorView) : s.keepsAllBut [.fu] (s.setView v) := by
  intro p hp
  cases p <;> first | rfl | simp at hp

theorem State.setClaims_frame (s : State) (c : List ClaimEntry) :
    s.keepsAllBut [.fu] (s.setClaims c) := by
  intro p hp
  cases p <;> first | rfl | simp at hp

theorem State.setMic_frame (s : State) (on : Bool) : s.keepsAllBut [.fu] (s.setMic on) := by
  intro p hp
  cases p <;> first | rfl | simp at hp

theorem State.setRecord_frame (s : State) (r : Option DrillRecord) :
    s.keepsAllBut [.dru] (s.setRecord r) := by
  intro p hp
  cases p <;> first | rfl | simp at hp

theorem setDs_frame (s : State) (d : DialStore) : s.keepsAllBut [.ds] { s with ds := d } := by
  intro p hp
  cases p <;> first | rfl | simp at hp

theorem setMissed_frame (s : State) (b : BellScheduler) : s.keepsAllBut [.bs] { s with bs := b } := by
  intro p hp
  cases p <;> first | rfl | simp at hp

/-! ## The Drive Sequencer -/

theorem requestLine_frame (l : LineId) (q : EnergizeRequest) (s : State) :
    s.keepsAllBut [.dsq] (requestLine l q s).1 := by
  unfold requestLine
  split
  · exact s.setLine_frame _ _
  · exact s.keepsAllBut_refl _

theorem withdrawRequest_frame (l : LineId) (i : SlotId) (s : State) :
    s.keepsAllBut [.dsq] (withdrawRequest l i s).1 := by
  unfold withdrawRequest
  extract_lets mine
  split
  · exact s.setLine_frame _ _
  · exact s.keepsAllBut_refl _

theorem requestLine_frame_of {l : LineId} {q : EnergizeRequest} {s t : State} {b : Bool}
    (h : requestLine l q s = (t, b)) : s.keepsAllBut [.dsq] t := by
  have k := requestLine_frame l q s
  rwa [h] at k

theorem withdrawRequest_frame_of {l : LineId} {i : SlotId} {s t : State} {b : Bool}
    (h : withdrawRequest l i s = (t, b)) : s.keepsAllBut [.dsq] t := by
  have k := withdrawRequest_frame l i s
  rwa [h] at k

theorem cancelPlayer_frame (l : LineId) (s : State) : s.keepsAllBut [.dsq] (cancelPlayer l s).1 := by
  unfold cancelPlayer
  dsimp only
  split <;> first | exact s.keepsAllBut_refl _ | exact s.setLine_frame _ _

theorem requestPhase_frame (l : LineId) (age : Nat) (s : State) :
    s.keepsAllBut [.dsq] (requestPhase l age s).1 := by
  unfold requestPhase
  dsimp only
  split <;> rename_i h
  all_goals exact State.keepsAllBut_trans (requestLine_frame_of h) (State.setLine_frame _ _ _)

theorem startPlayer_frame (l : LineId) (pattern : Option (Fin 8)) (s : State) :
    s.keepsAllBut [.dsq] (startPlayer l pattern s).1 := by
  unfold startPlayer
  split
  · exact s.keepsAllBut_refl _
  · exact State.keepsAllBut_trans (cancelPlayer_frame l s)
      (State.keepsAllBut_trans (State.setLine_frame _ _ _) (requestPhase_frame l _ _))

theorem pageSwitchOn_frame (l : LineId) (s : State) : s.keepsAllBut [.dsq] (pageSwitchOn l s).1 := by
  unfold pageSwitchOn
  split
  · exact s.keepsAllBut_refl _
  · split <;> first | exact s.setLine_frame _ _ | exact s.keepsAllBut_refl _

theorem pageSwitchOff_frame (l : LineId) (s : State) : s.keepsAllBut [.dsq] (pageSwitchOff l s) := by
  unfold pageSwitchOff
  split <;> first | exact s.setLine_frame _ _ | exact s.keepsAllBut_refl _

theorem chimeOn_frame (mask : LineMask) (s : State) : s.keepsAllBut [.dsq] (chimeOn mask s) := by
  refine forEach_keepsAllBut (fun l t => ?_) allLines s
  split <;> first | exact t.setLine_frame _ _ | exact t.keepsAllBut_refl _

theorem chimeOff_frame (mask : LineMask) (s : State) : s.keepsAllBut [.dsq] (chimeOff mask s) := by
  refine forEach_keepsAllBut (fun l t => ?_) allLines s
  split <;> first | exact t.setLine_frame _ _ | exact t.keepsAllBut_refl _

theorem cancelChime_frame (s : State) : s.keepsAllBut [.dsq] (cancelChime s) := by
  unfold cancelChime
  split
  · exact s.keepsAllBut_refl _
  all_goals exact State.keepsAllBut_trans (chimeOff_frame _ s) (State.setChime_frame _ _)

theorem startChime_frame (s : State) : s.keepsAllBut [.dsq] (startChime s).1 := by
  unfold startChime
  dsimp only
  split
  · exact cancelChime_frame s
  · exact State.keepsAllBut_trans (cancelChime_frame s)
      (State.keepsAllBut_trans (chimeOn_frame _ _) (State.setChime_frame _ _))

theorem bellStarted_frame (l : LineId) (s : State) : s.keepsAllBut [.za] (bellStarted l s) := by
  unfold bellStarted
  split
  · exact s.keepsAllBut_refl _
  · split <;> first | exact s.setZone_frame _ _ | exact s.keepsAllBut_refl _

theorem reportStarted_frame (l : LineId) (q : EnergizeRequest) (s : State) :
    s.keepsAllBut [.dsq, .du, .za] (reportStarted l q s) := by
  unfold reportStarted
  split
  · exact State.keepsAllBut_mono (s.setSlot_frame _ _) (by simp)
  · dsimp only
    have h := State.keepsAllBut_mono
      (s.setLine_frame l { s.line l with player := { (s.line l).player with state := .on } })
      (many := [.dsq, .du, .za]) (by simp)
    split
    · exact State.keepsAllBut_trans h (State.keepsAllBut_mono (bellStarted_frame l _) (by simp))
    · exact h

theorem grant_frame (l : LineId) (s : State) : s.keepsAllBut [.dsq, .du, .za] (grant l s) := by
  unfold grant
  split
  · exact s.keepsAllBut_refl _
  · refine State.keepsAllBut_trans ?_ (reportStarted_frame _ _ _)
    intro p hp
    cases p <;> first | rfl | simp at hp

theorem arbitrateUpTo_frame (n : Nat) (s : State) :
    s.keepsAllBut [.dsq, .du, .za] (arbitrateUpTo n s) := by
  induction n generalizing s with
  | zero => exact s.keepsAllBut_refl _
  | succ n ih =>
    unfold arbitrateUpTo
    split
    · exact s.keepsAllBut_refl _
    · split
      · exact State.keepsAllBut_trans (grant_frame _ s) (ih _)
      · exact s.keepsAllBut_refl _

/-- R83: the arbiter writes the lines, the slots it reports to and the zones it reports to. -/
theorem arbitrate_frame (s : State) : s.keepsAllBut [.dsq, .du, .za] (arbitrate s) := by
  unfold arbitrate
  split
  · exact arbitrateUpTo_frame 16 s
  · exact s.keepsAllBut_refl _

/-- R83: while requests of the instant may still join, the arbiter grants nothing. -/
theorem arbitrate_of_waiting {s : State} (h : s.allJoined = false) : arbitrate s = s := by
  simp [arbitrate, h]

/-! ## The Dial Store and the Dial Unit -/

theorem requestSnapshot_frame (s : State) : s.keepsAllBut [.ds] (requestSnapshot s) := by
  unfold requestSnapshot startWrite
  split <;> exact setDs_frame s _

theorem storeIdle_frame (s : State) : s.keepsAllBut [.ds] (storeIdle s) := by
  unfold storeIdle startErase startWrite
  split
  · exact setDs_frame s _
  · split
    · exact State.keepsAllBut_trans (setDs_frame s _) (setDs_frame _ _)
    · exact s.keepsAllBut_refl _

theorem tryImpulse_frame (i : SlotId) (s : State) : s.keepsAllBut [.dsq, .du] (tryImpulse i s) := by
  unfold tryImpulse
  dsimp only
  split
  · exact s.keepsAllBut_refl _
  · split
    · split <;> rename_i h
      · exact State.keepsAllBut_trans (State.keepsAllBut_mono (requestLine_frame_of h) (by simp))
          (State.keepsAllBut_mono (State.setSlot_frame _ _ _) (by simp))
      · exact State.keepsAllBut_mono (requestLine_frame_of h) (by simp)
    · exact s.keepsAllBut_refl _

theorem recompute_frame (i : SlotId) (s : State) : s.keepsAllBut [.dsq, .du] (recompute i s) := by
  unfold recompute
  split
  · exact s.keepsAllBut_refl _
  · dsimp only
    have w (d : DialSlot) : s.keepsAllBut [.dsq, .du] (s.setSlot i d) :=
      State.keepsAllBut_mono (s.setSlot_frame i d) (by simp)
    split
    · exact State.keepsAllBut_trans (w _) (tryImpulse_frame i _)
    · exact w _
    · split
      · exact w _
      · split <;> rename_i h
        · exact State.keepsAllBut_trans (State.keepsAllBut_trans (w _)
            (State.keepsAllBut_mono (withdrawRequest_frame_of h) (by simp)))
              (State.keepsAllBut_mono (State.setSlot_frame _ _ _) (by simp))
        · exact State.keepsAllBut_trans (w _)
            (State.keepsAllBut_mono (withdrawRequest_frame_of h) (by simp))

theorem recomputeAll_frame (s : State) : s.keepsAllBut [.dsq, .du] (recomputeAll s) :=
  forEach_keepsAllBut recompute_frame allSlots s

theorem endImpulse_frame (i : SlotId) (dial : Option Nat) (polarity : Polarity) (s : State) :
    s.keepsAllBut [.dsq, .du, .ds] (endImpulse i dial polarity s) := by
  unfold endImpulse
  dsimp only
  have w (d : DialSlot) : s.keepsAllBut [.dsq, .du, .ds] (recompute i (s.setSlot i d)) :=
    State.keepsAllBut_trans (State.keepsAllBut_mono (s.setSlot_frame i d) (by simp))
      (State.keepsAllBut_mono (recompute_frame i _) (by simp))
  split
  · exact State.keepsAllBut_trans (w _) (State.keepsAllBut_mono (requestSnapshot_frame _) (by simp))
  · exact w _

/-! ## The Zone Arbiter -/

theorem bellMissed_frame (b : Bell) (s : State) : s.keepsAllBut [.bs] (bellMissed b s) := by
  unfold bellMissed
  split <;> exact setMissed_frame s _

theorem popZone_frame (z : ZoneId) (s : State) : s.keepsAllBut [.za] (popZone z s) :=
  s.setZone_frame _ _

theorem releaseAt_frame (is : Owner → Bool) (z : ZoneId) (s : State) :
    s.keepsAllBut [.za] (releaseAt is z s) := by
  unfold releaseAt
  dsimp only
  split
  · split
    · exact State.keepsAllBut_trans (s.setZone_frame _ _) (popZone_frame _ _)
    · exact s.setZone_frame _ _
  · exact s.setZone_frame _ _

/-- R110: a release writes the zones alone. -/
theorem releaseEverywhere_frame (is : Owner → Bool) (s : State) :
    s.keepsAllBut [.za] (releaseEverywhere is s) :=
  forEach_keepsAllBut (releaseAt_frame is) allZones s

theorem displace_frame (toYield : Bool) (new : Owner) (z : ZoneId) (s : State) :
    s.keepsAllBut [.za, .bs] (displace toYield new z s) := by
  unfold displace
  dsimp only
  have w (r : Zone) : s.keepsAllBut [.za, .bs] (s.setZone z r) :=
    State.keepsAllBut_mono (s.setZone_frame z r) (by simp)
  split
  · exact w _
  · split
    · exact State.keepsAllBut_trans (w _) (State.keepsAllBut_mono (bellMissed_frame _ _) (by simp))
    · exact w _
  · exact w _

theorem bellRequest_frame (b : Bell) (z : ZoneId) (s : State) :
    s.keepsAllBut [.za, .bs] (bellRequest b z s) := by
  have m : s.keepsAllBut [.za, .bs] (bellMissed b s) :=
    State.keepsAllBut_mono (bellMissed_frame b s) (by simp)
  have w (r : Zone) : s.keepsAllBut [.za, .bs] (s.setZone z r) :=
    State.keepsAllBut_mono (s.setZone_frame z r) (by simp)
  unfold bellRequest
  dsimp only
  split
  · exact m
  · split
    · exact m
    · split
      · exact m
      · split <;> first | exact m | exact w _ | exact s.keepsAllBut_refl _

theorem yieldRequest_frame (z : ZoneId) (s : State) : s.keepsAllBut [.za, .bs] (yieldRequest z s) := by
  unfold yieldRequest
  split
  · exact s.keepsAllBut_refl _
  · dsimp only
    have w : s.keepsAllBut [.za, .bs] (s.setZone z { s.zone z with deferred := none }) :=
      State.keepsAllBut_mono (s.setZone_frame z _) (by simp)
    split
    · exact State.keepsAllBut_trans (State.keepsAllBut_trans w
        (State.keepsAllBut_mono (bellMissed_frame _ _) (by simp))) (displace_frame _ _ _ _)
    · exact State.keepsAllBut_trans w (displace_frame _ _ _ _)

theorem examineDeferred_frame (z : ZoneId) (s : State) :
    s.keepsAllBut [.za, .bs] (examineDeferred z s) := by
  unfold examineDeferred
  dsimp only
  split
  · exact s.keepsAllBut_refl _
  · have w : s.keepsAllBut [.za, .bs] (s.setZone z { s.zone z with deferred := none }) :=
      State.keepsAllBut_mono (s.setZone_frame z _) (by simp)
    have m (b : Bell) := State.keepsAllBut_trans w
      (State.keepsAllBut_mono (bellMissed_frame b _) (by simp))
    split
    · exact m _
    · split
      · exact m _
      · split
        · exact State.keepsAllBut_trans w (State.keepsAllBut_mono (State.setZone_frame _ _ _) (by simp))
        · exact m _

theorem syncTrunk_frame (s : State) : s.keepsAllBut [.za] (syncTrunk s) := by
  intro p hp
  cases p <;> first | rfl | simp at hp

theorem pageLineOff_frame (z : ZoneId) (s : State) : s.keepsAllBut [.za, .dsq] (pageLineOff z s) := by
  unfold pageLineOff
  split
  · split
    · exact State.keepsAllBut_trans (State.keepsAllBut_mono (pageSwitchOff_frame _ s) (by simp))
        (State.keepsAllBut_mono (State.setZone_frame _ _ _) (by simp))
    · exact s.keepsAllBut_refl _
  · exact s.keepsAllBut_refl _

theorem pageLineOn_frame (z : ZoneId) (s : State) : s.keepsAllBut [.za, .dsq] (pageLineOn z s) := by
  unfold pageLineOn
  split
  · exact State.keepsAllBut_trans (State.keepsAllBut_mono (pageSwitchOn_frame _ s) (by simp))
      (State.keepsAllBut_mono (State.setZone_frame _ _ _) (by simp))
  · exact s.keepsAllBut_refl _

theorem sounderOff_frame (z : ZoneId) (s : State) : s.keepsAllBut [.za, .dsq] (sounderOff z s) := by
  unfold sounderOff
  split
  · split
    · exact State.keepsAllBut_trans (State.keepsAllBut_mono (cancelPlayer_frame _ s) (by simp))
        (State.keepsAllBut_mono (State.setZone_frame _ _ _) (by simp))
    · exact s.keepsAllBut_refl _
  · exact s.keepsAllBut_refl _

theorem sounderStart_frame (z : ZoneId) (s : State) : s.keepsAllBut [.za, .dsq] (sounderStart z s) := by
  unfold sounderStart
  split
  · exact State.keepsAllBut_trans (State.keepsAllBut_mono (startPlayer_frame _ none s) (by simp))
      (State.keepsAllBut_mono (State.setZone_frame _ _ _) (by simp))
  · exact s.keepsAllBut_refl _

theorem cutBellPlayer_frame (l : LineId) (z : ZoneId) (s : State) :
    s.keepsAllBut [.za, .dsq] (cutBellPlayer l z s) := by
  unfold cutBellPlayer
  have k := State.keepsAllBut_mono (cancelPlayer_frame l s) (many := [.za, .dsq]) (by simp)
  split <;> rename_i h <;> rw [h] at k
  · exact State.keepsAllBut_trans k (State.keepsAllBut_mono (State.setZone_frame _ _ _) (by simp))
  · exact k

theorem stopEffects_frame (old : Option Owner) (z : ZoneId) (s : State) :
    s.keepsAllBut [.za, .dsq] (stopEffects old z s) := by
  unfold stopEffects
  split
  · split
    · exact cutBellPlayer_frame _ _ _
    · exact s.keepsAllBut_refl _
  · split <;> first | exact s.keepsAllBut_refl _ | exact pageLineOff_frame _ _
  · exact sounderOff_frame _ _
  · exact s.keepsAllBut_refl _
  · exact s.keepsAllBut_refl _

theorem startEffects_frame (z : ZoneId) (s : State) :
    s.keepsAllBut [.za, .dsq] (startEffects z s) := by
  unfold startEffects
  split
  · exact s.keepsAllBut_refl _
  · split
    · split
      · exact State.keepsAllBut_mono (startPlayer_frame _ _ s) (by simp)
      · exact s.keepsAllBut_refl _
    · exact pageLineOn_frame _ _
    · split <;> first | exact sounderStart_frame _ _ | exact s.keepsAllBut_refl _
    · exact s.keepsAllBut_refl _
    · exact s.keepsAllBut_refl _

theorem settleZone_frame (old : Zone) (z : ZoneId) (s : State) :
    s.keepsAllBut [.za, .dsq, .bs] (settleZone old z s) := by
  have goOn (s1 : State) (e : s.keepsAllBut [.za, .dsq, .bs] s1) : s.keepsAllBut [.za, .dsq, .bs]
      (if (s1.zone z).owner = old.owner then s1 else startEffects z (stopEffects old.owner z s1)) := by
    split
    · exact e
    · exact State.keepsAllBut_trans e (State.keepsAllBut_trans
        (State.keepsAllBut_mono (stopEffects_frame old.owner z s1) (by simp))
        (State.keepsAllBut_mono (startEffects_frame z _) (by simp)))
  refine goOn _ ?_
  split
  · exact State.keepsAllBut_mono (examineDeferred_frame z s) (by simp)
  · exact s.keepsAllBut_refl _

/-- R111 to R113, R117: the end of a change writes the zones, their lines and the count of bells missed. -/
theorem settleZones_frame (old : Vector Zone 8) (s : State) :
    s.keepsAllBut [.za, .dsq, .bs] (settleZones old s) :=
  State.keepsAllBut_trans
    (forEach_keepsAllBut (fun z t => settleZone_frame old[z] z t) allZones s)
    (State.keepsAllBut_mono (syncTrunk_frame _) (by simp))

/-! ## The Yard Line Controller -/

theorem reportLost_frame (f : OutFrame) (s : State) : s.keepsAllBut [.fu] (reportLost f s) := by
  unfold reportLost claimLost showRefusal
  split
  · split
    · split
      · exact State.keepsAllBut_trans (s.setOwn_frame none) (State.setKey_frame _ _ _)
      · exact s.keepsAllBut_refl _
    · exact s.keepsAllBut_refl _
  · exact s.keepsAllBut_refl _

theorem joinQueue_frame (f : OutFrame) (s : State) : s.keepsAllBut [.ylc] (joinQueue f s) :=
  s.setYlc_frame _

theorem dropAtFull_frame (f : OutFrame) (s : State) : s.keepsAllBut [.ylc, .fu] (dropAtFull f s) :=
  State.keepsAllBut_trans (State.keepsAllBut_mono (s.setYlc_frame _) (by simp))
    (State.keepsAllBut_mono (reportLost_frame f _) (by simp))

/-- R26, R27, R30: a request to queue a frame writes the YLC, and the FU where its CLAIM is dropped. -/
theorem enqueue_frame (f : OutFrame) (s : State) : s.keepsAllBut [.ylc, .fu] (enqueue f s) := by
  unfold enqueue
  split
  · exact State.keepsAllBut_mono (reportLost_frame f s) (by simp)
  · split
    · exact State.keepsAllBut_mono (joinQueue_frame f s) (by simp)
    · split
      · exact dropAtFull_frame f s
      · dsimp only
        have j (t : State) : t.keepsAllBut [.ylc, .fu] (joinQueue f t) :=
          State.keepsAllBut_mono (joinQueue_frame f t) (by simp)
        have y (q : List QueuedFrame) :
            s.keepsAllBut [.ylc, .fu] (s.setYlc { s.ylc with queue := q }) :=
          State.keepsAllBut_mono (s.setYlc_frame _) (by simp)
        split
        · exact State.keepsAllBut_trans (State.keepsAllBut_trans (y _) (dropAtFull_frame _ _)) (j _)
        · exact State.keepsAllBut_trans (y _) (j _)

theorem beginTransmission_frame (s : State) : s.keepsAllBut [.ylc] (beginTransmission s) := by
  unfold beginTransmission
  split
  · exact s.keepsAllBut_refl _
  · split
    · exact s.keepsAllBut_refl _
    · refine State.keepsAllBut_trans ?_ (State.setYlc_frame _ _)
      unfold takeInvert
      split
      · split
        · exact State.keepsAllBut_trans (s.setYlc_frame _) (State.setYlc_frame _ _)
        · exact s.keepsAllBut_refl _
      · exact s.keepsAllBut_refl _

/-- R31: the selection of the head writes the YLC alone. -/
theorem selectNext_frame (s : State) : s.keepsAllBut [.ylc] (selectNext s) := by
  unfold selectNext
  split
  · exact s.keepsAllBut_refl _
  · split
    · exact s.keepsAllBut_refl _
    · split
      · exact s.keepsAllBut_refl _
      · rename_i i _ _ q _
        refine State.keepsAllBut_trans (t := s.setQueued i { q with selected := true })
          (s.setYlc_frame _) ?_
        unfold beginAttempt
        dsimp only
        split
        · exact State.keepsAllBut_trans (State.setYlc_frame _ _) (beginTransmission_frame _)
        · exact State.setYlc_frame _ _

/-- What a step ends with writes the YLC, the lines and the slots and zones they report to. -/
theorem endOfStep_frame (s : State) : s.keepsAllBut [.ylc, .dsq, .du, .za] (endOfStep s) :=
  State.keepsAllBut_trans (State.keepsAllBut_mono (syncTrunk_frame s) (by simp))
    (State.keepsAllBut_trans (State.keepsAllBut_mono (arbitrate_frame _) (by simp))
      (State.keepsAllBut_mono (selectNext_frame _) (by simp)))

/-! ## The Floor Unit -/

theorem floorLeavesView_frame (s : State) : s.keepsAllBut [.fu, .za] (floorLeavesView s) := by
  unfold floorLeavesView
  split
  · exact s.keepsAllBut_refl _
  · exact State.keepsAllBut_trans (State.keepsAllBut_mono (s.setView_frame none) (by simp))
      (State.keepsAllBut_mono (releaseEverywhere_frame _ _) (by simp))

theorem floorLeaves_frame (holder : Station) (number : Byte) (s : State) :
    s.keepsAllBut [.fu, .za] (floorLeaves holder number s) := by
  unfold floorLeaves
  split <;> first | exact floorLeavesView_frame s | exact s.keepsAllBut_refl _

theorem ownIdle_frame (s : State) : s.keepsAllBut [.fu, .dsq] (ownIdle s) :=
  State.keepsAllBut_trans
    (State.keepsAllBut_trans (State.keepsAllBut_mono (s.setOwn_frame none) (by simp))
      (State.keepsAllBut_mono (State.setMic_frame _ _) (by simp)))
    (State.keepsAllBut_mono (cancelChime_frame _) (by simp))

end Sys2Proof.Machine
end

