-- ==== Sys2Proof/Laws/Step.lean ====
section
/-! SUPPORT. What the end of a step does, and how the shared operations of the zones and of the queue answer,
said once for the proofs that cite them. -/

namespace Sys2Proof.Machine

/-! ## Commands of a station that is up -/

theorem whenUp_of_up {f : State → State} {s : State} (h : s.up = true) : whenUp f s = f s := by
  simp [whenUp, h]

theorem whenUp_of_down {f : State → State} {s : State} (h : s.up = false) : whenUp f s = s := by
  simp [whenUp, h]

theorem change_of_up {f : State → State} {s : State} (h : s.up = true) : change f s = asOneChange f s :=
  whenUp_of_up h

theorem change_of_down {f : State → State} {s : State} (h : s.up = false) : change f s = s :=
  whenUp_of_down h

/-! ## The end of a change -/

/-- A zone whose owner is the one it had needs nothing at the end of a change. -/
theorem settleZone_same {old : Zone} {z : ZoneId} {s : State} (h : (s.zone z).owner = old.owner) :
    settleZone old z s = s := by
  have k : ((s.zone z).owner.isNone && old.owner.isSome) = false := by
    rw [h]
    cases old.owner <;> rfl
  unfold settleZone
  rw [k]
  simp [h]

theorem forEach_same {α : Type} {f : α → State → State} {items : List α} {s : State}
    (h : ∀ a ∈ items, f a s = s) : forEach items f s = s := by
  induction items with
  | nil => rfl
  | cons a rest ih =>
    have e : forEach (a :: rest) f s = forEach rest f (f a s) := rfl
    rw [e, h a (by simp)]
    exact ih fun b hb => h b (by simp [hb])

/-- Where every zone has the owner it had, the end of a change is TRUNK-SELECT alone. -/
theorem settleZones_same {old : Vector Zone 8} {s : State}
    (h : ∀ z : ZoneId, (s.zone z).owner = old[z].owner) : settleZones old s = syncTrunk s := by
  unfold settleZones
  rw [forEach_same fun z _ => settleZone_same (h z)]

/-- A step's effect that leaves every zone its owner ends with `endOfStep`. -/
theorem asOneChange_same {f : State → State} {s : State}
    (h : ∀ z : ZoneId, ((f s).zone z).owner = (s.zone z).owner) : asOneChange f s = endOfStep (f s) := by
  unfold asOneChange endOfStep
  rw [settleZones_same h]

/-- The same for an effect that does not touch the zones. -/
theorem asOneChange_of_za {f : State → State} {s : State} (h : (f s).za = s.za) :
    asOneChange f s = endOfStep (f s) :=
  asOneChange_same fun z => by simp [State.zone, h]

/-! ## Releases -/

/-- R111: an entry that the check discards does not come back from the stack. -/
theorem popStack_mem {keep : Owner → Bool} {stack : List Owner} {o : Owner}
    (h : (popStack keep stack).1 = some o ∨ o ∈ (popStack keep stack).2) : o ∈ stack := by
  induction stack with
  | nil => simp [popStack] at h
  | cons a rest ih =>
    unfold popStack at h
    split at h
    · rcases h with h | h
      · simp_all
      · simp_all
    · exact List.mem_cons_of_mem _ (ih h)

/-- R110: after a release at a zone, the zone holds no owner released. -/
theorem releaseAt_zone (is : Owner → Bool) (z : ZoneId) (s : State) :
    (∀ o, ((releaseAt is z s).zone z).owner = some o → is o = false) ∧
    ∀ o ∈ ((releaseAt is z s).zone z).stack, is o = false := by
  have filtered : ∀ o ∈ (s.zone z).stack.filter (fun o => !is o), is o = false := by simp
  unfold releaseAt
  dsimp only
  split
  · rename_i o h
    split
    · refine ⟨fun p hp => filtered p ?_, fun p hp => filtered p ?_⟩
      · exact popStack_mem (Or.inl (by simpa [popZone] using hp))
      · exact popStack_mem (Or.inr (by simpa [popZone] using hp))
    · refine ⟨fun p hp => ?_, by simp⟩
      simp only [State.setZone_zone_same, h, Option.some.injEq] at hp
      simp_all
  · rename_i h
    simp [h]

/-- R110: a release at one zone leaves the other zones. -/
theorem releaseAt_other (is : Owner → Bool) {z y : ZoneId} (h : y ≠ z) (s : State) :
    (releaseAt is z s).zone y = s.zone y := by
  unfold releaseAt
  dsimp only
  split
  · split
    · simp [popZone, h]
    · simp [h]
  · simp [h]

theorem forEach_releaseAt_other (is : Owner → Bool) {items : List ZoneId} {y : ZoneId} (h : y ∉ items)
    (s : State) : (forEach items (releaseAt is) s).zone y = s.zone y := by
  induction items generalizing s with
  | nil => rfl
  | cons a rest ih =>
    simp only [List.mem_cons, not_or] at h
    have e : forEach (a :: rest) (releaseAt is) s = forEach rest (releaseAt is) (releaseAt is a s) := rfl
    rw [e, ih h.2, releaseAt_other is h.1]

theorem forEach_releaseAt_zone (is : Owner → Bool) {items : List ZoneId} (nodup : items.Nodup)
    {y : ZoneId} (h : y ∈ items) (s : State) :
    (∀ o, ((forEach items (releaseAt is) s).zone y).owner = some o → is o = false) ∧
    ∀ o ∈ ((forEach items (releaseAt is) s).zone y).stack, is o = false := by
  induction items generalizing s with
  | nil => simp at h
  | cons a rest ih =>
    have e : forEach (a :: rest) (releaseAt is) s = forEach rest (releaseAt is) (releaseAt is a s) := rfl
    rw [e]
    simp only [List.nodup_cons] at nodup
    rcases List.mem_cons.mp h with rfl | h
    · rw [forEach_releaseAt_other is nodup.1]
      exact releaseAt_zone is y s
    · exact ih nodup.2 h _

/-- R110: after a release at every zone, no zone holds an owner released. -/
theorem releaseEverywhere_nowhere (is : Owner → Bool) (s : State) : (releaseEverywhere is s).nowhere is :=
  fun z => forEach_releaseAt_zone is (List.nodup_finRange 8) (List.mem_finRange z) s

/-- R143: a floor that leaves the view stands at no zone. -/
theorem floorLeavesView_spec {s : State} {v : FloorView} (h : s.fu.view = some v) :
    (floorLeavesView s).fu = { s.fu with view := none } ∧
    (floorLeavesView s).nowhere (Owner.isFloor v.holder v.number) := by
  unfold floorLeavesView
  rw [h]
  exact ⟨releaseEverywhere_frame _ _ .fu (by simp), releaseEverywhere_nowhere _ _⟩

/-! ## The transmit queue -/

/-- R27: a request for which there is room joins. -/
theorem enqueue_of_room {f : OutFrame} {s : State} (takes : s.takesFrame f = true)
    (room : s.ylc.queue.length < 8) : enqueue f s = joinQueue f s := by
  simp [enqueue, takes, room, Config.queueLimit]

/-- R26: a request the station does not take in its state. -/
theorem enqueue_of_refused {f : OutFrame} {s : State} (takes : s.takesFrame f = false) :
    enqueue f s = reportLost f s := by
  simp [enqueue, takes]

theorem takesFrame_of_running {f : OutFrame} {s : State} (h : s.running = true) :
    s.takesFrame f = true := by
  simp [State.takesFrame, h]

/-! ## The Dial Store -/

/-- R189: a request starts a write of the values of now in an idle store with a slot left and no request held,
and is held otherwise. -/
theorem requestSnapshot_cases (s : State) :
    (s.ds.activity = .idle ∧ s.ds.next < 32 ∧ s.ds.pendingSnapshot = false ∧
      requestSnapshot s = { s with ds := { s.ds with activity := .writing s.snapshotNow (s.now + 5) } }) ∨
    requestSnapshot s = { s with ds := { s.ds with pendingSnapshot := true } } := by
  unfold requestSnapshot
  split
  · rename_i h
    exact Or.inl ⟨h.1, h.2.1, h.2.2, rfl⟩
  · exact Or.inr rfl

end Sys2Proof.Machine
end

