-- ==== Sys2Proof/Laws/Heard.lean ====
section
/-! SUPPORT. How a good frame of a peer is taken: what its acceptance leaves (`State.heardFrom`), and what a
step that hears it ends with. -/

namespace Sys2Proof.Machine

/-! ## `State.heardFrom` -/

@[simp] theorem State.heardFrom_powered (s : State) (n : Station) : (s.heardFrom n).powered = s.powered := rfl

@[simp] theorem State.heardFrom_rst (s : State) (n : Station) : (s.heardFrom n).rst = s.rst := rfl

@[simp] theorem State.heardFrom_tb (s : State) (n : Station) : (s.heardFrom n).tb = s.tb := rfl

@[simp] theorem State.heardFrom_du (s : State) (n : Station) : (s.heardFrom n).du = s.du := rfl

@[simp] theorem State.heardFrom_dsq (s : State) (n : Station) : (s.heardFrom n).dsq = s.dsq := rfl

@[simp] theorem State.heardFrom_za (s : State) (n : Station) : (s.heardFrom n).za = s.za := rfl

@[simp] theorem State.heardFrom_bs (s : State) (n : Station) : (s.heardFrom n).bs = s.bs := rfl

@[simp] theorem State.heardFrom_fu (s : State) (n : Station) : (s.heardFrom n).fu = s.fu := rfl

@[simp] theorem State.heardFrom_dru (s : State) (n : Station) : (s.heardFrom n).dru = s.dru := rfl

@[simp] theorem State.heardFrom_ds (s : State) (n : Station) : (s.heardFrom n).ds = s.ds := rfl

@[simp] theorem State.heardFrom_sp (s : State) (n : Station) : (s.heardFrom n).sp = s.sp := rfl

@[simp] theorem State.heardFrom_pending (s : State) (n : Station) : (s.heardFrom n).pending = s.pending := rfl

@[simp] theorem State.heardFrom_up (s : State) (n : Station) : (s.heardFrom n).up = s.up := rfl

@[simp] theorem State.heardFrom_running (s : State) (n : Station) : (s.heardFrom n).running = s.running := rfl

@[simp] theorem State.heardFrom_listening (s : State) (n : Station) : (s.heardFrom n).listening = s.listening := rfl

@[simp] theorem State.heardFrom_taking (s : State) (n : Station) : (s.heardFrom n).taking = s.taking := rfl

@[simp] theorem State.heardFrom_loaded (s : State) (n : Station) : (s.heardFrom n).loaded = s.loaded := rfl

@[simp] theorem State.heardFrom_faultValid (s : State) (n : Station) : (s.heardFrom n).faultValid = s.faultValid := rfl

@[simp] theorem State.heardFrom_delivers (s : State) (n : Station) : (s.heardFrom n).delivers = s.delivers := rfl

@[simp] theorem State.heardFrom_now (s : State) (n : Station) : (s.heardFrom n).now = s.now := rfl

@[simp] theorem State.heardFrom_school (s : State) (n : Station) : (s.heardFrom n).school = s.school := rfl

@[simp] theorem State.heardFrom_own (s : State) (n : Station) : (s.heardFrom n).own = s.own := rfl

@[simp] theorem State.heardFrom_answersAsks (s : State) (n : Station) : (s.heardFrom n).answersAsks = s.answersAsks := rfl

@[simp] theorem State.heardFrom_queue (s : State) (n : Station) :
    (s.heardFrom n).ylc.queue = s.ylc.queue := rfl

@[simp] theorem State.heardFrom_pt (s : State) (n : Station) :
    (s.heardFrom n).pt = s.pt.set n ((s.peer n).heardAt s.now) := rfl

/-! ## Acceptance -/

/-- R37 to R40, R48: a good frame of a peer, in a state that delivers it. -/
theorem accept_hears {sender : Byte} {n : Station} {s : State} (h : s.hears sender n)
    (deliver : Station → ReceiveStamp → State → State) :
    accept sender deliver s = deliver n s.receiveStamp (s.heardFrom n) := by
  obtain ⟨-, sending, named, foreign, delivers⟩ := h
  have clash : (s.own.isSome && some n == s.own) = false := by
    cases own : s.own with
    | none => rfl
    | some m =>
      simp only [Option.isSome_some, Bool.true_and, beq_eq_false_iff_ne, ne_eq, Option.some.injEq]
      exact fun e => foreign (by rw [own, e])
  have same : ((s.setYlc s.ylc.hunt).setYlc (s.setYlc s.ylc.hunt).ylc.countGood).delivers = true := delivers
  unfold accept
  simp only [sending, named, clash, same]
  rfl

/-- A step that hears a frame which leaves every zone its owner ends with `endOfStep`. -/
theorem heard_same {sender : Byte} {n : Station} {s : State} (h : s.hears sender n)
    (deliver : Station → ReceiveStamp → State → State)
    (zones : ∀ z : ZoneId,
      ((deliver n s.receiveStamp (s.heardFrom n)).zone z).owner = (s.zone z).owner) :
    heard sender deliver s = .next (endOfStep (deliver n s.receiveStamp (s.heardFrom n))) := by
  unfold heard
  rw [change_of_up h.1, asOneChange_same (by rw [accept_hears h]; exact zones), accept_hears h]

/-- The same for a frame that does not touch the zones. -/
theorem heard_of_za {sender : Byte} {n : Station} {s : State} (h : s.hears sender n)
    (deliver : Station → ReceiveStamp → State → State)
    (zones : (deliver n s.receiveStamp (s.heardFrom n)).za = s.za) :
    heard sender deliver s = .next (endOfStep (deliver n s.receiveStamp (s.heardFrom n))) :=
  heard_same h deliver fun z => by simp [State.zone, zones]

/-! ## The lists a frame changes -/

/-- R123: an override stands behind every override of a day not later than its own. -/
theorem insertOverride_eq (day : Nat) (code : PlanCode) (list : List (Nat × PlanCode)) :
    insertOverride day code list =
      list.takeWhile (fun o => decide (o.1 ≤ day)) ++
        (day, code) :: list.dropWhile (fun o => decide (o.1 ≤ day)) := by
  induction list with
  | nil => rfl
  | cons o rest ih =>
    unfold insertOverride
    split
    · rename_i h
      simp [Nat.not_le.mpr h]
    · rename_i h
      simp [Nat.not_lt.mp h, ih]

end Sys2Proof.Machine
end

