-- ==== Sys2Proof/Laws/Ops.lean ====
section
/-! SUPPORT. What the shared operations on one record answer, each said once: the proofs above them cite these
and do not unfold the operations. -/

namespace Sys2Proof.Machine

/-! ## Drive lines -/

/-- R81: a request joins the grant list in RUNNING on an OFF line, and is refused otherwise. -/
theorem requestLine_cases (l : LineId) (q : EnergizeRequest) (s : State) :
    (s.running = true ∧ (s.line l).state = .off ∧
      requestLine l q s = (s.setLine l { s.line l with state := .waiting, request := some q }, true)) ∨
    ((s.running = false ∨ (s.line l).state ≠ .off) ∧ requestLine l q s = (s, false)) := by
  unfold requestLine
  split
  · rename_i h
    simp only [Bool.and_eq_true, beq_iff_eq] at h
    exact Or.inl ⟨h.1, h.2, rfl⟩
  · rename_i h
    simp only [Bool.and_eq_true, beq_iff_eq, not_and_or, Bool.not_eq_true] at h
    exact Or.inr ⟨h, rfl⟩

/-- R89: a switch-on of a PAGE line leaves every other line. -/
theorem pageSwitchOn_other (l m : LineId) (h : m ≠ l) (s : State) :
    (pageSwitchOn l s).1.line m = s.line m := by
  unfold pageSwitchOn
  split
  · rfl
  · split
    · simp [h]
    · rfl

/-- R88: a cancel leaves the line with its player idle and, but for the player, as it was or turned off. -/
theorem cancelPlayer_line (l : LineId) (s : State) :
    ((cancelPlayer l s).1.line l).player.state = .idle ∧
    ((cancelPlayer l s).1.line l).kind = (s.line l).kind ∧
    ((cancelPlayer l s).1.line l).cls = (s.line l).cls := by
  unfold cancelPlayer
  dsimp only
  split
  · rename_i h
    exact ⟨h, rfl, rfl⟩
  all_goals simp [LineRecord.turnedOff]

/-- R88: a cancel leaves every other line. -/
theorem cancelPlayer_other (l m : LineId) (h : m ≠ l) (s : State) :
    (cancelPlayer l s).1.line m = s.line m := by
  unfold cancelPlayer
  dsimp only
  split <;> first | rfl | simp [h]

/-- R94, R95: what a supervision slot picks: the locked line unless it is ENERGIZED, or the first eligible position
after the pointer, which is then the pointer. -/
theorem slotPick_cases (s : State) :
    (∃ l, s.dsq.locked = some l ∧
      s.slotPick = (if (s.line l).state == .energized then none else some l, s.dsq.pointer)) ∨
    (s.dsq.locked = none ∧ ∃ p,
      (positionsAfter s.dsq.pointer).find? (fun p => s.eligible s.dsq.scanOrder[p]) = some p ∧
      s.slotPick = (some s.dsq.scanOrder[p], some p)) ∨
    (s.dsq.locked = none ∧
      (positionsAfter s.dsq.pointer).find? (fun p => s.eligible s.dsq.scanOrder[p]) = none ∧
      s.slotPick = (none, s.dsq.pointer)) := by
  unfold State.slotPick
  split
  · rename_i l h
    exact .inl ⟨l, h, rfl⟩
  · rename_i h
    split
    · rename_i p k
      exact .inr (.inl ⟨h, p, k, rfl⟩)
    · rename_i k
      exact .inr (.inr ⟨h, k, rfl⟩)

/-! ## The dial store -/

/-- R76: what a snapshot takes of a slot: D where a line is bound, and in CONFIG-FAULT; UNSET elsewhere; and the
polarity it holds. -/
theorem State.dialReadings_get (s : State) (i : SlotId) :
    s.dialReadings[i] =
      { dial := if (s.slot i).line ≠ none ∨ s.sp.config = .configFault then (s.slot i).dial else none
        polarity := (s.slot i).polarity } := by
  simp [State.dialReadings, DialSlot.reading, State.slot, Option.isSome_iff_ne_none]
  congr

/-- R189: a request begins a snapshot in an idle store with a slot left and none pending, and is pending otherwise. -/
theorem requestSnapshot_asked (s : State) : s.snapshotAsked s.dialReadings (requestSnapshot s) := by
  unfold State.snapshotAsked requestSnapshot
  split <;> rfl

/-! ## The receiver, the page keys and the display -/

/-- R23, R32: a start bit sets BUSY, and keeps the slots not counted of a countdown. -/
theorem setBusy_eq (counted : Nat) (s : State) :
    setBusy counted s = s.setYlc { s.ylc with
      busy := true
      attempt :=
        match s.countingDown, s.ylc.attempt with
        | true, .waiting n => .waiting (n - counted)
        | _, a => a } := by
  unfold setBusy
  cases s.countingDown <;> cases h : s.ylc.attempt <;> simp [State.setYlc, h]

/-- A start bit leaves the receiver and the link counts to the character that it begins. -/
@[simp] theorem setBusy_receive (counted : Nat) (s : State) :
    (setBusy counted s).ylc.receive = s.ylc.receive := by
  rw [setBusy_eq]
  rfl

/-- R33: a start bit neither begins nor ends a transmission of the station. -/
@[simp] theorem setBusy_transmitting (counted : Nat) (s : State) :
    (setBusy counted s).transmitting = s.transmitting := by
  unfold setBusy
  split
  · rename_i h
    simp [State.transmitting, State.setYlc, h]
  · rfl

/-- R37, R38: what a character taken in can do: a length above 64 takes the receiver to HUNT with its stamp dropped,
counted as a CRC error unless the station transmits; any other moves the receive state on. -/
theorem takeCharacter_cases (character : Byte) (s : State) :
    (s.ylc.receive.lengthFault character = true ∧ s.transmitting = false ∧
      takeCharacter character s = s.setYlc s.ylc.hunt.countCrcError) ∨
    (s.ylc.receive.lengthFault character = true ∧ s.transmitting = true ∧
      takeCharacter character s = s.setYlc s.ylc.hunt) ∨
    (s.ylc.receive.lengthFault character = false ∧
      takeCharacter character s =
        s.setYlc { s.ylc with receive := s.ylc.receive.afterCharacter character }) := by
  unfold takeCharacter
  cases h : s.ylc.receive.lengthFault character
  · exact .inr (.inr ⟨rfl, rfl⟩)
  · have inside : s.ylc.receive ≠ .hunt := by
      intro k
      simp [k, ReceiveState.lengthFault] at h
    cases k : s.transmitting <;> simp [receiveAbort, inside, k]

/-- R142: a flash repeats after its time on and its time off. -/
@[simp] theorem flashOn_period (ms elapsed : Nat) : flashOn ms (elapsed + 2 * ms) = flashOn ms elapsed := by
  simp [flashOn]

/-- R142, R161: with the station up and in LISTENING or RUNNING, the lamp shows what the own record of its key calls
for, and else whether a refusal is shown. -/
theorem lamp_of_taking (s : State) (k : KeyId) (up : s.up = true) (taking : s.taking = true) :
    s.lamp k =
      match (s.ownOfKey k).map OwnClaim.phase with
      | some .chiming | some .live => .steady
      | some .claiming | some .gathering => .slowFlash
      | none => if s.refusalShown k then .fastFlash else .off := by
  unfold State.lamp
  rw [up, taking]
  rfl

/-- R207: a display word shifted leaves the word, the time of the next and CSD off. -/
theorem shiftDisplay_eq (s : State) :
    shiftDisplay s = { s with
      sp := { s.sp with
        csd := false, displayWord := some s.displayWordNow, displayDue := some (s.now + 1000) } } := rfl

/-- R142: a key followed while the part is not up is held or not, and no more armed than it was. -/
@[simp] theorem setHeld_key (k : KeyId) (held : Bool) (s : State) :
    (setHeld k held s).key k = { s.key k with held } := by
  simp [setHeld]

/-- R142: another key stands. -/
theorem setHeld_other (k j : KeyId) (h : j ≠ k) (held : Bool) (s : State) :
    (setHeld k held s).key j = s.key j := by
  simp [setHeld, h]

/-! ## Zones -/

/-- R111: what a zone is left with when its current owner goes. -/
theorem popZone_zone (z : ZoneId) (s : State) :
    ((popZone z s).zone z).owner = (popStack (keepEntry s z) (s.zone z).stack).1 ∧
    ((popZone z s).zone z).stack = (popStack (keepEntry s z) (s.zone z).stack).2 ∧
    ((popZone z s).zone z).deferred = (s.zone z).deferred := by
  simp [popZone]

/-- R109: the newcomer is the owner of the zone. -/
theorem displace_owner (toYield : Bool) (new : Owner) (z : ZoneId) (s : State) :
    ((displace toYield new z s).zone z).owner = some new := by
  have missed (b : Bell) (t : State) : (bellMissed b t).zone z = t.zone z := by
    unfold bellMissed
    split <;> rfl
  unfold displace
  dsimp only
  split
  · simp
  · split <;> simp [missed]
  · simp

/-- R108: in LISTENING and RUNNING a yield request leaves YIELD as the owner of the zone. -/
theorem yieldRequest_owner (z : ZoneId) (s : State) (h : s.taking = true) :
    ((yieldRequest z s).zone z).owner = some .yield := by
  unfold yieldRequest
  split
  · rename_i k
    simpa [h] using k
  · dsimp only
    split <;> exact displace_owner _ _ _ _

/-! ## Yield -/

/-- R181, R184: in LOADING a change of the contact writes the contact and the yielding state alone. -/
theorem contactChanges_of_loading (on : Bool) (s : State) (h : s.loading = true) :
    contactChanges on s =
      { s with dru := { s.dru with contact := on, yielding := on || s.dru.peerCause } } := by
  have idle : s.running = false := by
    simp only [State.loading, Bool.and_eq_true, beq_iff_eq] at h
    simp [State.running, h.1]
  simp only [contactChanges, contactToYield, State.running, State.loading] at *
  simp [idle, h, State.setYielding, State.yieldWanted]

/-- R181 to R183: what the inputs to yield do, in LISTENING or RUNNING: the peer cause is taken, and the yield begins,
ends, or stands as it was. -/
theorem updateYield_cases (s : State) (h : s.taking = true) :
    (s.withPeerCause.yieldWanted = true ∧ s.dru.yielding = false ∧ updateYield s = yieldStart s.withPeerCause) ∨
    (s.withPeerCause.yieldWanted = false ∧ s.dru.yielding = true ∧ updateYield s = yieldEnd s.withPeerCause) ∨
    (s.dru.yielding = s.withPeerCause.yieldWanted ∧ updateYield s = s.withPeerCause) := by
  have same : s.withPeerCause.dru.yielding = s.dru.yielding := rfl
  cases hw : s.withPeerCause.yieldWanted <;> cases hy : s.dru.yielding <;>
    simp [updateYield, h, hw, same, hy]

/-! ## Drill records -/

/-- R168: the phase check writes the phase and the final elapsed alone. -/
theorem DrillRecord.checked_keeps (r : DrillRecord) (school : Option Nat) :
    r.checked school =
      { r with phase := (r.checked school).phase, finalElapsed := (r.checked school).finalElapsed } := by
  unfold DrillRecord.checked DrillRecord.leave
  split
  · rfl
  · split
    · rfl
    · split
      · rfl
      · split <;> rfl

/-- R168: a record outside the running phases is not checked. -/
theorem DrillRecord.checked_of_not_running (r : DrillRecord) (school : Option Nat)
    (h : r.phase.running = false) : r.checked school = r := by
  simp [DrillRecord.checked, h]

/-! ## Recomputes -/

/-- R61 to R63: a recompute leaves the position and the polarity of every slot. -/
theorem tryImpulse_slot (i j : SlotId) (s : State) :
    ((tryImpulse i s).slot j).dial = (s.slot j).dial ∧
    ((tryImpulse i s).slot j).polarity = (s.slot j).polarity ∧
    ((tryImpulse i s).slot j).state = (s.slot j).state ∧
    ((tryImpulse i s).slot j).difference = (s.slot j).difference := by
  have q (l : LineId) (r : EnergizeRequest) (t : State) (b : Bool) (h : requestLine l r s = (t, b)) :
      t.slot j = s.slot j := by
    have k := requestLine_frame_of h .du (by simp)
    simp only [State.sameIn] at k
    simp [State.slot, k]
  unfold tryImpulse
  dsimp only
  split
  · simp
  · split
    · split <;> rename_i h
      · by_cases e : j = i
        · subst e
          simp
        · simp [e, q _ _ _ _ h]
      · simp [q _ _ _ _ h]
    · simp

/-! ## The claim list -/

/-- R144: a claim of a station that has none in the list joins a list with room. -/
theorem joinList_of_room {c : ClaimEntry} {list : List ClaimEntry} (new : ∀ e ∈ list, e.claimant ≠ c.claimant)
    (room : list.length < 4) : joinList c list = (list ++ [c], none, true) := by
  have k : (list.any fun e => e.claimant == c.claimant) = false := by
    simpa using new
  simp [joinList, k, Config.claimLimit, room]

/-- R144: a claim of a station that has one in the list takes its place. -/
theorem joinList_of_known {c : ClaimEntry} {list : List ClaimEntry}
    (known : ∃ e ∈ list, e.claimant = c.claimant) :
    joinList c list = (list.map fun e => if e.claimant == c.claimant then c else e, none, true) := by
  have k : (list.any fun e => e.claimant == c.claimant) = true := by
    simpa using known
  simp [joinList, k]

end Sys2Proof.Machine
end

