-- ==== Sys2Proof/Laws/PerInstr.lean ====
section
/-! SUPPORT. One lemma for each command, about the command as syntax: a well-formed command that is a frame has
a kind of the formats section and a body whose length that kind admits (R38, checks 3 and 4). -/

namespace Sys2Proof.Laws

/-- R38: the kind of the frame that a command is, is known, and its body has a length that the kind admits and
that a length byte can carry. -/
def BodyLength.Statement (i : Instr) : Prop :=
  i.wf = true → ∀ kind sender body, Machine.bodyOfCommand i = some (kind, sender, body) →
    Machine.kindKnown kind = true ∧ Machine.lengthAgrees kind body = true ∧ body.length ≤ 64

theorem BodyLength.powerOn (straps : BitVec 5) (warning : Bool) :
    BodyLength.Statement (.powerOn straps warning) := by
  intro _ _ _ _ h
  cases h

theorem BodyLength.rstAssert : BodyLength.Statement .rstAssert := by
  intro _ _ _ _ h
  cases h

theorem BodyLength.rstRelease (straps : BitVec 5) :
    BodyLength.Statement (.rstRelease straps) := by
  intro _ _ _ _ h
  cases h

theorem BodyLength.configImageRead (memory : List Byte) :
    BodyLength.Statement (.configImageRead memory) := by
  intro _ _ _ _ h
  cases h

theorem BodyLength.listeningEnd : BodyLength.Statement .listeningEnd := by
  intro _ _ _ _ h
  cases h

theorem BodyLength.supplyWarning : BodyLength.Statement .supplyWarning := by
  intro _ _ _ _ h
  cases h

theorem BodyLength.warningClears : BodyLength.Statement .warningClears := by
  intro _ _ _ _ h
  cases h

theorem BodyLength.warningReasserts : BodyLength.Statement .warningReasserts := by
  intro _ _ _ _ h
  cases h

theorem BodyLength.clearTimerExpiry (straps : BitVec 5) :
    BodyLength.Statement (.clearTimerExpiry straps) := by
  intro _ _ _ _ h
  cases h

theorem BodyLength.supplyCollapse : BodyLength.Statement .supplyCollapse := by
  intro _ _ _ _ h
  cases h

theorem BodyLength.displayWord : BodyLength.Statement .displayWord := by
  intro _ _ _ _ h
  cases h

theorem BodyLength.beaconTimerExpiry : BodyLength.Statement .beaconTimerExpiry := by
  intro _ _ _ _ h
  cases h

theorem BodyLength.schoolTimeBoundary : BodyLength.Statement .schoolTimeBoundary := by
  intro _ _ _ _ h
  cases h

theorem BodyLength.idleGapExpiry : BodyLength.Statement .idleGapExpiry := by
  intro _ _ _ _ h
  cases h

theorem BodyLength.backOffEnd : BodyLength.Statement .backOffEnd := by
  intro _ _ _ _ h
  cases h

theorem BodyLength.transmitComplete : BodyLength.Statement .transmitComplete := by
  intro _ _ _ _ h
  cases h

theorem BodyLength.collision : BodyLength.Statement .collision := by
  intro _ _ _ _ h
  cases h

theorem BodyLength.receiveAbort : BodyLength.Statement .receiveAbort := by
  intro _ _ _ _ h
  cases h

theorem BodyLength.frameRejected (frame : List Byte) :
    BodyLength.Statement (.frameRejected frame) := by
  intro _ _ _ _ h
  cases h

theorem BodyLength.beacon (sender : Byte) (body : BeaconBody) :
    BodyLength.Statement (.beacon sender body) := by
  intro _ _ _ _ h
  cases h
  exact ⟨rfl, rfl, Nat.le_of_ble_eq_true rfl⟩

theorem BodyLength.dayplan (sender : Byte) (day : Half) (code : Byte) :
    BodyLength.Statement (.dayplan sender day code) := by
  intro _ _ _ _ h
  cases h
  exact ⟨rfl, rfl, Nat.le_of_ble_eq_true rfl⟩

theorem BodyLength.removeOverride (sender : Byte) (day : Half) :
    BodyLength.Statement (.removeOverride sender day) := by
  intro _ _ _ _ h
  cases h
  exact ⟨rfl, rfl, Nat.le_of_ble_eq_true rfl⟩

theorem BodyLength.shift (sender : Byte) (day : Half) (kind first last delta : Byte) :
    BodyLength.Statement (.shift sender day kind first last delta) := by
  intro _ _ _ _ h
  cases h
  exact ⟨rfl, rfl, Nat.le_of_ble_eq_true rfl⟩

theorem BodyLength.cancel (sender : Byte) (day : Half) (first last : Byte) :
    BodyLength.Statement (.cancel sender day first last) := by
  intro _ _ _ _ h
  cases h
  exact ⟨rfl, rfl, Nat.le_of_ble_eq_true rfl⟩

theorem BodyLength.clearAll (sender : Byte) (day : Half) :
    BodyLength.Statement (.clearAll sender day) := by
  intro _ _ _ _ h
  cases h
  exact ⟨rfl, rfl, Nat.le_of_ble_eq_true rfl⟩

theorem BodyLength.claim (sender : Byte) (body : ClaimBody) :
    BodyLength.Statement (.claim sender body) := by
  intro wf _ _ _ h
  cases h
  simp only [Instr.wf, ClaimBody.wf, Bool.and_eq_true, decide_eq_true_eq] at wf
  have count : (Machine.byteAt (Machine.claimBytes body) 6).toNat = body.targets.length := by
    simp only [Machine.byteAt, Machine.claimBytes, Machine.halfBytes]
    simp
    omega
  have length : (Machine.claimBytes body).length = 7 + 2 * body.targets.length := by
    simp [Machine.claimBytes, Machine.halfBytes, List.length_flatMap]
    omega
  refine ⟨rfl, ?_, by omega⟩
  simp only [Machine.lengthAgrees, count, length]
  simp
  omega

theorem BodyLength.object (sender claimant number reason : Byte) :
    BodyLength.Statement (.object sender claimant number reason) := by
  intro _ _ _ _ h
  cases h
  exact ⟨rfl, rfl, Nat.le_of_ble_eq_true rfl⟩

theorem BodyLength.ready (sender holder number : Byte) (readyMask refusedMask : ZoneMask) :
    BodyLength.Statement (.ready sender holder number readyMask refusedMask) := by
  intro _ _ _ _ h
  cases h
  exact ⟨rfl, rfl, Nat.le_of_ble_eq_true rfl⟩

theorem BodyLength.release (sender number reason : Byte) :
    BodyLength.Statement (.release sender number reason) := by
  intro _ _ _ _ h
  cases h
  exact ⟨rfl, rfl, Nat.le_of_ble_eq_true rfl⟩

theorem BodyLength.drillStart (sender : Byte) (body : DrillStartBody) :
    BodyLength.Statement (.drillStart sender body) := by
  intro _ _ _ _ h
  cases h
  exact ⟨rfl, rfl, Nat.le_of_ble_eq_true rfl⟩

theorem BodyLength.silence (sender initiator number : Byte) :
    BodyLength.Statement (.silence sender initiator number) := by
  intro _ _ _ _ h
  cases h
  exact ⟨rfl, rfl, Nat.le_of_ble_eq_true rfl⟩

theorem BodyLength.muster (sender initiator number : Byte) (elapsed : Half) :
    BodyLength.Statement (.muster sender initiator number elapsed) := by
  intro _ _ _ _ h
  cases h
  exact ⟨rfl, rfl, Nat.le_of_ble_eq_true rfl⟩

theorem BodyLength.drillEnd (sender initiator number reason : Byte) :
    BodyLength.Statement (.drillEnd sender initiator number reason) := by
  intro _ _ _ _ h
  cases h
  exact ⟨rfl, rfl, Nat.le_of_ble_eq_true rfl⟩

theorem BodyLength.yield (sender state : Byte) :
    BodyLength.Statement (.yield sender state) := by
  intro _ _ _ _ h
  cases h
  exact ⟨rfl, rfl, Nat.le_of_ble_eq_true rfl⟩

theorem BodyLength.dialSet (sender target line : Byte) (position : Half) :
    BodyLength.Statement (.dialSet sender target line position) := by
  intro _ _ _ _ h
  cases h
  exact ⟨rfl, rfl, Nat.le_of_ble_eq_true rfl⟩

theorem BodyLength.statusAsk (sender target page : Byte) :
    BodyLength.Statement (.statusAsk sender target page) := by
  intro _ _ _ _ h
  cases h
  exact ⟨rfl, rfl, Nat.le_of_ble_eq_true rfl⟩

theorem BodyLength.statusReply (sender asker page : Byte) (content : List Byte) :
    BodyLength.Statement (.statusReply sender asker page content) := by
  intro wf _ _ _ h
  cases h
  simp only [Instr.wf, decide_eq_true_eq] at wf
  refine ⟨rfl, ?_, by simp; omega⟩
  simp only [Machine.lengthAgrees]
  simp
  omega

theorem BodyLength.invertNextReply (sender target action line : Byte) :
    BodyLength.Statement (.invertNextReply sender target action line) := by
  intro _ _ _ _ h
  cases h
  exact ⟨rfl, rfl, Nat.le_of_ble_eq_true rfl⟩

theorem BodyLength.lockSupervision (sender target line : Byte) :
    BodyLength.Statement (.lockSupervision sender target line) := by
  intro _ _ _ _ h
  cases h
  exact ⟨rfl, rfl, Nat.le_of_ble_eq_true rfl⟩

theorem BodyLength.unlock (sender target line : Byte) :
    BodyLength.Statement (.unlock sender target line) := by
  intro _ _ _ _ h
  cases h
  exact ⟨rfl, rfl, Nat.le_of_ble_eq_true rfl⟩

theorem BodyLength.agingExpiry (peer : Station) :
    BodyLength.Statement (.agingExpiry peer) := by
  intro _ _ _ _ h
  cases h

theorem BodyLength.spacingExpiry (slot : SlotId) :
    BodyLength.Statement (.spacingExpiry slot) := by
  intro _ _ _ _ h
  cases h

theorem BodyLength.staggerExpiry : BodyLength.Statement .staggerExpiry := by
  intro _ _ _ _ h
  cases h

theorem BodyLength.widthExpiry (line : LineId) :
    BodyLength.Statement (.widthExpiry line) := by
  intro _ _ _ _ h
  cases h

theorem BodyLength.gapExpiry (line : LineId) :
    BodyLength.Statement (.gapExpiry line) := by
  intro _ _ _ _ h
  cases h

theorem BodyLength.chimeWidthExpiry : BodyLength.Statement .chimeWidthExpiry := by
  intro _ _ _ _ h
  cases h

theorem BodyLength.chimeGapExpiry : BodyLength.Statement .chimeGapExpiry := by
  intro _ _ _ _ h
  cases h

theorem BodyLength.overcurrent (line : LineId) :
    BodyLength.Statement (.overcurrent line) := by
  intro _ _ _ _ h
  cases h

theorem BodyLength.supervisionSlot (reading : SenseResult) :
    BodyLength.Statement (.supervisionSlot reading) := by
  intro _ _ _ _ h
  cases h

theorem BodyLength.entryDue : BodyLength.Statement .entryDue := by
  intro _ _ _ _ h
  cases h

theorem BodyLength.pageKeyPress (key : KeyId) :
    BodyLength.Statement (.pageKeyPress key) := by
  intro _ _ _ _ h
  cases h

theorem BodyLength.pageKeyRelease (key : KeyId) :
    BodyLength.Statement (.pageKeyRelease key) := by
  intro _ _ _ _ h
  cases h

theorem BodyLength.refusalEnd (key : KeyId) :
    BodyLength.Statement (.refusalEnd key) := by
  intro _ _ _ _ h
  cases h

theorem BodyLength.windowClose (claimant : Station) :
    BodyLength.Statement (.windowClose claimant) := by
  intro _ _ _ _ h
  cases h

theorem BodyLength.readyWaitEnd : BodyLength.Statement .readyWaitEnd := by
  intro _ _ _ _ h
  cases h

theorem BodyLength.holdEnd : BodyLength.Statement .holdEnd := by
  intro _ _ _ _ h
  cases h

theorem BodyLength.targetGraceExpiry : BodyLength.Statement .targetGraceExpiry := by
  intro _ _ _ _ h
  cases h

theorem BodyLength.drillKeyPress : BodyLength.Statement .drillKeyPress := by
  intro _ _ _ _ h
  cases h

theorem BodyLength.musterKeyPress : BodyLength.Statement .musterKeyPress := by
  intro _ _ _ _ h
  cases h

theorem BodyLength.keyArmed (key : DrillUnitKey) :
    BodyLength.Statement (.keyArmed key) := by
  intro _ _ _ _ h
  cases h

theorem BodyLength.drillDeadline : BodyLength.Statement .drillDeadline := by
  intro _ _ _ _ h
  cases h

theorem BodyLength.firePanelChange (asserted : Bool) :
    BodyLength.Statement (.firePanelChange asserted) := by
  intro _ _ _ _ h
  cases h

theorem BodyLength.writeComplete : BodyLength.Statement .writeComplete := by
  intro _ _ _ _ h
  cases h

theorem BodyLength.eraseComplete : BodyLength.Statement .eraseComplete := by
  intro _ _ _ _ h
  cases h

theorem BodyLength.startBitSeen (bit : StartBit) :
    BodyLength.Statement (.startBitSeen bit) := by
  intro _ _ _ _ h
  cases h

theorem BodyLength.delimiterRecognised : BodyLength.Statement .delimiterRecognised := by
  intro _ _ _ _ h
  cases h

end Sys2Proof.Laws
end

