-- ==== Sys2Proof/Tests/Slice0.lean ====
section
/-! SUPPORT. Tests. The checks of WellFormed refuse ill-formed commands; the two checks and the frames give the
words of the formats section; a few commands give what the rules say; and every statement of
Certificates/Slice0/Obligations.lean that has hypotheses has a concrete state and operands that meet them,
clause by clause, at the ends of their ranges. -/

namespace Sys2Proof.Machine.Tests

open Sys2Proof

-- one test at a time: each evaluates the whole machine
set_option Elab.async false

/-! ## Small states -/

/-- Day 2, 08:00:00.000. -/
def t0 : Nat := 201600000

/-- Station 4 in RUNNING, at 100 s of its station timer and full time `t0`, with nothing under way. -/
def run : State :=
  { State.reset with
    rst := false
    tb := { TimeBase.powerOn with fullTime := some t0, standing := .free, timer := 100000,
                                  beaconDue := some 100000 }
    sp := { SettingsPort.afterReset .powerOn none with
            config := .running, number := some 3, displayDue := some 100000 } }

/-- The same station in another config state. -/
def inState (c : ConfigState) : State := { run with sp := { run.sp with config := c } }

/-- A line of a kind in a state. -/
def lineOf (kind : LineKind) (state : LineState) : LineRecord :=
  { LineRecord.afterReset kind with state }

/-- A frame in the queue. -/
def waits (f : OutFrame) (selected : Bool) : QueuedFrame := { QueuedFrame.new f 90000 with selected }

/-- `run` with a transmit queue, and its attempt. -/
def withQueue (q : List QueuedFrame) (a : Attempt) : State :=
  { run with ylc := { run.ylc with queue := q, attempt := a } }

/-- An entry of the bell list at 08:00, for Z1. -/
def atEight : BellEntry := { timeOfDay := 28800, zones := 1, pattern := 0 }

/-- `run` with its Bell Scheduler on plan P0 of day 2: two entries at 08:00. -/
def onPlan : State :=
  { run with bs := { BellScheduler.powerOn with
      entries := (BellScheduler.powerOn.entries.set 0 atEight).set 1 atEight
      plans := BellScheduler.powerOn.plans.set 0 { base := 0, count := 2 }
      planDay := some 2, activePlan := some (.plan 0), marks := [.opened, .opened] } }

/-- An own claim record in a phase, of key K1 and claim number 7. -/
def ownIn (phase : OwnPhase) : OwnClaim :=
  { phase, key := 0, number := 7, cls := .general, window := 400, holdLimit := 120, targets := [],
    ownZones := 0, expected := 0, responders := Vector.replicate 30 none, readyWaitEnd := some 100000 }

/-- `run` with a Floor Unit that has an own record, a view and claims. -/
def floorWith (own : Option OwnClaim) (view : Option FloorView) (claims : List ClaimEntry) : State :=
  { run with fu := { run.fu with own, view, claims } }

/-- A view held by a station, number 7, its hold just ended. -/
def viewOf (holder : Station) : FloorView :=
  { holder, number := 7, cls := .general, holdEnd := 98000, heldSince := 0, accepted := 0 }

/-- A claim of a station, number 7, its window just closed. -/
def claimFrom (claimant : Station) : ClaimEntry :=
  { claimant, number := 7, cls := .general, targets := [], holdLimit := 120, windowEnd := 100000,
    objected := false }

/-- A drill of station 9, number 7, started at `t0`. -/
def drillIn (phase : DrillPhase) : DrillRecord :=
  { initiator := 8, number := 7, start := t0, evacuationLimit := 600, soundLimit := 180,
    expected := 0x210#32, reported := 0, muster := Vector.replicate 30 none, phase, endReason := none,
    finalElapsed := none }

/-- `run` with a drill record and both keys armed. -/
def drilling (r : Option DrillRecord) : State :=
  { run with dru := { run.dru with record := r, drillArmed := true, musterArmed := true } }

/-- `run` with a clock line L1 bound to slot 1, and the impulse of the slot. -/
def clocked (state : LineState) (d : DialSlot) : State :=
  (run.setLine 0 (lineOf .clock state)).setSlot 0 { d with line := some 0 }

/-- A dial one minute behind 08:00. -/
def behind : DialSlot :=
  { DialSlot.unbound (some 479) .neg with state := .inStep, difference := some 1, lastStart := some 98000 }

/-- A snapshot with no time. -/
def snap : Snapshot :=
  { sequence := 5, time := none, dials := Vector.replicate 6 { dial := some 3, polarity := .pos } }

/-- `run` with the store in an activity, its write position and a pending request. -/
def storing (activity : Activity) (next : Nat) (pendingSnapshot : Bool) : State :=
  { run with ds := { run.ds with activity, next, pendingSnapshot } }

/-- Station 9 is heard by station 4 in any state that delivers. -/
theorem hears_of {s : State} (h : (s.up && !s.transmitting && s.delivers && s.own == some 3) = true) :
    s.hears 9#8 8 := by
  simp only [Bool.and_eq_true, Bool.not_eq_true', beq_iff_eq] at h
  obtain ⟨⟨⟨up, sending⟩, delivers⟩, own⟩ := h
  exact ⟨up, sending, by decide, by rw [own]; decide, delivers⟩

/-! ## WellFormed -/

def claimOfTargets (n : Nat) : Instr :=
  .claim 9#8 { number := 1, cls := 0, window := 400, holdLimit := 120,
               targets := List.replicate n (31#8, 1#8) }

theorem test_wf_claim_targets :
    (claimOfTargets 0).wf = false ∧ (claimOfTargets 1).wf = true ∧ (claimOfTargets 8).wf = true ∧
    (claimOfTargets 9).wf = false := by decide

theorem test_wf_reply_content :
    (Instr.statusReply 9#8 4#8 1#8 (List.replicate 62 0)).wf = true ∧
    (Instr.statusReply 9#8 4#8 1#8 (List.replicate 63 0)).wf = false := by decide

theorem test_wf_rejected_frame_length :
    (Instr.frameRejected [1, 9, 0, 0, 0]).wf = true ∧ (Instr.frameRejected [1, 9, 1, 0, 0]).wf = false ∧
    (Instr.frameRejected [1, 9, 0, 0]).wf = false := by decide

theorem test_wf_shift_kinds :
    (Instr.shift 9#8 2#16 1#8 0 0 0).wf = true ∧ (Instr.shift 9#8 2#16 2#8 0 0 0).wf = false ∧
    (Instr.shift 9#8 2#16 3#8 0 0 0).wf = false := by decide

theorem test_wf_dayplan_code :
    (Instr.dayplan 9#8 2#16 15#8).wf = true ∧ (Instr.dayplan 9#8 2#16 14#8).wf = false := by decide

theorem test_wf_test_actions :
    (Instr.invertNextReply 9#8 4#8 1#8 0).wf = true ∧ (Instr.invertNextReply 9#8 4#8 2#8 0).wf = false ∧
    (Instr.invertNextReply 9#8 4#8 3#8 0).wf = false := by decide

/-! ## The checks and the frames

The CRC words are worked out apart from the model, bit by bit from R25. -/

/-- The published check values of these two CRCs, over the digits 1 to 9. -/
theorem test_crc_check_values :
    crc16 [0x31, 0x32, 0x33, 0x34, 0x35, 0x36, 0x37, 0x38, 0x39] = 0x29B1#16 ∧
    crc8 [0x31, 0x32, 0x33, 0x34, 0x35, 0x36, 0x37, 0x38, 0x39] = 0xFB#8 := by decide +kernel

/-- R24, R25, R44: YIELD(1) of station 3, and the same with the complement of its CRC. -/
theorem test_yield_chars :
    frameChars (OutFrame.yield 1).kind (stationByte 2) (OutFrame.yield 1).ownBody false =
      [0x55, 0x55, 0xD3, 0x35, 0x03, 0x01, 0x01, 0x6E, 0x2C] ∧
    frameChars 0x35 3 [1] true = [0x55, 0x55, 0xD3, 0x35, 0x03, 0x01, 0x01, 0x91, 0xD3] := by decide +kernel

/-- 2.11: a DAYPLAN of station 9 for day 3,412, plan P3. -/
theorem test_read_dayplan :
    commandOfFrame [0x11, 0x09, 0x03, 0x0D, 0x54, 0x03, 0xD2, 0xDD] = some (.dayplan 9 3412 3) := by decide +kernel

/-- 2.11: a SHIFT of station 9 for day 2, entries 3 to 9, −5 minutes. -/
theorem test_read_shift :
    commandOfFrame [0x12, 0x09, 0x06, 0x00, 0x02, 0x01, 0x03, 0x09, 0xFB, 0xFA, 0x4C] =
      some (.shift 9 2 1 3 9 0xFB) := by decide +kernel

/-- 2.11: a CLAIM of station 9, URGENT, window 400 ms, hold 120 s, zones 1 and 3 of all stations. -/
theorem test_read_claim :
    commandOfFrame
      [0x21, 0x09, 0x09, 0x01, 0x01, 0x01, 0x90, 0x00, 0x78, 0x01, 0x1F, 0x05, 0xDF, 0xBE] =
      some (.claim 9 { number := 1, cls := 1, window := 400, holdLimit := 120, targets := [(31, 5)] }) := by
  decide +kernel

/-- 2.11: READY, RELEASE, MUSTER and DRILL-END. -/
theorem test_read_floor_and_drill :
    commandOfFrame [0x23, 0x09, 0x04, 0x04, 0x07, 0x01, 0x02, 0xDA, 0x4C] = some (.ready 9 4 7 1 2) ∧
    commandOfFrame [0x24, 0x03, 0x02, 0x07, 0x01, 0xEC, 0xB4] = some (.release 3 7 1) ∧
    commandOfFrame [0x33, 0x06, 0x04, 0x03, 0x0C, 0x00, 0x48, 0x53, 0x57] = some (.muster 6 3 12 72) ∧
    commandOfFrame [0x34, 0x03, 0x03, 0x03, 0x0C, 0x01, 0x5E, 0x2F] = some (.drillEnd 3 3 12 1) := by decide +kernel

/-- 2.11: DIAL-SET of L5 at station 4 to 610, STATUS-ASK of page 3 part 1, TEST action 2 for L2. -/
theorem test_read_console :
    commandOfFrame [0x41, 0x09, 0x04, 0x04, 0x05, 0x02, 0x62, 0x5E, 0x20] = some (.dialSet 9 4 5 610) ∧
    commandOfFrame [0x51, 0x09, 0x02, 0x04, 0x13, 0xDD, 0xEE] = some (.statusAsk 9 4 0x13) ∧
    commandOfFrame [0x5F, 0x09, 0x03, 0x1F, 0x02, 0x02, 0xA1, 0x55] = some (.lockSupervision 9 31 2) := by
  decide +kernel

/-- R38: the first check a frame fails: its CRC, its kind, its length, its sender. -/
theorem test_frame_checks :
    frameVerdict (some 3) [0x35, 0x03, 0x01, 0x01, 0x6E, 0x2D] = .crcError ∧
    frameVerdict (some 3) [0x35, 0x03, 0x01, 0x01, 0x6E, 0x2C] = .good ∧
    frameVerdict (some 2) [0x35, 0x03, 0x01, 0x01, 0x6E, 0x2C] = .clash ∧
    frameVerdict none ([0x36, 0x03, 0x00] ++ halfBytes (crc16 [0x36, 0x03, 0x00])) = .unknownKind ∧
    frameVerdict none ([0x35, 0x03, 0x00] ++ halfBytes (crc16 [0x35, 0x03, 0x00])) = .crcError := by decide +kernel

/-- The BEACON body's layout: each field stands at its offset. -/
theorem test_beacon_layout :
    beaconBytes
      { stampDay := 0x0001, stampMs := 0x02030405, standing := 6, flags := 7, floorHolder := 8,
        floorNumber := 9, floorClass := 10, holdRemaining := 0x0B0C, drillInitiator := 13, drillNumber := 14,
        drillStartDay := 0x0F10, drillStartMs := 0x11121314, drillPhase := 21, evacuationLimit := 0x1617,
        soundLimit := 0x1819, expectedSet := 0x1A1B1C1D, reportedSet := 0x1E1F2021,
        ownMuster := 0x2223 } = (List.range 36).map (BitVec.ofNat 8) := by decide

/-! ## Worked examples -/

/-- 1.8: one agreement round. -/
theorem test_round :
    correctionOf [120, -30, 15, 9000, 0] = 60 ∧ callsFor 60 2000 40 = some (.slew, 40) ∧
    correctionOf [9000] = 9000 ∧ callsFor 9000 2000 40 = some (.step, 9000) := by decide

/-- 1.9: rounds at the limits. -/
theorem test_round_limits :
    correctionOf [-3, 0] = -1 ∧ callsFor (-1) 2000 40 = none ∧ correctionOf [-5, 0] = -2 ∧
    callsFor (-2) 2000 40 = some (.slew, -2) ∧ correctionOf [100, 200, -2147483647, 0] = 50 ∧
    correctionOf [2400, 1400] = 1900 ∧ correctionOf [4001, 4003, 0] = 2001 := by decide

/-- 4.10 to 4.12: catch-up after an outage, and the two clock changes, by the minute of day. -/
theorem test_dial_verdicts :
    dialVerdict (some (965 * 60000 + 10000)) (some 157) 720 120 false = (.advancing, some 88) ∧
    dialVerdict (some (330 * 60000)) (some 1080) 1440 120 false = (.advancing, some 690) ∧
    dialVerdict (some (540 * 60000 + 30000)) (some 600) 720 120 false = (.holding, some 660) ∧
    dialVerdict (some (480 * 60000 + 30000)) (some 420) 720 120 false = (.advancing, some 60) ∧
    dialVerdict (some (330 * 60000)) (some 360) 720 120 false = (.holding, some 690) := by decide

/-- 9.10: the remaining time at 4, 5, 72, 180, 600, 601 and 750 s of 600. -/
theorem test_remaining :
    ([4, 5, 72, 180, 600, 601, 750].map fun e =>
      ({ drillIn .sounding with start := 0 }.remaining (some (e * 1000)))) =
    [⟨false, true, 10⟩, ⟨false, false, 119⟩, ⟨false, false, 106⟩, ⟨false, false, 84⟩, ⟨false, false, 0⟩,
     ⟨true, false, 1⟩, ⟨true, false, 30⟩] := by decide

/-- 10.7: newer across the sequence wrap, at the ends of the range of R190. -/
theorem test_sequence_newer :
    sequenceNewer 0 65535 = true ∧ sequenceNewer 65535 65534 = true ∧ sequenceNewer 65478 5 = false ∧
    sequenceNewer 32767 0 = true ∧ sequenceNewer 32768 0 = false ∧ sequenceNewer 7 7 = false := by decide

/-- 7.9: two SHIFTs, −5 after +15, on an entry nominally at 09:45, and the entry the second leaves out. -/
theorem test_effective_time :
    let b := { onPlan.bs with
      entries := onPlan.bs.entries.set 1 { timeOfDay := 35100, zones := 15, pattern := 1 }
      shifts := [.shift 0 9 15, .shift 1 9 (-5)] }
    b.effectiveTime 1 = 35700 ∧ b.effectiveTime 0 = 29700 := by decide

/-- 11.12: a section of code 12, L9 of kind code 7, B of 75 s: their warnings, and B of 60 s. -/
theorem test_load_warnings :
    let r := settingsOf [(1, List.replicate 16 0 ++ [7]), (12, []), (8, [75])]
    r.1.beaconInterval = 60 ∧
    r.2 = [⟨.unusable, 0, 1⟩, ⟨.defaulted, 1, 9⟩, ⟨.clamped, 8, 0⟩] := by decide

/-- R5, 11.12: the first BEACON of station 12 with B of 60 s. -/
theorem test_first_beacon : firstBeacon 60000 12 = 22500 := by decide

/-- R207: 08:05 in TIME mode, UNSET, and a drill with 355 s left. -/
theorem test_display_fields :
    timeField (some 29100000) = 0x102800#24 ∧ timeField none = 0x3E0000#24 ∧
    drillField (remainingOf false 355) = 0x08E000#24 ∧ drillField (remainingOf true 600) = 0x314000#24 := by
  decide

/-! ## Witnesses

Each theorem names a state and operands that meet the hypotheses of one statement, clause by clause. -/

theorem witness_EmptyQueue :
    run.pending = [] ∧ run.powered = true ∧ State.reset.pending = [] ∧ State.reset.powered = true ∧
    State.reset.rst = true := by decide

theorem witness_EndOfStep :
    let s := withQueue [waits .beacon false, waits (.yield 1) false] .none
    s.ylc.queue ≠ [] ∧ selectedIndex s.ylc.queue = none ∧
    selectedIndex (endOfStep s).ylc.queue = some 1 ∧ s.ylc.queue[1]? = some (waits (.yield 1) false) := by
  decide +kernel

/-- Every law holds at a state with a drill and one line energized on a budget of one, and a step runs. -/
def lawfulState : State :=
  let s := (drilling (some (drillIn .sounding))).setLine 0 (lineOf .bell .energized)
  { s with dsq := { s.dsq with budget := 1 } }

theorem witness_StepKeeps :
    lawfulState.tb.lawful = true ∧ lawfulState.ylc.lawful = true ∧ lawfulState.fu.lawful = true ∧
    lawfulState.trunkLawful = true ∧ lawfulState.wired = true ∧ lawfulState.budgetLawful = true ∧
    lawfulState.energizedCount = 1 ∧ lawfulState.dru.record = some (drillIn .sounding) ∧
    (drillIn .sounding).lawful = true := by decide +kernel

/-- A zone at YIELD over a full stack, and a request of a dial slot at its own line. -/
def stackedState : State :=
  let q : EnergizeRequest := { cls := .clock, width := 600, polarity := .pos, requester := .dial 0, age := 0 }
  let s := run.setZone 7 { Zone.afterReset with
    owner := some .yield
    stack := [.floor 8 7 .urgent, .drill 8 7, .floor 9 7 .general] }
  (s.setLine 15 { lineOf .clock .waiting with request := some q }).setSlot 0
    { DialSlot.unbound none .neg with line := some 15 }

theorem witness_StepKeeps_bounds :
    stackedState.stacksLawful = true ∧ (stackedState.zone 7).stack.length = 3 ∧
    stackedState.requestsBound = true ∧ ((stackedState.line 15).request).isSome = true := by decide +kernel

theorem witness_StepKeeps_step : ∃ t, step lawfulState = .next t := ⟨_, rfl⟩

theorem witness_FrameOfCommandReadsBack :
    (claimOfTargets 8).wf = true ∧ ∃ frame, frameOfCommand (claimOfTargets 8) = some frame :=
  ⟨by decide, _, rfl⟩

theorem witness_InvertedFrame :
    (List.replicate 64 0#8).length ≤ 64 ∧ kindKnown 0x52 = true ∧
    lengthAgrees 0x52 (List.replicate 64 0#8) = true ∧ stationOfByte 9 ≠ some (3 : Station) := by decide

/-- A part without supply whose last slot of page 1 holds a snapshot. -/
def offWith (slot : StoreSlot) : State :=
  { run with
    powered := false
    ds := { run.ds with pages := run.ds.pages.set 1 ((run.ds.pages[1]).set 31 slot) } }

theorem witness_PowerOn :
    stationOfStraps 1#5 = some 0 ∧ stationOfStraps 30#5 = some 29 ∧
    (offWith .blank).powered = false ∧ (offWith .blank).rst = false ∧
    (offWith .blank).ds.activity = .idle ∧ (offWith .blank).ds.latest = none ∧
    (offWith (.written snap)).ds.latest = some (1, snap) ∧
    (offWith (.written snap)).ds.activity = .idle := by decide +kernel

/-- The ends of the range within which the order of R190 is told: sequences 5 and 32,772 from base 5. -/
theorem witness_PowerOn_newest :
    let s := offWith (.written snap)
    let far : Snapshot := { snap with sequence := 32772 }
    let two := { s with ds := { s.ds with pages := s.ds.pages.set 0 ((s.ds.pages[0]).set 0 (.written far)) } }
    (far.sequence + 65536 - 5) % 65536 = 32767 ∧ far.sequence < 65536 ∧
    (snap.sequence + 65536 - 5) % 65536 = 0 ∧ two.ds.latest = some (0, far) ∧
    ((two.ds.pages[(1 : Fin 2)])[(31 : Fin 32)]).valid? = some snap ∧
    ((two.ds.pages[(0 : Fin 2)])[(0 : Fin 32)]).valid? = some far := by decide +kernel

theorem witness_WarmReset :
    let s := { run with ds := { run.ds with supply := .holdUp, clearTimer := some 100000 } }
    s.up = true ∧ s.ds.supply = .holdUp ∧ reached s.ds.clearTimer s.now = true ∧
    s.ds.warning = false ∧ stationOfStraps 30#5 = some 29 := by decide

theorem witness_RstRelease :
    State.reset.powered = true ∧ State.reset.rst = true ∧ State.reset.ds.warning = false ∧
    stationOfStraps 1#5 = some 0 ∧ stationOfStraps 30#5 = some 29 ∧ State.reset.sp.number = none := by
  decide

/-- LOADING, the image being read, over an unset school time, with a held CRC. -/
def reading (crc : Option Half) : State :=
  { run with
    tb := { run.tb with fullTime := none, standing := .unset }
    sp := { run.sp with config := .loading, csc := true, imageCrc := crc } }

/-- The shortest image: a header of length 7 and its CRC. -/
def shortest : List Byte := [0xA7, 0x16, 1, 0, 7] ++ halfBytes (crc16 [0xA7, 0x16, 1, 0, 7])

theorem witness_ImageRead :
    (reading none).up = true ∧ (reading none).reading = true ∧ (reading none).sp.number = some 3 ∧
    (reading none).school = none ∧ checkImage [] = none ∧
    (checkImage shortest).map CheckedImage.crc = some (crc16 [0xA7, 0x16, 1, 0, 7]) ∧
    (reading (some (crc16 [0xA7, 0x16, 1, 0, 7]))).sp.imageCrc =
      (checkImage shortest).map CheckedImage.crc ∧
    (reading none).sp.imageCrc ≠ (checkImage shortest).map CheckedImage.crc := by decide +kernel

/-- An image whose L1 is a CLOCK line with a 12-hour dial. -/
def clockImage : List Byte :=
  let body : List Byte := [0xA7, 0x16, 1, 0, 12, 1, 0, 2, 3, 0]
  body ++ halfBytes (crc16 body)

/-- LOADING over a dial of S1 at 800, the contact clear. -/
def loadingDial : State := (reading none).setSlot 0 { (reading none).slot 0 with dial := some 800, polarity := .pos }

theorem witness_ImageRead_clocks :
    loadingDial.up = true ∧ loadingDial.reading = true ∧ loadingDial.loading = true ∧
    loadingDial.dru.contact ≠ true ∧
    (checkImage clockImage).map (fun i => (settingsOf i.sections).1.clocks) = some [(0, 720)] := by
  decide +kernel

theorem witness_ListeningEnds :
    let s := { inState .listening with
               sp := { (inState .listening).sp with listeningEnd := some 100000 } }
    s.up = true ∧ s.listening = true ∧ reached s.sp.listeningEnd s.now = true ∧ s.own = some 3 := by decide

/-- A station in LISTENING with its drill at Z1, whose sounder line is L1, with an entry due and its contact
asserted. -/
def listeningWith (late : Nat) : State :=
  let s := ((drilling (some (drillIn .sounding))).setLine 0 (lineOf .sounder .off)).setZone 0
    { Zone.afterReset with sounderLine := some 0, owner := some (.drill 8 7) }
  { s with
    tb := { s.tb with fullTime := some (t0 + late) }
    bs := onPlan.bs
    dru := { s.dru with contact := true }
    sp := { (inState .listening).sp with listeningEnd := some 100000 } }

theorem witness_ListeningEnds_effects :
    let s := listeningWith 30000
    let late := listeningWith 30001
    s.up = true ∧ s.listening = true ∧ reached s.sp.listeningEnd s.now = true ∧ s.own = some 3 ∧
    s.dru.record = some (drillIn .sounding) ∧ (s.zone 0).owner = some (.drill 8 7) ∧
    (s.zone 0).sounderLine = some 0 ∧ (s.line 0).state = .off ∧
    (∀ i : SlotId, (s.slot i).line ≠ some 0) ∧
    (∀ y : ZoneId, (s.zone y).bellLine ≠ some 0 ∧ (s.zone y).pageLine ≠ some 0 ∧
      (y ≠ 0 → (s.zone y).sounderLine ≠ some 0)) ∧
    s.bs.planDay = some 2 ∧ s.bs.next = some (0, (t0 : Int)) ∧ s.school = some (t0 + 30000) ∧
    late.school = some (t0 + 30001) ∧ s.bs.lateLimit = 30 ∧ s.dru.contact = true ∧
    s.ylc.queue.length < 8 := by decide +kernel

theorem witness_SupplyWarning :
    let s := clocked .off behind
    s.up = true ∧ s.ds.supply = .run ∧ (s.slot 0).line ≠ none ∧ (s.slot 1).line = none ∧
    s.sp.config ≠ .configFault ∧ s.ds.activity = .idle ∧ (storing .idle 31 false).ds.next < 32 ∧ s.ds.pendingSnapshot = false ∧
    (storing (.writing snap 100005) 0 false).ds.activity ≠ .idle := by decide

theorem witness_SupplyEvents :
    let s := { run with ds := { run.ds with supply := .holdUp, warning := true } }
    s.up = true ∧ s.ds.supply = .holdUp ∧ s.ds.warning = true ∧ s.powered = true ∧
    s.ds.activity = .idle ∧ (storing (.writing snap 100000) 31 false).ds.next < 32 ∧
    (storing (.writing snap 100000) 31 false).ds.activity = .writing snap 100000 := by decide

/-- CONFIG-FAULT with a fault code. -/
def faulty (code : FaultCode) : State :=
  { run with sp := { run.sp with config := .configFault, faultCode := some code } }

theorem witness_DisplayWord :
    run.up = true ∧ run.displays = true ∧ reached run.sp.displayDue run.now = true ∧
    run.sp.config ≠ .configFault ∧ run.dru.yielding = false ∧ run.drillRunning = false ∧
    (faulty .strapFault).displays = true ∧ (faulty .strapFault).sp.faultCode = some .strapFault ∧
    (faulty .configFault).sp.faultCode = some .configFault ∧
    { run with dru := { run.dru with yielding := true } }.dru.yielding = true ∧
    (drilling (some (drillIn .overdue))).dru.record = some (drillIn .overdue) ∧
    (drillIn .overdue).phase.running = true := by decide

/-- The values at the end of the unit of 5 s. -/
theorem witness_RemainingTime :
    (drillIn .sounding).phase.running = true ∧
    (drillIn .sounding).elapsed (some (t0 + 5000)) = 5 ∧ (drillIn .sounding).evacuationLimit - 5 = 595 ∧
    (drillIn .sounding).evacuationLimit - 4 = 596 ∧ (drillIn .mustered).phase.running = false ∧
    { drillIn .mustered with finalElapsed := some 750 }.finalElapsed = some 750 := by decide

theorem witness_BeaconTimer :
    run.up = true ∧ reached run.tb.beaconDue run.now = true ∧ run.queuedBeacon = none ∧
    run.takesFrame .beacon = true ∧
    (List.replicate 7 (waits (.yield 1) false)).length < 8 ∧
    (withQueue (List.replicate 7 (waits (.yield 1) false)) .none).queuedBeacon = none ∧
    (withQueue [waits .beacon false] .none).queuedBeacon = some (waits .beacon false) ∧
    (waits .beacon false).selected = false ∧
    (withQueue [waits .beacon true] .none).queuedBeacon = some (waits .beacon true) := by decide

theorem witness_MinuteBoundary :
    let s := clocked .off behind
    let later := { s with tb := { s.tb with fullTime := some (t0 + 60000) } }
    let faulted := s.setLine 0 { s.line 0 with cls := .shorted }
    s.up = true ∧ s.school = some t0 ∧ 0 < t0 ∧ t0 % 60000 = 0 ∧ t0 % 3600000 = 0 ∧
    s.anySlotBound = true ∧ s.alreadyRecorded (dayOf t0) (minuteOfDay t0) = false ∧
    (s.slot 0).line = some 0 ∧ (s.slot 0).dial = some 479 ∧ 0 < (s.slot 0).modulus ∧
    (s.line 0).cls.faulted = false ∧ (faulted.line 0).cls.faulted = true ∧
    ((clocked .off { behind with dial := none }).slot 0).dial = none ∧
    later.school = some (t0 + 60000) ∧ (t0 + 60000) % 60000 = 0 ∧ (t0 + 60000) % 3600000 ≠ 0 := by
  decide +kernel

/-- `onPlan` at the midnight that ends day 2, or one that its plan day has outrun, in a config state. -/
def atMidnight (c : ConfigState) (planDay : Nat) : State :=
  { onPlan with
    tb := { onPlan.tb with fullTime := some 259200000 }
    bs := { onPlan.bs with planDay := some planDay, weekday := onPlan.bs.weekday.set 3 (.plan 0) }
    sp := (inState c).sp }

theorem witness_MinuteBoundary_day :
    let s := atMidnight .listening 2
    let w := s.bs.windowOf (.plan 0)
    s.up = true ∧ s.school = some 259200000 ∧ 259200000 % 60000 = 0 ∧ 259200000 % 86400000 = 0 ∧
    s.bs.planDay = some 2 ∧ s.loaded = true ∧ 2 < 259200000 / 86400000 ∧ s.listening = true ∧
    (atMidnight .running 2).loaded = true ∧ s.bs.overrides = [] ∧
    s.bs.weekday[(⟨3 % 7, by decide⟩ : Fin 7)] = .plan 0 ∧ 1 < w.count ∧
    (s.bs.freshMarks w).getD 1 .unusable = .opened ∧ 0 < (s.bs.entryAt (w.base + 1)).timeOfDay ∧
    (atMidnight .listening 3).bs.planDay = some 3 ∧ 259200000 / 86400000 ≤ 3 ∧
    t0 % 86400000 ≠ 0 := by decide +kernel

/-- An own BEACON in transmission, and one peer's sample, taken at a moment. -/
def inRound (offset : Int) (takenAt : Nat) : State :=
  (withQueue [waits .beacon true] (.sending [])).setPeer 8
    { PeerEntry.absent with
      state := .present, lastHeard := some takenAt
      sample := some { offset, standing := .free, takenAt } }

/-- The correction of that round. -/
def roundCorrection (s : State) : Int :=
  let e := eligibleSet s.freshSamples
  correctionOf (if e.2 then e.1 ++ [0] else e.1)

theorem witness_Round :
    let s := inRound 4 70001
    s.up = true ∧ s.transmitting = true ∧ s.school = some t0 ∧ t0 ≤ 5662310399999 ∧
    s.tb.heldBeacon = false ∧ selectedIndex s.ylc.queue = some 0 ∧
    s.ylc.queue[0]? = some (waits .beacon true) ∧ (waits .beacon true).frame = .beacon := by decide +kernel

/-- The ends of the cases of R15, and of the freshness of R13. -/
theorem witness_Round_cases :
    (eligibleSet (inRound 4 70000).freshSamples).1 = [] ∧
    (eligibleSet (inRound 4 70001).freshSamples).1 ≠ [] ∧
    roundCorrection (inRound 3 70001) = 1 ∧ roundCorrection (inRound 4 70001) = 2 ∧
    roundCorrection (inRound 3999 70001) = 1999 ∧ roundCorrection (inRound 4000 70001) = 2000 ∧
    (inRound 4 70001).tb.stepThreshold = 2000 := by decide +kernel

theorem witness_Correction :
    let values : List Int := [9000, 0, 1, 2]
    values ≠ [] ∧ (values.filter fun v => decide (v < 0 ∨ 2 < v)).length ≤ (values.length - 1) / 3 ∧
    (∀ v ∈ values, v.natAbs ≤ 2147483647) ∧ run.school = some t0 ∧
    (eligibleSet run.freshSamples).1 = [] := by decide +kernel

/-- The own CLAIM's body with its number 7. -/
def claimBody : ClaimBody := { number := 7, cls := 0, window := 400, holdLimit := 120, targets := [] }

/-- The own CLAIM in transmission, three claims in the list. -/
def sendingClaim : State :=
  { withQueue [waits (.claim claimBody) true] (.sending []) with
    fu := (floorWith (some (ownIn .claiming)) none [claimFrom 0, claimFrom 1, claimFrom 2]).fu }

theorem witness_AttemptEnds :
    let s := withQueue [waits (.release 7 1) true] (.sending [])
    s.up = true ∧ s.transmitting = true ∧ selectedIndex s.ylc.queue = some 0 ∧
    s.ylc.queue[0]? = some (waits (.release 7 1) true) ∧ (waits (.release 7 1) true).frame ≠ .beacon ∧
    { waits (.release 7 1) true with attempts := 6 }.attempts + 1 < 8 ∧
    8 ≤ { waits (.release 7 1) true with attempts := 7 }.attempts + 1 := by decide

theorem witness_AttemptEnds_claim :
    sendingClaim.up = true ∧ sendingClaim.transmitting = true ∧ sendingClaim.own = some 3 ∧
    sendingClaim.fu.own = some (ownIn .claiming) ∧ (ownIn .claiming).number = claimBody.number ∧
    (∀ e ∈ sendingClaim.fu.claims, e.claimant ≠ 3) ∧ sendingClaim.fu.claims.length < 4 := by decide

/-- The own CLAIM in transmission over a full list of claims that outrank it, and without its record. -/
theorem witness_AttemptEnds_full_list :
    let claims := [claimFrom 0, claimFrom 1, claimFrom 2, { claimFrom 20 with cls := .urgent }]
    let s := { sendingClaim with fu := { sendingClaim.fu with claims } }
    s.ylc.queue.length ≤ 8 ∧ (∀ e ∈ s.fu.claims, e.claimant ≠ 3) ∧ 4 ≤ s.fu.claims.length ∧
    s.running = true ∧ (∀ e ∈ s.fu.claims, outranks e.cls e.claimant (ownIn .claiming).cls 3 = true) ∧
    (floorWith none none []).fu.own = none ∧
    { ownIn .claiming with number := 8 }.number ≠ claimBody.number := by decide

/-- A STATUS-REPLY and a BEACON in transmission with what is held for them. -/
theorem witness_AttemptEnds_held :
    let r := withQueue [waits (.statusReply 8 1) true] (.sending [])
    let held := { r with ylc := { r.ylc with heldAsks := [(8, 1)] } }
    let b := withQueue [waits .beacon true] (.sending [])
    r.up = true ∧ r.transmitting = true ∧ selectedIndex r.ylc.queue = some 0 ∧
    ((8 : Station), (1 : Byte)) ∉ r.ylc.heldAsks ∧ ((8 : Station), (1 : Byte)) ∈ held.ylc.heldAsks ∧
    held.takesFrame (.statusReply 8 1) = true ∧ held.ylc.queue.length ≤ 8 ∧
    (∀ x ∈ held.ylc.queue.eraseIdx 0, x.frame ≠ .statusReply 8 1) ∧
    { b with tb := { b.tb with heldBeacon := true } }.tb.heldBeacon = true ∧
    b.takesFrame .beacon = true ∧ (∀ x ∈ b.ylc.queue.eraseIdx 0, x.frame ≠ .beacon) ∧
    selectedIndex b.ylc.queue = some 0 ∧ b.tb.heldBeacon = false := by decide

theorem witness_AccessToTheLine :
    let busy := withQueue [waits .beacon true] (.waiting 0)
    let quiet := { busy with ylc := { busy.ylc with busy := false, attempt := .waiting 3 } }
    run.up = true ∧ run.ylc.busy = true ∧ run.transmitting = false ∧ run.ylc.attempt ≠ .waiting 0 ∧
    quiet.ylc.busy = false ∧ quiet.ylc.attempt = .waiting 3 ∧ run.ylc.attempt = .none ∧
    busy.up = true ∧ busy.own = some 3 ∧ selectedIndex busy.ylc.queue = some 0 ∧
    busy.ylc.queue[0]? = some (waits .beacon true) ∧ busy.ylc.busy = true ∧
    busy.ylc.attempt = .waiting 0 ∧ selectedIndex quiet.ylc.queue = some 0 := by decide

/-- Each receive state, and lengths at the ends of the range. -/
theorem witness_AccessToTheLine_receiver :
    let at' (r : ReceiveState) : State := { run with ylc := { run.ylc with receive := r } }
    (at' (.header 1)).ylc.receive = .header 1 ∧ (1 : Nat) < 2 ∧ ¬(2 ≤ (2 : Nat) ∧ 64 < (64#8).toNat) ∧
    (2 ≤ (2 : Nat) ∧ 64 < (65#8).toNat) ∧ run.transmitting = false ∧ (withQueue [] (.sending [])).transmitting = true ∧
    (at' (.body 1)).ylc.receive = .body 1 ∧ (1 : Nat) ≤ 1 ∧ ¬((2 : Nat) ≤ 1) ∧
    run.school = some t0 ∧ { run with tb := TimeBase.powerOn }.school = none := by decide

theorem witness_BeaconBody :
    let held := floorWith none (some (viewOf 8)) []
    held.sp.config ≠ .configFault ∧ held.fu.view = some (viewOf 8) ∧ run.fu.view = none ∧ run.dru.record = none ∧
    (drilling (some (drillIn .sounding))).dru.record = some (drillIn .sounding) ∧
    (drilling (some (drillIn .sounding))).own = some 3 ∧ (faulty .configFault).sp.config = .configFault := by
  decide

theorem witness_FullQueue :
    let full := withQueue (List.replicate 8 (waits (.release 7 1) false)) .none
    full.takesFrame (.release 7 1) = true ∧ full.takesFrame (.yield 1) = true ∧
    full.ylc.queue.length = 8 ∧
    (∀ q ∈ full.ylc.queue,
      q.selected = true ∨ q.frame.classRank ≤ (OutFrame.release 7 1).classRank) ∧
    (∃ q ∈ full.ylc.queue,
      q.selected = false ∧ (OutFrame.yield 1).classRank < q.frame.classRank) := by decide

/-- `run` with the receiver inside a frame, and an attempt. -/
def receiving (a : Attempt) : State := { run with ylc := { run.ylc with receive := .header 0, attempt := a } }

theorem witness_Receiver :
    run.up = true ∧ run.ylc.receive = .hunt ∧ (receiving .none).ylc.receive ≠ .hunt ∧
    (receiving .none).transmitting = false ∧ (receiving (.sending [])).transmitting = true ∧
    frameVerdict run.own [0x35, 0x03, 0x01, 0x01, 0x6E, 0x2D] = .crcError ∧
    frameVerdict run.own ([0x36, 0x03, 0x00] ++ halfBytes (crc16 [0x36, 0x03, 0x00])) = .unknownKind ∧
    frameVerdict run.own ([0x35, 0x04, 0x01, 0x01] ++ halfBytes (crc16 [0x35, 0x04, 0x01, 0x01])) =
      .clash := by decide +kernel

theorem witness_NoBlock :
    bodyOfCommand (.yield 9 1) = some (0x35, 9, [1]) ∧ bodyOfCommand (.yield 4 1) = some (0x35, 4, [1]) ∧
    run.up = true ∧ (receiving (.sending [])).transmitting = true ∧ run.transmitting = false ∧
    run.own = some 3 ∧ stationOfByte 4 = some 3 ∧ stationOfByte 0 = none ∧ stationOfByte 31 = none ∧
    (inState .loading).delivers = false ∧ stationOfByte 9 ≠ some 3 := by decide

theorem witness_Asks :
    run.hears 9#8 8 ∧ targetsOwn run.own 4 = true ∧ targetsOwn run.own 31 = true ∧
    targetsOwn run.own 5 = false ∧ run.answersAsks = true ∧
    (List.replicate 7 (waits (.yield 1) false)).length < 8 ∧
    (∀ q ∈ List.replicate 7 (waits (.yield 1) false), q.frame ≠ .statusReply 8 1) ∧
    run.taking = true ∧ lineOfCode (1#8).toNat = some 0 ∧ lineOfCode (16#8).toNat = some 15 :=
  ⟨hears_of (by decide), by decide⟩

theorem witness_Unlock :
    let s := { run with dsq := { run.dsq with locked := some 15 } }
    s.hears 9#8 8 ∧ s.taking = true ∧ s.dsq.locked = some 15 ∧ s.dsq.scanOrder[(15 : Fin 16)] = 15 ∧
    ∀ p : Fin 16, p < 15 → s.dsq.scanOrder[p] ≠ 15 :=
  ⟨hears_of (by decide), by decide⟩

/-- `run` with a receive stamp. -/
def stamped (school : Option Nat) (own : Option Nat) : State :=
  { run with
    tb := { run.tb with fullTime := own }
    ylc := { run.ylc with receive := .header 0, stamp := some { fullTime := school, timer := 99990 } } }

theorem witness_Beacon :
    (stamped (some t0) (some t0)).hears 9#8 8 ∧ (stamped none none).hears 9#8 8 ∧
    standingOfByte 0 = .unset ∧ standingOfByte 4 = .unset ∧ standingOfByte 1 ≠ .unset ∧
    standingOfByte 3 ≠ .unset ∧ (stamped (some t0) (some t0)).receiveStamp.fullTime = some t0 ∧
    (stamped none none).receiveStamp.fullTime = none ∧ (stamped none none).loaded = true ∧
    (stamped none none).school = none ∧ (stamped (some t0) (some t0)).loaded = true ∧
    (inState .configFault).hears 9#8 8 ∧ (inState .configFault).loaded = false :=
  ⟨hears_of (by decide), hears_of (by decide), by decide, by decide, by decide, by decide, by decide, by decide,
    by decide, by decide, by decide, hears_of (by decide), by decide⟩

/-- A BEACON of station 9 with a floor summary and a drill summary of its own. -/
def beaconOf (holder number : Byte) (phase : Byte) : BeaconBody :=
  { stampDay := 2, stampMs := 28800000, standing := 1, flags := 0, floorHolder := holder
    floorNumber := number, floorClass := 0, holdRemaining := 60, drillInitiator := 9, drillNumber := 7
    drillStartDay := 2, drillStartMs := 28800000, drillPhase := phase, evacuationLimit := 600
    soundLimit := 180, expectedSet := 0x210, reportedSet := 0x200, ownMuster := 5 }

theorem witness_Beacon_floor :
    let held (since : Nat) : State :=
      let s := floorWith none (some { viewOf 8 with heldSince := since }) []
      { s with ylc := (stamped (some t0) (some t0)).ylc }
    let free := floorWith none none [claimFrom 9]
    (held 99890).hears 9#8 8 ∧ free.hears 9#8 8 ∧ (held 99890).taking = true ∧
    (held 99890).fu.view = some { viewOf 8 with heldSince := 99890 } ∧ (viewOf 8).holder = 8 ∧
    ¬(stationOfByte (beaconOf 9 8 1).floorHolder = some 8 ∧
      (beaconOf 9 8 1).floorNumber = (viewOf 8).number) ∧
    99890 + 100 ≤ (held 99890).receiveStamp.timer ∧ (held 99891).receiveStamp.timer < 99891 + 100 ∧
    stationOfByte (beaconOf 9 7 1).floorHolder = some 8 ∧
    (beaconOf 9 7 1).floorNumber = (viewOf 8).number ∧ free.fu.view = none ∧ free.own ≠ some 8 ∧
    (∀ e ∈ free.fu.claims, ¬(e.claimant = 8 ∧ e.number = 7)) ∧
    stationOfByte (beaconOf 4 7 1).floorHolder = free.own ∧
    stationOfByte (beaconOf 10 7 1).floorHolder = some 9 ∧
    (∃ e ∈ free.fu.claims, e.claimant = 9 ∧ e.number = (beaconOf 10 7 1).floorNumber) ∧
    stationOfByte (beaconOf 0 7 1).floorHolder = none :=
  ⟨hears_of (by decide), hears_of (by decide), by decide⟩

theorem witness_Beacon_drill :
    let own := drilling (some (drillIn .sounding))
    let other := drilling (some { drillIn .ended with number := 6 })
    own.hears 9#8 8 ∧ other.hears 9#8 8 ∧ own.taking = true ∧ own.school = some t0 ∧
    own.dru.yielding = false ∧ own.dru.record = some (drillIn .sounding) ∧
    (drillSummaryOf (beaconOf 0 0 2)).map DrillSummary.initiator = some 8 ∧
    (drillSummaryOf (beaconOf 0 0 2)).map DrillSummary.number = some 7 ∧
    (drillSummaryOf (beaconOf 0 0 2)).map DrillSummary.phase = some .evacuating ∧
    (drillSummaryOf (beaconOf 0 0 5)).map DrillSummary.phase = some .ended ∧
    (drillSummaryOf (beaconOf 0 0 2)).bind DrillSummary.ownMuster = some 5 ∧
    inSet (drillIn .sounding).expected 8 = true ∧ inSet (beaconOf 0 0 2).reportedSet 8 = true ∧
    (drillIn .sounding).muster[8] = none ∧ (drillIn .sounding).initiator = 8 ∧
    other.drillRunning = false ∧ DrillPhase.ended.running = false ∧ DrillPhase.evacuating.running = true :=
  ⟨hears_of (by decide), hears_of (by decide), by decide⟩

/-- `onPlan` with an override list. -/
def overridden (list : List (Nat × PlanCode)) : State :=
  { onPlan with bs := { onPlan.bs with overrides := list } }

theorem witness_Dayplans :
    onPlan.hears 9#8 8 ∧ onPlan.loaded = true ∧ planOfCode (0#8).toNat = some (.plan 0) ∧
    planOfCode (7#8).toNat = some (.plan 7) ∧ planOfCode (15#8).toNat = some .noBell ∧
    onPlan.bs.planDay = some 2 ∧ (1#16).toNat < 2 ∧ 2 < (3#16).toNat ∧
    (∃ o ∈ (overridden [(3, .noBell)]).bs.overrides, o.1 = (3#16).toNat) ∧
    (∃ o ∈ (overridden [(2, .noBell)]).bs.overrides, o.1 = 2) ∧
    (List.replicate 15 (4, PlanCode.noBell)).length < 16 ∧
    (∀ o ∈ List.replicate 16 (4, PlanCode.noBell), o.1 < (5#16).toNat) ∧
    (∀ o ∈ List.replicate 16 (4, PlanCode.noBell), o.1 ≠ (3#16).toNat) ∧
    (∃ o ∈ List.replicate 16 (4, PlanCode.noBell), (3#16).toNat < o.1) :=
  ⟨hears_of (by decide), by decide⟩

theorem witness_ChangeOfPlan :
    onPlan.hears 9#8 8 ∧ onPlan.loaded = true ∧ planOfCode (3#8).toNat = some (.plan 3) ∧
    onPlan.bs.planDay = some (2#16).toNat ∧ onPlan.school = some t0 ∧
    onPlan.bs.activePlan ≠ some (.plan 3) ∧
    (overridden (List.replicate 15 (4, .noBell))).bs.overrides.length < 16 :=
  ⟨hears_of (by decide), by decide⟩

theorem witness_Shifts :
    onPlan.hears 9#8 8 ∧ onPlan.loaded = true ∧ onPlan.bs.planDay = some (2#16).toNat ∧
    (1#8).toNat < onPlan.bs.window.count ∧ (1#8).toNat ≤ (1#8).toNat ∧
    (List.replicate 7 (ShiftRecord.cancel 0 0)).length < 8 :=
  ⟨hears_of (by decide), by decide⟩

/-- A full claim list whose lowest-ranked entry is of a station. -/
def fullList (low : Station) : List ClaimEntry := [claimFrom 0, claimFrom 1, claimFrom 2, claimFrom low]

theorem witness_Claim :
    (floorWith none none (fullList 20)).hears 9#8 8 ∧ (floorWith none none []).taking = true ∧
    (floorWith none none []).fu.view = none ∧ (floorWith none none []).fu.own = none ∧
    (∃ x ∈ [claimFrom 8], x.claimant = 8) ∧ (∀ x ∈ fullList 20, x.claimant ≠ 8) ∧
    [claimFrom 0, claimFrom 1, claimFrom 2].length < 4 ∧ 4 ≤ (fullList 20).length ∧
    (∀ x ∈ fullList 20, x = claimFrom 20 ∨ x.outranks (claimFrom 20) = true) ∧
    (∀ x ∈ fullList 4, x = claimFrom 4 ∨ x.outranks (claimFrom 4) = true) ∧
    run.own ≠ some 20 ∧ run.own ≠ some 4 ∧ (claimFrom 8).outranks (claimFrom 20) = true ∧
    (claimFrom 8).outranks (claimFrom 4) = false :=
  ⟨hears_of (by decide), by decide⟩

/-- The sender's old floor, a holder that objects, and an own claim lowest in a full list. -/
theorem witness_Claim_floors :
    let old := floorWith none (some (viewOf 8)) []
    let holder := floorWith (some (ownIn .live)) none [claimFrom 0]
    let displaced := floorWith (some (ownIn .claiming)) none [claimFrom 0, claimFrom 1, claimFrom 2, claimFrom 3]
    old.hears 9#8 8 ∧ holder.hears 9#8 8 ∧ displaced.hears 9#8 8 ∧
    old.fu.view = some (viewOf 8) ∧ (viewOf 8).holder = 8 ∧ (viewOf 8).number ≠ (8#8) ∧
    holder.fu.view = none ∧ holder.running = true ∧ holder.fu.own = some (ownIn .live) ∧
    (ownIn .live).phase.holdsFloor = true ∧ (claimFrom 8).cls = .general ∧ holder.ylc.queue.length < 8 ∧
    displaced.fu.own = some (ownIn .claiming) ∧ claimFrom 3 ∈ displaced.fu.claims ∧
    displaced.own = some (claimFrom 3).claimant ∧ (claimFrom 3).number = (ownIn .claiming).number ∧
    4 ≤ displaced.fu.claims.length ∧ (∀ x ∈ displaced.fu.claims, x.claimant ≠ 8) ∧
    (∀ x ∈ displaced.fu.claims, x = claimFrom 3 ∨ x.outranks (claimFrom 3) = true) ∧
    { claimFrom 8 with cls := .urgent }.outranks (claimFrom 3) = true :=
  ⟨hears_of (by decide), hears_of (by decide), hears_of (by decide), by decide⟩

theorem witness_Object :
    let s := floorWith (some (ownIn .live)) (some (viewOf 3)) [claimFrom 8]
    s.hears 9#8 8 ∧ s.taking = true ∧ stationOfByte 9 = some 8 ∧ stationOfByte 4 = some 3 ∧
    (∃ e ∈ s.fu.claims, e.claimant = 8 ∧ e.number = 7) ∧
    (∀ e ∈ s.fu.claims, ¬(e.claimant = 3 ∧ e.number = 7)) ∧ s.fu.own = some (ownIn .live) ∧
    s.own = some 3 ∧ (ownIn .live).number = 7 ∧ (ownIn .live).phase.holdsFloor = true ∧
    s.viewIs 3 7 = true ∧ s.running = true ∧ s.ylc.queue.length < 8 ∧
    (floorWith none none []).fu.own = none :=
  ⟨hears_of (by decide), by decide⟩

theorem witness_Release :
    let s := floorWith none (some (viewOf 8)) []
    s.hears 9#8 8 ∧ s.taking = true ∧ s.viewIs 8 7 = true :=
  ⟨hears_of (by decide), by decide⟩

/-- A bell of 08:00 on the plan day. -/
def bellAtEight : Bell := { day := 2, index := 0, effective := t0, pattern := 0 }

/-- A floor of station 9 at Z1, over a stack, with a deferred bell, at a time after 08:00. -/
def flooredZone (stack : List Owner) (deferred : Option Bell) (bellLine : Option LineId) (ms : Nat) : State :=
  let s := { floorWith none (some (viewOf 8)) [] with dru := (drilling (some (drillIn .sounding))).dru }
  { s.setZone 0 { Zone.afterReset with owner := some (.floor 8 7 .urgent), stack, deferred, bellLine } with
    tb := { run.tb with fullTime := some (t0 + ms) } }

theorem witness_Release_zones :
    let empty := flooredZone [] (some bellAtEight) (some 1) 30000
    let stacked := flooredZone [.drill 8 7, .floor 9 7 .general] none none 0
    empty.hears 9#8 8 ∧ stacked.hears 9#8 8 ∧ empty.taking = true ∧ empty.viewIs 8 7 = true ∧
    (empty.zone 0).owner = some (.floor 8 7 .urgent) ∧ (empty.zone 0).stack = [] ∧
    (empty.zone 0).deferred = some bellAtEight ∧ (empty.zone 0).bellLine = some 1 ∧
    (empty.line 1).cls.faulted = false ∧ empty.school = some (t0 + 30000) ∧
    ((t0 + 30000 : Nat) : Int) - bellAtEight.effective = empty.bs.lateLimit * 1000 ∧
    (flooredZone [] (some bellAtEight) (some 1) 30001).school = some (t0 + 30001) ∧
    ((flooredZone [] (some bellAtEight) none 0).zone 0).bellLine = none ∧
    ((empty.setLine 1 { empty.line 1 with cls := .shorted }).line 1).cls.faulted = true ∧
    ((flooredZone [] none none 0).zone 0).deferred = none ∧
    stacked.dru.record = some (drillIn .sounding) ∧ (drillIn .sounding).phase.running = true ∧
    (stacked.zone 0).stack = [.drill 8 7, .floor 9 7 .general] :=
  ⟨hears_of (by decide), hears_of (by decide), by decide +kernel⟩

/-- An own record GATHERING that expects stations 9 and 10, station 10 having answered with a mask. -/
def gathering (mask : Option ZoneMask) : OwnClaim :=
  { ownIn .gathering with expected := 0x600#32, responders := (ownIn .gathering).responders.set 9 mask }

/-- A floor in gathering at a station with a CHIME line L1. -/
def withChime (mask : Option ZoneMask) : State :=
  (floorWith (some (gathering mask)) none []).setLine 0 (lineOf .chime .off)

theorem witness_Ready :
    let s := floorWith (some (gathering none)) none []
    s.hears 9#8 8 ∧ s.fu.own = some (gathering none) ∧ s.taking = true ∧ stationOfByte 4 = some 3 ∧
    s.own = some 3 ∧ (gathering none).number = 7 ∧ (gathering none).phase.holdsFloor = true ∧
    (9 : Station) ≠ 8 ∧ inSet (gathering none).expected 9 = true ∧ (gathering none).responders[9] = none ∧
    stationOfByte 5 = some 4 ∧ s.own ≠ some 4 :=
  ⟨hears_of (by decide), by decide⟩

theorem witness_ReadyWaitEnd :
    let s := floorWith (some (gathering none)) none []
    let taken := floorWith (some (gathering (some 1))) none []
    s.up = true ∧ s.running = true ∧ (gathering none).phase = .gathering ∧
    reached (gathering none).readyWaitEnd s.now = true ∧ s.dsq.chime = .idle ∧ s.ownAccepted 7 = 0#8 ∧
    (∀ m : Station, (gathering none).responders[m] = none ∨ (gathering none).responders[m] = some 0#8) ∧
    s.own = some 3 ∧ s.ylc.queue.length < 8 ∧ taken.chimeLines = 0#16 ∧
    (gathering (some 1)).responders[9] = some 1 ∧ (withChime (some 1)).chimeLines ≠ 0#16 ∧
    (withChime (some 1)).up = true ∧ (withChime (some 1)).dsq.chime = .idle ∧
    inLines (withChime (some 1)).chimeLines 0 = true ∧
    ((withChime (some 1)).line 0).state = .off := by decide +kernel

/-- A gathering whose only unanswered expected responder is the sender of the READY. -/
theorem witness_Ready_closes :
    let g := gathering (some 1)
    let s := floorWith (some g) none []
    s.hears 9#8 8 ∧ s.own = some 3 ∧ stationOfByte 4 = some 3 ∧ g.number = 7 ∧ g.phase = .gathering ∧
    s.running = true ∧ s.dsq.chime = .idle ∧
    (∀ m : Station, m ≠ 8 → inSet g.expected m = true → g.responders[m] ≠ none) ∧
    s.ownAccepted 7 = 0#8 ∧
    (∀ m : Station, ((gathering (some 0)).responders.set 8 (some 0))[m] = none ∨
      ((gathering (some 0)).responders.set 8 (some 0))[m] = some 0#8) :=
  ⟨hears_of (by decide), by decide +kernel⟩

/-- `run` with key K4 armed, and its targets. -/
def keyed (targets : List Target) : State :=
  let s := run.setKey 3 { armed := true, held := false, refusalEnd := some 100000 }
  { s with fu := { s.fu with keys := s.fu.keys.set 3 { PageKey.default with targets } } }

theorem witness_PageKeyPress :
    let s := keyed [{ station := .all, zones := 255 }]
    s.up = true ∧ s.own = some 3 ∧ s.taking = true ∧ (s.key 3).armed = true ∧ (s.key 3).held = false ∧
    s.running = true ∧ s.fu.keys[(3 : KeyId)].targets ≠ [] ∧ s.fu.own = none ∧ s.dru.yielding = false ∧
    s.drillRunning = false ∧ s.fu.view = none ∧ s.fu.claims = [] ∧ s.ylc.queue.length < 8 ∧
    (keyed []).fu.keys[(3 : KeyId)].targets = [] ∧ reached (s.key 3).refusalEnd s.now = true := by
  decide +kernel

/-- Each case of a lamp, and the end of a refusal at 100,000 ms and one ms before it. -/
theorem witness_Lamp :
    let own (phase : OwnPhase) : State := floorWith (some (ownIn phase)) none []
    let refusal (ends : Nat) : State := run.setKey 0 { run.key 0 with refusalEnd := some ends }
    (own .chiming).fu.own = some (ownIn .chiming) ∧ (ownIn .chiming).key = 0 ∧ (own .live).lamp 0 = .steady ∧
    (own .claiming).lamp 0 = .slowFlash ∧ (own .gathering).lamp 1 = .off ∧ (refusal 100001).lamp 0 = .fastFlash ∧
    (refusal 100000).lamp 0 = .off ∧ run.fu.own = none ∧ (inState .loading).taking = false := by decide +kernel

/-- A key not armed by a release, at 99 ms and at 100 ms after the reset. -/
theorem witness_PageKeyPress_unarmed :
    let at' (timer : Nat) : State := { run with tb := { run.tb with timer } }
    (at' 99).up = true ∧ ((at' 99).key 3).armed = false ∧ (at' 99).tb.timer < 100 ∧
    ((at' 99).key 3).held = false ∧ (at' 100).taking = true ∧ 100 ≤ (at' 100).tb.timer := by decide +kernel

theorem witness_PageKeyRelease :
    let s := floorWith (some (ownIn .claiming)) none [claimFrom 3]
    let live := floorWith (some (ownIn .live)) (some (viewOf 3)) []
    s.up = true ∧ s.own = some 3 ∧ s.fu.own = some (ownIn .claiming) ∧ (ownIn .claiming).key = 0 ∧
    s.taking = true ∧ (ownIn .claiming).phase = .claiming ∧ live.viewIs 3 7 = true ∧
    (ownIn .live).phase ≠ .claiming ∧ s.running = true ∧ s.ylc.queue.length < 8 ∧
    (ownIn .claiming).key ≠ 3 := by decide

theorem witness_WindowClose :
    let wins := floorWith none (some (viewOf 5)) [{ claimFrom 8 with cls := .urgent }]
    let loses := floorWith (some (ownIn .claiming)) (some (viewOf 5)) [claimFrom 8, claimFrom 3]
    loses.up = true ∧ loses.taking = true ∧ loses.closingClaim 8 = some (claimFrom 8) ∧
    loses.fu.view = some (viewOf 5) ∧ (viewOf 5).holder ≠ 8 ∧ (claimFrom 8).cls = .general ∧
    loses.own ≠ some 8 ∧ loses.closingClaim 3 = some (claimFrom 3) ∧ loses.own = some 3 ∧
    loses.fu.own = some (ownIn .claiming) ∧ (ownIn .claiming).number = (claimFrom 3).number ∧
    (wins.closingClaim 8).isSome = true ∧ { claimFrom 8 with cls := .urgent }.objected = false ∧
    wins.fu.claims.length = 1 ∧ (viewOf 5).cls ≠ .urgent ∧ wins.running = true := by decide

/-- The own claim at its window close, for Z1 with page line L1, expecting nobody or stations 9 and 10. -/
def ownCloses (zones : ZoneMask) (expected : StationSet) : State :=
  let s := floorWith (some { ownIn .claiming with expected }) none
    [{ claimFrom 3 with targets := [{ station := .one 3, zones }] }]
  (s.setLine 0 (lineOf .page .off)).setZone 0 { Zone.afterReset with pageLine := some 0 }

/-- A peer's claim at its window close, for Z1 and Z2, Z1 with page line L1 and Z2 with none. -/
def peerCloses : State :=
  let s := floorWith none none [{ claimFrom 8 with targets := [{ station := .all, zones := 3 }] }]
  (s.setLine 0 (lineOf .page .off)).setZone 0 { Zone.afterReset with pageLine := some 0 }

theorem witness_WindowClose_ready :
    let s := peerCloses
    s.up = true ∧ s.running = true ∧ (s.closingClaim 8).isSome = true ∧ s.own ≠ some 8 ∧ s.fu.view = none ∧
    s.fu.claims.length = 1 ∧ zonesTargeted s.own [{ station := .all, zones := 3 }] = 3 ∧
    (s.zone 0).owner = none ∧ (s.zone 0).pageLine = some 0 ∧ (s.line 0).cls.faulted = false ∧
    s.ylc.queue.length < 8 := by decide +kernel

theorem witness_WindowClose_own :
    let s := ownCloses 1 0
    let preempts := floorWith (some (ownIn .live)) (some (viewOf 3)) [{ claimFrom 8 with cls := .urgent }]
    s.up = true ∧ s.taking = true ∧ (s.closingClaim 3).isSome = true ∧ s.own = some 3 ∧
    s.running = true ∧ s.fu.own = some { ownIn .claiming with expected := 0 } ∧ s.fu.view = none ∧
    s.fu.claims.length = 1 ∧ zonesTargeted s.own [{ station := .one 3, zones := 1 }] = 1 ∧
    zonesTargeted s.own [{ station := .one 3, zones := 0 }] = 0 ∧
    (∀ n : Station, inSet 0#32 n = false) ∧ inSet 0x600#32 8 = true ∧
    (ownIn .claiming).responders[8] = none ∧ (s.zone 0).owner = none ∧ (s.zone 0).pageLine = some 0 ∧
    (s.line 0).cls.faulted = false ∧ s.dsq.chime = .idle ∧ s.chimeLines = 0#16 ∧
    (s.setLine 1 (lineOf .chime .off)).chimeLines ≠ 0#16 ∧ s.ylc.queue.length < 8 ∧
    (preempts.closingClaim 8).isSome = true ∧ preempts.own = some 3 ∧
    preempts.fu.view = some (viewOf 3) ∧ (viewOf 3).cls ≠ .urgent ∧
    preempts.fu.own = some (ownIn .live) ∧ (ownIn .live).phase.holdsFloor = true := by decide +kernel

theorem witness_HoldEnds :
    let own := floorWith (some (ownIn .live)) (some (viewOf 3)) []
    let peer := floorWith none (some (viewOf 8)) []
    own.up = true ∧ own.own = some 3 ∧ own.fu.view = some (viewOf 3) ∧ (viewOf 3).holder = 3 ∧
    own.fu.own = some (ownIn .live) ∧ (ownIn .live).number = (viewOf 3).number ∧
    (viewOf 3).holdEnd ≤ own.now ∧ own.running = true ∧ own.ylc.queue.length < 8 ∧
    peer.fu.view = some (viewOf 8) ∧ (viewOf 8).holder ≠ 3 ∧ (viewOf 8).holdEnd + 2000 ≤ peer.now := by
  decide

/-- The school time at which a drill's elapsed time is `ms`. -/
def at_ (ms : Nat) (r : DrillRecord) : State :=
  let s := drilling (some r)
  { s with tb := { s.tb with fullTime := some (t0 + ms) } }

/-- Every station expected has reported. -/
def allIn (phase : DrillPhase) : DrillRecord := { drillIn phase with reported := 0x210#32 }

theorem witness_Deadline :
    let s := at_ 600000 (drillIn .sounding)
    s.up = true ∧ s.taking = true ∧ s.dru.record = some (drillIn .sounding) ∧
    (drillIn .sounding).phase.running = true ∧ (drillIn .ended).phase.running = false ∧
    s.school = some (t0 + 600000) ∧ (drillIn .sounding).evacuationLimit * 1000 = 600000 ∧
    (drillIn .sounding).soundLimit * 1000 = 180000 ∧
    (at_ 180000 (drillIn .sounding)).school = some (t0 + 180000) ∧
    (at_ 179999 (drillIn .sounding)).school = some (t0 + 179999) ∧ (allIn .sounding).expected ≠ 0 ∧
    (allIn .sounding).reported = (allIn .sounding).expected ∧
    (drillIn .sounding).reported ≠ (drillIn .sounding).expected := by decide

theorem witness_DrillKey :
    let s := drilling none
    s.up = true ∧ s.running = true ∧ s.dru.drillArmed = true ∧ s.own = some 3 ∧ s.ylc.queue.length < 8 ∧
    s.dru.yielding = false ∧ s.school = some t0 ∧ s.drillRunning = false ∧ 0 < s.dru.evacuationLimit ∧
    0 < s.dru.soundLimit ∧ (drilling (some (drillIn .sounding))).dru.record = some (drillIn .sounding) ∧
    (drillIn .sounding).phase = .sounding ∧ (drillIn .overdue).phase = .overdue ∧
    { s with tb := TimeBase.powerOn }.school = none := by decide

theorem witness_MusterKey :
    let s := drilling (some (drillIn .overdue))
    s.up = true ∧ s.running = true ∧ s.dru.musterArmed = true ∧ s.own = some 3 ∧
    s.dru.record = some (drillIn .overdue) ∧ (drillIn .overdue).phase.running = true ∧
    inSet (drillIn .overdue).expected 3 = true ∧ inSet (drillIn .overdue).reported 3 = false ∧
    s.dru.yielding = false ∧ s.ylc.queue.length < 8 ∧ inSet (allIn .overdue).reported 3 = true := by decide

/-- A DRILL-START of number 8 that starts a moment after `t0`, or before. -/
def startAt (ms : Quad) : DrillStartBody :=
  { number := 8, startDay := 2, startMs := ms, evacuationLimit := 600, soundLimit := 180,
    expectedSet := 0x210 }

/-- `drilling` the drill of station `i`. -/
def drillOf (i : Station) : State := drilling (some { drillIn .sounding with initiator := i })

theorem witness_DrillStart :
    (drilling none).hears 9#8 8 ∧ (drillOf 8).hears 9#8 8 ∧ (drilling none).taking = true ∧
    (drilling none).dru.yielding = false ∧ (drilling none).school = some t0 ∧
    (drilling none).drillRunning = false ∧ (drillIn .sounding).is 8 (startAt 0).number = false ∧
    (drillIn .sounding).phase.running = true ∧ t0 = 2 * 86400000 + (28800000#32).toNat ∧
    t0 < 2 * 86400000 + (28800001#32).toNat ∧ 2 * 86400000 + (28799999#32).toNat < t0 ∧
    (8 : Station) ≤ 8 ∧ (8 : Station) < 9 :=
  ⟨hears_of (by decide), hears_of (by decide), by decide⟩

/-- A drill that comes to zones at IDLE, BELL, PAGE-GENERAL and YIELD, the last over two entries and over three. -/
theorem witness_DrillStart_zones :
    let s := ((((drilling none).setZone 1 { Zone.afterReset with owner := some (.bell bellAtEight) }).setZone 2
      { Zone.afterReset with owner := some (.floor 9 7 .general) }).setZone 3
      { Zone.afterReset with owner := some .yield, stack := [.floor 8 7 .urgent, .floor 9 7 .general] }).setZone 4
      { Zone.afterReset with
        owner := some .yield, stack := [.floor 8 7 .urgent, .floor 9 7 .urgent, .floor 9 7 .general] }
    s.hears 9#8 8 ∧ s.drillRunning = false ∧ s.nowhere Owner.anyDrill ∧ (s.zone 0).owner = none ∧
    (s.zone 1).owner = some (.bell bellAtEight) ∧ (s.zone 2).owner = some (.floor 9 7 .general) ∧
    (s.zone 3).stack.length < 3 ∧ ¬((s.zone 4).stack.length < 3) := by
  refine ⟨hears_of (by decide +kernel), by decide +kernel, ?_, by decide +kernel⟩
  intro z
  revert z
  decide +kernel

theorem witness_DrillFrames :
    (drilling (some (drillIn .sounding))).hears 9#8 8 ∧ (drilling (some (drillIn .sounding))).taking = true ∧
    stationOfByte 9 = some 8 ∧ (drillIn .sounding).initiator = 8 ∧ (drillIn .sounding).number = 7 ∧
    (drillIn .sounding).phase = .sounding ∧ inSet (drillIn .sounding).expected 8 = true ∧
    (drillIn .overdue).phase.running = true ∧ (drillIn .mustered).phase = .mustered ∧
    ¬((drillIn .sounding).initiator = 8 ∧ (drillIn .sounding).number = 8) :=
  ⟨hears_of (by decide), by decide⟩

theorem witness_Yield :
    run.hears 9#8 8 ∧ (faulty .configFault).hears 9#8 8 ∧ run.taking = true ∧
    (faulty .configFault).taking = false :=
  ⟨hears_of (by decide), hears_of (by decide), by decide⟩

theorem witness_FirePanel :
    let s := drilling (some (drillIn .sounding))
    let y := { s with dru := { s.dru with contact := true, yielding := true } }
    s.up = true ∧ s.running = true ∧ s.ylc.queue.length < 8 ∧ s.dru.contact = false ∧
    s.dru.yielding = false ∧ (∀ z, (s.zone z).owner ≠ some .yield) ∧ s.fu.micLawful = true ∧
    s.dru.record = some (drillIn .sounding) ∧ (drillIn .sounding).phase.running = true ∧
    (drillIn .ended).phase.running = false ∧ y.dru.contact = true ∧ y.dru.yielding = true ∧
    y.peerCauseNow = false := by decide

/-- A bell, a page and a chime under way, each driven by its zone or by the own claim. -/
def sounding : State :=
  let bell : LineRecord :=
    { lineOf .bell .waiting with player := { state := .onWait, pattern := some 0, phase := 0 } }
  let s := ((floorWith (some (ownIn .chiming)) none []).setLine 0 bell).setLine 1 (lineOf .page .energized)
  let z := ((s.setZone 0 { Zone.afterReset with bellLine := some 0, owner := some (.bell bellAtEight) }).setZone 1
    { Zone.afterReset with pageLine := some 1, pageOn := true, owner := some (.floor 8 7 .general) }).setLine 2
    (lineOf .chime .energized)
  { z with dsq := { z.dsq with chime := .on 0 4 100000 } }

theorem witness_FirePanel_lines :
    sounding.up = true ∧ sounding.running = true ∧ sounding.fu.micLawful = true ∧
    sounding.dru.contact = false ∧ sounding.dru.yielding = false ∧
    (∀ z, (sounding.zone z).owner ≠ some .yield) ∧ sounding.ylc.queue.length < 8 ∧
    ∀ l : LineId, (sounding.line l).kind ≠ .clock →
      (sounding.line l).state = .energized ∨ (sounding.line l).state = .waiting → sounding.drives l := by
  refine ⟨by decide, by decide, by decide, by decide, by decide, by decide, by decide, ?_⟩
  intro l _ h
  have on : l = 0 ∨ l = 1 ∨ l = 2 := by
    revert l
    decide +kernel
  obtain rfl | rfl | rfl := on
  · exact .inl ⟨by decide, 0, .inl ⟨by decide, bellAtEight, by decide⟩⟩
  · exact .inr (.inl ⟨by decide, 1, by decide, by decide, 8, 7, .general, by decide⟩)
  · exact .inr (.inr ⟨by decide, by decide, rfl⟩)

/-- The bell, the page and the chime under way meet the invariant. -/
theorem witness_Driven_sounding : sounding.Driven where
  lines := witness_FirePanel_lines.2.2.2.2.2.2.2
  quiet h := absurd h (by decide)
  gaps l ends _ h := absurd h (by
    have idle : ∀ m : LineId, (sounding.line m).player.state = .idle ∨ (sounding.line m).player.state = .onWait := by
      decide +kernel
    rcases idle l with k | k <;> simp [k])
  bound i l h := absurd h (by
    have free : ∀ j : SlotId, (sounding.slot j).line = none := by decide +kernel
    simp [free i])
  chime _ := ⟨ownIn .chiming, by decide, by decide⟩
  mic := by decide
  yields h := absurd h (by decide)
  outside h := absurd h (by decide)
  held h := absurd h (by decide)

/-- A peer last heard 3B ago. -/
def silent : State :=
  (floorWith none (some (viewOf 8)) []).setPeer 8
    { PeerEntry.absent with state := .present, lastHeard := some 70000 }

theorem witness_SilentPeer :
    silent.up = true ∧ silent.delivers = true ∧ (silent.peer 8).state = .present ∧
    reached ((silent.peer 8).lastHeard.map (· + 3 * (silent.tb.beaconInterval * 1000))) silent.now = true ∧
    silent.taking = true ∧ silent.fu.view = some (viewOf 8) ∧ (viewOf 8).holder = 8 := by decide

theorem witness_DialSet :
    let s := clocked .off behind
    let flying := clocked .energized { behind with impulse := .inFlight }
    s.hears 9#8 8 ∧ flying.hears 9#8 8 ∧ targetsOwn s.own 4 = true ∧ targetsOwn s.own 31 = true ∧
    s.loaded = true ∧ lineOfCode (1#8).toNat = some 0 ∧ s.slotOf 0 = some 0 ∧ flying.slotOf 0 = some 0 ∧
    (s.slot 0).impulse ≠ .inFlight ∧ (flying.slot 0).impulse = .inFlight ∧
    lineOfCode (16#8).toNat = some 15 ∧ s.slotOf 15 = none ∧ targetsOwn s.own 5 = false ∧
    s.ds.activity = .idle ∧ s.ds.next < 32 ∧ s.ds.pendingSnapshot = false :=
  ⟨hears_of (by decide), hears_of (by decide), by decide +kernel⟩

/-- An energize request of a requester. -/
def requestOf (cls : RequestClass) (requester : Requester) : EnergizeRequest :=
  { cls, width := 600, polarity := .pos, requester, age := 99000 }

/-- L1 in a state with a request and a player, its width just over. -/
def driven (kind : LineKind) (state : LineState) (q : EnergizeRequest) (player : Player) : State :=
  run.setLine 0
    { LineRecord.afterReset kind with
      state, request := some q, energizeEnd := some 100000, player }

theorem witness_Impulse :
    let s := clocked .off behind
    let flying := driven .clock .energized (requestOf .clock (.dial 0)) Player.idle
    s.up = true ∧ s.running = true ∧ (s.slot 0).line = some 0 ∧ (s.slot 0).calls = true ∧
    (s.slot 0).impulse = .none ∧ reached ((s.slot 0).lastStart.map (· + s.du.spacing)) s.now = true ∧
    (s.line 0).state = .off ∧ flying.up = true ∧ (flying.line 0).state = .energized ∧
    reached (flying.line 0).energizeEnd flying.now = true ∧
    (flying.line 0).request = some (requestOf .clock (.dial 0)) ∧ (flying.slot 0).pendingSet = none ∧
    ((flying.setSlot 0 { behind with line := some 0, pendingSet := some 3 }).slot 0).pendingSet = some 3 ∧
    ((flying.setSlot 0 { behind with line := some 0, pendingSet := some 3 }).slot 0).line = some 0 := by
  decide +kernel

/-- The last grant at a moment, on a budget. -/
def granting (lastGrant : Nat) (budget : Nat) : State :=
  let s := driven .clock .waiting (requestOf .clock (.dial 0)) Player.idle
  { s with dsq := { s.dsq with lastGrant := some lastGrant, budget } }

theorem witness_Arbiter :
    let s := granting 99900 1
    s.up = true ∧ s.grantList = [0] ∧ (s.line 0).request = some (requestOf .clock (.dial 0)) ∧
    s.energizedCount < s.dsq.budget ∧ 99900 + s.dsq.stagger ≤ s.now ∧
    (granting 99900 0).dsq.budget ≤ (granting 99900 0).energizedCount ∧
    (granting 99901 1).now < 99901 + (granting 99901 1).dsq.stagger ∧ s.allJoined = true ∧
    { s with pending := [.displayWord] }.allJoined = true ∧
    { s with pending := [.displayWord, .drillDeadline] }.allJoined = false := by decide +kernel

/-- A player of pattern 0 in a state. -/
def playing (state : PlayerState) : Player := { state, pattern := some 0, phase := 0 }

/-- `run` with two repeats in bell pattern 0 and a chime player. -/
def patterned (s : State) (chime : ChimePlayer) : State :=
  { s with dsq := { s.dsq with
      chime, bellPatterns := s.dsq.bellPatterns.set 0 { BellPattern.default with repeats := 2 } } }

theorem witness_Players :
    let s := patterned (driven .bell .energized (requestOf .bell .player) (playing .on)) .idle
    let g := patterned (run.setLine 0
      { lineOf .bell .off with player := playing (.gap 100000) }) .idle
    s.up = true ∧ (s.line 0).state = .energized ∧ reached (s.line 0).energizeEnd s.now = true ∧
    (s.line 0).request = some (requestOf .bell .player) ∧ s.dsq.playerLast (s.line 0).player = false ∧
    (g.line 0).player.state = .gap 100000 ∧ 100000 ≤ g.now ∧ g.running = true ∧
    (g.line 0).state = .off := by decide +kernel

/-- A bell's last on-phase, its zone at BELL, and at a floor that cut it short. -/
theorem witness_Players_last :
    let s := (driven .bell .energized (requestOf .bell .player) (playing .on)).setZone 0
      { Zone.afterReset with bellLine := some 0, owner := some (.bell bellAtEight) }
    let cut := s.setZone 0 { s.zone 0 with
      owner := some (.floor 8 7 .general), cutBell := some bellAtEight, deferred := some bellAtEight }
    s.up = true ∧ s.dsq.playerLast (s.line 0).player = true ∧ s.bellZone 0 = some 0 ∧
    (s.line 0).state = .energized ∧ reached (s.line 0).energizeEnd s.now = true ∧
    (s.zone 0).owner = some (.bell bellAtEight) ∧ (s.zone 0).lawful = true ∧ (s.zone 0).deferred = none ∧
    (cut.zone 0).owner = some (.floor 8 7 .general) ∧ (cut.zone 0).cutBell = some bellAtEight ∧
    cut.bellZone 0 = some 0 := by decide +kernel

theorem witness_Chime :
    let s := patterned (run.setLine 0 (lineOf .chime .energized)) (.on 0 1 100000)
    let last := patterned (floorWith (some (ownIn .chiming)) none []) (.on 1 1 100000)
    let gap := patterned (run.setLine 0 (lineOf .chime .off)) (.gap 0 1 100000)
    s.up = true ∧ s.dsq.chime = .on 0 1 100000 ∧ 100000 ≤ s.now ∧ 0 + 1 < s.dsq.chimePattern.phases ∧
    last.dsq.chime = .on 1 1 100000 ∧ last.dsq.chimePattern.phases ≤ 1 + 1 ∧
    last.fu.own = some (ownIn .chiming) ∧ gap.dsq.chime = .gap 0 1 100000 ∧
    inLines 1#16 0 = true ∧ (gap.line 0).state = .off := by decide +kernel

/-- Z1 with page line L1, held by a floor, paged. -/
def pagedZone : Zone :=
  { Zone.afterReset with pageLine := some 0, owner := some (.floor 8 7 .general), pageOn := true }

theorem witness_Overcurrent :
    let s := (driven .clock .energized (requestOf .clock (.dial 0)) Player.idle).setSlot 0
      { behind with line := some 0, impulse := .inFlight }
    let p := (run.setLine 0 (lineOf .page .energized)).setZone 0 pagedZone
    s.up = true ∧ s.requestsBound = true ∧ (s.line 0).state = .energized ∧ (s.line 0).kind = .clock ∧
    (s.line 0).request = some (requestOf .clock (.dial 0)) ∧ (s.slot 0).line = some 0 ∧
    p.up = true ∧ p.requestsBound = true ∧ (p.line 0).state = .energized ∧ (p.line 0).kind = .page ∧ p.pageZone 0 = some 0 ∧
    (p.zone 0).level.isPage = true := by decide +kernel

/-- `run` with a bell line L1 that read OPEN once, a pointer and a lock. -/
def supervised (pointer : Option (Fin 16)) (locked : Option LineId) : State :=
  let s := run.setLine 0 { lineOf .bell .off with sampleResult := some .opened, sampleRun := 1 }
  { s with dsq := { s.dsq with pointer, locked, nextSlot := some 100000 } }

theorem witness_Supervision :
    let s := supervised (some 0) none
    s.up = true ∧ s.taking = true ∧ s.dsq.nextSlot = some 100000 ∧ 100000 ≤ s.now ∧
    s.slotPick.1 = some 0 ∧ (s.line 0).sampleResult = some .opened ∧ 1 ≤ (s.line 0).sampleRun ∧
    (s.line 0).sampleResult ≠ some .normal ∧ (supervised none (some 15)).dsq.locked = some 15 ∧
    s.dsq.locked = none ∧ (supervised none none).slotPick.1 = some 0 ∧
    (supervised none none).dsq.pointer = none ∧
    { run with dsq := { run.dsq with nextSlot := some 100000 } }.slotPick.1 = none := by decide +kernel

/-- `onPlan` a time after 08:00. -/
def afterEight (ms : Nat) : State := { onPlan with tb := { onPlan.tb with fullTime := some (t0 + ms) } }

theorem witness_DueEntry :
    let s := afterEight 30000
    let late := afterEight 30001
    s.up = true ∧ s.examines = true ∧ s.bs.planDay = some 2 ∧ s.bs.next = some (0, (t0 : Int)) ∧
    s.school = some (t0 + 30000) ∧ late.school = some (t0 + 30001) ∧ late.bs.next = some (0, (t0 : Int)) ∧
    s.bs.lateLimit = 30 := by decide +kernel

/-- The one entry of the plan due, for Z1 to Z5: at IDLE, BELL, PAGE-GENERAL, YIELD and with no bell line. -/
def dueAlone (ms missed : Nat) : State :=
  let s := afterEight ms
  let ring (o : Option Owner) : Zone := { Zone.afterReset with bellLine := some 0, owner := o }
  let z := (((s.setZone 0 (ring none)).setZone 1 (ring (some (.bell bellAtEight)))).setZone 2
    (ring (some (.floor 8 7 .general)))).setZone 3 (ring (some .yield))
  { z with bs := { z.bs with
      entries := z.bs.entries.set 0 { atEight with zones := 31 }
      marks := [.opened, .taken], missed } }

theorem witness_DueEntry_alone :
    let s := dueAlone 30000 65535
    s.up = true ∧ s.examines = true ∧ s.bs.planDay = some 2 ∧ s.bs.next = some (0, (t0 : Int)) ∧
    s.school = some (t0 + 30000) ∧ (dueAlone 30001 65534).school = some (t0 + 30001) ∧
    (dueAlone 30001 65534).bs.next = some (0, (t0 : Int)) ∧ s.bs.missed ≤ 65535 ∧
    s.bs.marks.length = 2 ∧ s.bs.markAt 1 ≠ .opened ∧ s.running = true ∧
    (∀ z : ZoneId, inZones (s.bs.entryAt 0).zones z = decide (z ≤ 4)) ∧
    (s.zone 0).owner = none ∧ (s.zone 1).owner = some (.bell bellAtEight) ∧
    (s.zone 2).level.isPage = true ∧ (s.zone 3).level = .yield ∧ (s.zone 4).bellLine = none ∧
    (s.line 0).cls.faulted = false := by decide +kernel

theorem witness_Store :
    (storing (.writing snap 100000) 31 false).up = true ∧ 100000 ≤ run.now ∧
    (storing (.writing snap 100000) 31 false).ds.next = 31 ∧
    (storing (.writing snap 100000) 30 true).ds.next < 31 ∧
    (storing (.writing snap 100000) 30 true).ds.pendingSnapshot = true ∧
    (storing (.writing snap 100000) 30 true).ds.activity = .writing snap 100000 ∧
    (storing (.erasing 100000) 32 true).ds.activity = .erasing 100000 ∧
    (1 : Fin 2) ≠ (storing (.erasing 100000) 32 true).ds.page := by decide

/-! ## Commands -/

/-- The state after a command. -/
def after (c : Instr) (s : State) : State :=
  match exec c s with
  | .next t => t
  | .fault _ | .refused _ => s

/-- A peer with a fresh sample. -/
def sampled (offset : Int) (standing : Standing) : PeerEntry :=
  { PeerEntry.absent with
    state := .present, lastHeard := some 99000, sample := some { offset, standing, takenAt := 99000 } }

/-- 1.8: the samples of stations 1, 2, 5 and 6 give a slew of +40 ms. -/
theorem test_transmit_complete_round :
    let s := (((withQueue [waits .beacon true] (.sending [])).setPeer 0 (sampled 120 .agreed)).setPeer 1
      (sampled (-30) .free)).setPeer 4 (sampled 15 .agreed)
    let t := after .transmitComplete (s.setPeer 5 (sampled 9000 .free))
    t.school = some (t0 + 40) ∧ t.tb.standing = .agreed ∧ t.ylc.queue = [] ∧
    (t.peer 0).sample.map Sample.offset = some 80 ∧ (t.peer 1).sample.map Sample.offset = some (-70) ∧
    (t.peer 5).sample.map Sample.offset = some 8960 := by decide +kernel

/-- R34: the eighth collision gives the frame up; the seventh does not. -/
theorem test_collision_limit :
    let s (attempts : Nat) :=
      withQueue [{ waits (.release 7 1) true with attempts }] (.sending [])
    (after .collision (s 7)).ylc.counts.giveUps = 1 ∧ (after .collision (s 7)).ylc.queue = [] ∧
    (after .collision (s 6)).ylc.counts.giveUps = 0 ∧
    (after .collision (s 6)).ylc.queue.map QueuedFrame.attempts = [7] := by decide +kernel

/-- 4.13: an impulse is delivered while 610 is pending; school time is 10:15:00.600. -/
theorem test_width_expiry_pending_set :
    let d : DialSlot := { behind with dial := some 614, impulse := .inFlight, line := some 0,
                                      pendingSet := some 610, lastStart := some 99400 }
    let s := (driven .clock .energized (requestOf .clock (.dial 0)) Player.idle).setSlot 0 d
    let t := after (.widthExpiry 0) { s with tb := { s.tb with fullTime := some (t0 + 8100600) } }
    (t.slot 0).dial = some 610 ∧ (t.slot 0).polarity = .pos ∧ (t.slot 0).state = .advancing ∧
    (t.slot 0).difference = some 5 ∧ t.ds.activity ≠ .idle := by decide +kernel

/-- 5.9: the second OPEN sample of a line disables it; the first does not. -/
theorem test_supervision_slot :
    let t := after (.supervisionSlot .opened) (supervised none none)
    (t.line 0).cls = .opened ∧ (t.line 0).state = .faultDisabled ∧ t.dsq.pointer = some 0 ∧
    ((after (.supervisionSlot .shorted) (supervised none none)).line 0).cls = .unknown := by decide +kernel

/-- 5.8: of bells and a clock that wait, the bell first in the scan order is granted. -/
theorem test_grant_order :
    let s := (driven .clock .waiting (requestOf .clock (.dial 0)) Player.idle).setLine 4
      { LineRecord.afterReset .bell with state := .waiting, request := some (requestOf .bell .player) }
    let t := after .staggerExpiry s
    (t.line 4).state = .energized ∧ (t.line 0).state = .waiting ∧
    (t.line 4).energizeEnd = some 100600 := by decide +kernel

/-- R131: an entry 30 s late is taken, one of 30.001 s is passed and counted. -/
theorem test_entry_due_lateness :
    (after .entryDue (afterEight 30000)).bs.marks = [.taken, .taken] ∧
    (after .entryDue (afterEight 30001)).bs.marks = [.passed, .passed] ∧
    (after .entryDue (afterEight 30001)).bs.missed = 2 := by decide +kernel

/-- R106, R113, R117: a bell in a paged zone is deferred; a floor that ends leaves the zone to it. -/
theorem test_release_returns_zone :
    let z : Zone := { pagedZone with deferred := some { day := 2, index := 0, effective := t0, pattern := 0 }
                                     bellLine := some 1 }
    let s := (((floorWith none (some (viewOf 8)) []).setLine 0 (lineOf .page .energized)).setLine 1
      (lineOf .bell .off)).setZone 0 z
    let t := after (.release 9 7 1) s
    (t.zone 0).level = .bell ∧ (t.line 0).state = .off ∧ (t.line 1).state = .energized ∧
    t.za.trunkSelect = false := by decide +kernel

/-- R146: an accepted press makes claim 1 and queues its CLAIM. -/
theorem test_page_key_press :
    let t := after (.pageKeyPress 3) (keyed [{ station := .all, zones := 255 }])
    t.fu.counter = 1 ∧ t.ylc.queue.map QueuedFrame.frame =
      [.claim { number := 1, cls := 0, window := 400, holdLimit := 120, targets := [(31, 255)] }] := by
  decide +kernel

/-- R142: a key never held is armed 50 ms after the reset: a press that began at 50 ms makes a claim, one that
began at 49 ms makes none. -/
theorem test_page_key_arming :
    let s (timer : Nat) : State :=
      let k := (keyed [{ station := .all, zones := 255 }]).setKey 3 KeyInput.open
      { k with tb := { k.tb with timer } }
    (after (.pageKeyPress 3) (s 100)).fu.counter = 1 ∧ (after (.pageKeyPress 3) (s 99)).fu.counter = 0 := by
  decide +kernel

/-- R37: the receive states of a frame with two body characters, and of one with none. -/
theorem test_receive_states :
    let at' (r : ReceiveState) (cs : List Byte) : ReceiveState := cs.foldl ReceiveState.afterCharacter r
    at' (.header 0) [0x11, 9] = .header 2 ∧ at' (.header 0) [0x11, 9, 2] = .body 2 ∧
    at' (.header 0) [0x11, 9, 2, 0xAA] = .body 1 ∧ at' (.header 0) [0x11, 9, 2, 0xAA, 0xAA] = .check 2 ∧
    at' (.header 0) [0x11, 9, 0] = .check 2 ∧ at' .hunt [0x11] = .hunt := by decide

/-- R37, R38: a length of 65 discards the frame at once and is counted once, RECEIVE_ABORT after it changing nothing;
a length of 64 leads to BODY. -/
theorem test_length_fault :
    let s := { run with ylc := { run.ylc with receive := .header 2, stamp := some { fullTime := none, timer := 1 } } }
    let t := after (.startBitSeen { counted := 0, character := 65 }) s
    t.ylc.receive = .hunt ∧ t.ylc.stamp = none ∧ t.ylc.counts.crcErrors = 1 ∧
    (after .receiveAbort t).ylc.counts.crcErrors = 1 ∧
    (after (.startBitSeen { counted := 0, character := 64 }) s).ylc.receive = .body 64 := by decide +kernel

/-- R142, the Rate column: 500 ms on and 500 ms off, 125 ms on and 125 ms off. -/
theorem test_flash_rates :
    Lamp.slowFlash.lit 499 = true ∧ Lamp.slowFlash.lit 500 = false ∧ Lamp.slowFlash.lit 999 = false ∧
    Lamp.slowFlash.lit 1000 = true ∧ Lamp.fastFlash.lit 124 = true ∧ Lamp.fastFlash.lit 125 = false ∧
    Lamp.fastFlash.lit 250 = true ∧ Lamp.steady.lit 700 = true ∧ Lamp.off.lit 0 = false := by decide

/-- R83, R88: a gap that ends while a command of its moment waits only joins; with none waiting it is granted. -/
theorem test_grant_waits_for_its_moment :
    let s := run.setLine 0 { lineOf .bell .off with player := { state := .gap 100000, pattern := some 0, phase := 0 } }
    ((after (.gapExpiry 0) { s with pending := [.drillDeadline] }).line 0).state = .waiting ∧
    ((after (.gapExpiry 0) s).line 0).state = .energized := by decide +kernel

/-- 9.10: the last report takes the drill to MUSTERED with its final elapsed. -/
theorem test_muster_completes :
    let s := at_ 750500 { drillIn .overdue with reported := 0x10#32 }
    (after (.muster 9 9 7 750) s).dru.record.map DrillRecord.phase = some .mustered ∧
    (after (.muster 9 9 7 750) s).dru.record.bind DrillRecord.finalElapsed = some 750 := by decide +kernel

/-- 9.11: a drill started 300 ms earlier replaces the one held. -/
theorem test_two_drills :
    let s := at_ 300 { drillIn .sounding with initiator := 14, start := t0 + 300 }
    (after (.drillStart 9 (startAt 28800000)) s).dru.record.map DrillRecord.initiator = some 8 ∧
    (after (.drillStart 9 (startAt 28800301)) s).dru.record.map DrillRecord.initiator = some 14 := by
  decide +kernel

/-- R181, R182: the panel takes every zone and ends the drill. -/
theorem test_fire_panel :
    let t := after (.firePanelChange true) (drilling (some (drillIn .sounding)))
    (∀ z, (t.zone z).level = .yield) ∧ t.dru.record.bind DrillRecord.endReason = some .yield := by
  decide +kernel

/-- R190: the recovered dials, and the write position after the last programmed slot. -/
theorem test_power_on_recovers :
    let t := after (.powerOn 12#5 false) (offWith (.written snap))
    (t.slot 0).dial = some 3 ∧ (t.slot 0).polarity = .pos ∧ t.ds.lastSequence = some 5 ∧ t.ds.page = 1 ∧
    t.ds.activity = .erasing 60 ∧ t.own = some 11 := by decide +kernel

/-- R199, R200: an image that passes, and a memory that does not answer. -/
theorem test_image_read :
    (after (.configImageRead shortest) (reading none)).sp.config = .listening ∧
    (after (.configImageRead []) (reading none)).sp.config = .configFault ∧
    (after (.configImageRead []) (reading none)).tb.beaconDue = some 101250 := by decide +kernel

/-- R58: the dial of the slot that an image binds, reduced to its modulus. -/
theorem test_image_binds_the_dial :
    let t := after (.configImageRead clockImage) loadingDial
    (t.slot 0).line = some 0 ∧ (t.slot 0).dial = some 80 ∧ (t.slot 0).polarity = .pos ∧
    (t.slot 1).dial = none := by decide +kernel

/-- R181, R182: a contact that comes to count as asserted in LOADING sets the yielding state there, and begins the
yield at the entry to LISTENING; a CONFIG-FAULT leaves no yield. -/
theorem test_contact_in_loading :
    let s := after (.firePanelChange true) (reading none)
    let t := after (.configImageRead shortest) s
    s.dru.yielding = true ∧ (s.zone 0).owner = none ∧ t.dru.yielding = true ∧
    (∀ z, (t.zone z).owner = some .yield) ∧
    (after (.configImageRead []) s).dru.yielding = false := by decide +kernel

/-- R193: the entry to HOLD-UP writes a snapshot and turns the lines off. -/
theorem test_supply_warning :
    let t := after .supplyWarning (driven .bell .energized (requestOf .bell .player) (playing .on))
    t.ds.supply = .holdUp ∧ (t.line 0).state = .off ∧ t.ds.activity ≠ .idle := by decide +kernel

/-- R76: a snapshot begun in LOADING holds UNSET for a dial not bound yet, one begun in CONFIG-FAULT the dial as it
stands. -/
theorem test_snapshot_of_unbound_slots :
    let fault := { loadingDial with sp := { loadingDial.sp with config := .configFault } }
    (after .supplyWarning loadingDial).ds.activity =
      .writing { sequence := 0, time := none,
                 dials := (Vector.replicate 6 { dial := none, polarity := .neg }).set 0
                   { dial := none, polarity := .pos } } 100005 ∧
    ((after .supplyWarning loadingDial).slot 0).dial = some 800 ∧
    (fault.dialReadings[0]).dial = some 800 := by decide +kernel

/-- R152, step 3: the READY of a claim for one zone that takes it and one that has no page line. -/
theorem test_ready_masks :
    (after (.windowClose 8) peerCloses).ylc.queue.map QueuedFrame.frame = [.ready 8 7 1 2] := by decide +kernel

/-- R41, R138: PLAN with no plan day, and a page that no field names. -/
theorem test_page_contents :
    run.pageContent 0x04 = [15, 0, 0xFF, 0xFF, 0] ∧ run.pageContent 0x24 = [] := by decide +kernel

/-- One millisecond on an empty queue: the commands that fall due wait. -/
theorem test_tick :
    (tick { run with tb := { run.tb with timer := 99999, fullTime := some (t0 - 1) } }).pending =
      [.schoolTimeBoundary, .beaconTimerExpiry, .displayWord] := by decide +kernel

end Sys2Proof.Machine.Tests
end

section
/-! PROOF. Frames of the operations that Sys2Proof/Laws/Frames.lean does not name, block by block: which parts of
the state each of them can write. -/

namespace Sys2Proof.Machine

-- one declaration at a time, as in the tests: the threads of a whole text's proofs do not fit the memory limit
set_option Elab.async false

/-! ## How frames chain -/

/-- One operation after another writes what either of them writes. -/
theorem State.keepsAllBut.andThen {s t u : State} {a b : List Part} (h1 : s.keepsAllBut a t)
    (h2 : t.keepsAllBut b u) : s.keepsAllBut (a ++ b) u :=
  State.keepsAllBut_trans (State.keepsAllBut_mono h1 (List.subset_append_left a b))
    (State.keepsAllBut_mono h2 (List.subset_append_right a b))

/-- A frame is one of any larger list of parts. -/
theorem State.keepsAllBut.within {s t : State} {a b : List Part} (h : s.keepsAllBut a t)
    (sub : ∀ p ∈ a, p ∈ b := by decide) : s.keepsAllBut b t :=
  State.keepsAllBut_mono h sub

/-- A frame applied to one part. -/
theorem State.keepsAllBut.part {s t : State} {a : List Part} (h : s.keepsAllBut a t) (p : Part)
    (out : p ∉ a := by decide) : s.sameIn t p :=
  h p out

theorem setTb_frame (s : State) (b : TimeBase) : s.keepsAllBut [.tb] { s with tb := b } := by
  intro p hp
  cases p <;> first | rfl | simp at hp

theorem setSp_frame (s : State) (x : SettingsPort) : s.keepsAllBut [.sp] { s with sp := x } := by
  intro p hp
  cases p <;> first | rfl | simp at hp

theorem setFu_frame (s : State) (x : FloorUnit) : s.keepsAllBut [.fu] { s with fu := x } := by
  intro p hp
  cases p <;> first | rfl | simp at hp

theorem setDru_frame (s : State) (x : DrillUnit) : s.keepsAllBut [.dru] { s with dru := x } := by
  intro p hp
  cases p <;> first | rfl | simp at hp

theorem setDu_frame (s : State) (x : DialUnit) : s.keepsAllBut [.du] { s with du := x } := by
  intro p hp
  cases p <;> first | rfl | simp at hp

theorem setDsq_frame (s : State) (x : Sequencer) : s.keepsAllBut [.dsq] { s with dsq := x } := by
  intro p hp
  cases p <;> first | rfl | simp at hp

theorem setPt_frame (s : State) (x : Vector PeerEntry 30) : s.keepsAllBut [.pt] { s with pt := x } := by
  intro p hp
  cases p <;> first | rfl | simp at hp

theorem State.setPeer_frame (s : State) (n : Station) (e : PeerEntry) : s.keepsAllBut [.pt] (s.setPeer n e) :=
  setPt_frame s _

theorem State.setSchool_frame (s : State) (t : Option Nat) (g : Standing) :
    s.keepsAllBut [.tb] (s.setSchool t g) :=
  setTb_frame s _

theorem State.setYielding_frame (s : State) (on : Bool) : s.keepsAllBut [.dru] (s.setYielding on) :=
  setDru_frame s _

theorem State.withPeerCause_frame (s : State) : s.keepsAllBut [.dru] s.withPeerCause :=
  setDru_frame s _

/-! ## The Dial Store and the Dial Unit -/

theorem hourByRunning_frame (t : Nat) (s : State) : s.keepsAllBut [.ds] (hourByRunning t s) := by
  unfold hourByRunning
  split
  · exact requestSnapshot_frame s
  · exact s.keepsAllBut_refl _

theorem hourByMovement_frame (s : State) : s.keepsAllBut [.ds] (hourByMovement s) := by
  unfold hourByMovement
  split
  · exact requestSnapshot_frame s
  · exact s.keepsAllBut_refl _

theorem eraseIfFull_frame (s : State) : s.keepsAllBut [.ds] (eraseIfFull s) := by
  unfold eraseIfFull
  split <;> exact setDs_frame s _

theorem deliverImpulse_frame (i : SlotId) (polarity : Polarity) (s : State) :
    s.keepsAllBut [.dsq, .du, .ds] (deliverImpulse i polarity s) :=
  endImpulse_frame i _ _ s

theorem abortImpulse_frame (i : SlotId) (s : State) : s.keepsAllBut [.dsq, .du, .ds] (abortImpulse i s) :=
  endImpulse_frame i _ _ s

theorem dropImpulse_frame (i : SlotId) (s : State) : s.keepsAllBut [.dsq, .du] (dropImpulse i s) :=
  ((s.setSlot_frame i _).andThen (recompute_frame i _)).within

theorem classToDial_frame (l : LineId) (s : State) : s.keepsAllBut [.dsq, .du] (classToDial l s) := by
  unfold classToDial
  split
  · exact s.keepsAllBut_refl _
  · exact recompute_frame _ s

theorem dialSet_frame (line : Byte) (position : Half) (s : State) :
    s.keepsAllBut [.dsq, .du, .ds] (dialSet line position s) := by
  unfold dialSet
  split
  · exact s.keepsAllBut_refl _
  · dsimp only
    split
    · exact (s.setSlot_frame _ _).within
    · exact (((s.setSlot_frame _ _).andThen (recompute_frame _ _)).andThen (requestSnapshot_frame _)).within

theorem bindSlots_frame (clocks : List (LineId × Nat)) (s : State) :
    s.keepsAllBut [.dsq, .du] (bindSlots clocks s) :=
  ((setDu_frame s _).andThen (recomputeAll_frame _)).within

/-! ## The Bell Scheduler -/

theorem examineEntry_frame (day i : Nat) (due : Int) (s : State) :
    s.keepsAllBut [.za, .bs] (examineEntry day i due s) := by
  unfold examineEntry
  dsimp only
  split
  · exact ((s.setBs_frame _).andThen (forEach_keepsAllBut (bellRequest_frame _) _ _)).within
  · exact (s.setBs_frame _).within

theorem examineDueUpTo_frame (n : Nat) (s : State) : s.keepsAllBut [.za, .bs] (examineDueUpTo n s) := by
  induction n generalizing s with
  | zero => exact s.keepsAllBut_refl _
  | succ n ih =>
    unfold examineDueUpTo
    split
    · split
      · exact State.keepsAllBut_trans (examineEntry_frame _ _ _ s) (ih _)
      · exact s.keepsAllBut_refl _
    · exact s.keepsAllBut_refl _

/-- R131: the examination of entries writes the scheduler and the zones it asks. -/
theorem examineDue_frame (s : State) : s.keepsAllBut [.za, .bs] (examineDue s) := by
  unfold examineDue
  split
  · exact examineDueUpTo_frame _ s
  · exact s.keepsAllBut_refl _

theorem newPlanDay_frame (day : Nat) (s : State) : s.keepsAllBut [.bs] (newPlanDay day s) := by
  unfold newPlanDay
  split
  · exact s.keepsAllBut_refl _
  · split <;> exact s.setBs_frame _

theorem adoptPlanDay_frame (t : Nat) (s : State) : s.keepsAllBut [.bs] (adoptPlanDay t s) :=
  s.setBs_frame _

theorem bellsDayChange_frame (t : Nat) (s : State) : s.keepsAllBut [.za, .bs] (bellsDayChange t s) :=
  ((newPlanDay_frame _ s).andThen (examineDue_frame _)).within

theorem bellsMovement_frame (m : Movement) (s : State) : s.keepsAllBut [.za, .bs] (bellsMovement m s) := by
  have moved : s.keepsAllBut [.za, .bs]
      (if m.amount < 0 then s
       else if m.day then examineDue (newPlanDay (dayOf m.after) (examineDue s)) else examineDue s) := by
    split
    · exact s.keepsAllBut_refl _
    · split
      · exact (((examineDue_frame s).andThen (newPlanDay_frame _ _)).andThen (examineDue_frame _)).within
      · exact examineDue_frame s
  unfold bellsMovement
  split
  · exact (adoptPlanDay_frame _ s).within
  · exact moved
  · exact moved

theorem bellsTakeUp_frame (s : State) : s.keepsAllBut [.bs] (bellsTakeUp s) := by
  unfold bellsTakeUp
  split
  · exact s.keepsAllBut_refl _
  · exact adoptPlanDay_frame _ s
  · exact newPlanDay_frame _ s

theorem takeDayplan_frame (day : Nat) (code : Option PlanCode) (s : State) :
    s.keepsAllBut [.bs] (takeDayplan day code s) := by
  unfold takeDayplan
  split
  · exact s.keepsAllBut_refl _
  · split <;> exact s.setBs_frame _

theorem takeShift_frame (day kind first last : Nat) (delta : Int) (s : State) :
    s.keepsAllBut [.bs] (takeShift day kind first last delta s) := by
  unfold takeShift
  dsimp only
  split
  · exact s.keepsAllBut_refl _
  · split
    · exact s.setBs_frame _
    · split
      · split
        · exact s.keepsAllBut_refl _
        · split <;> exact s.setBs_frame _
      · exact s.keepsAllBut_refl _

/-! ## The Zone Arbiter -/

theorem pageRequest_frame (holder : Station) (number : Byte) (cls : FloorClass) (z : ZoneId) (s : State) :
    s.keepsAllBut [.za, .bs] (pageRequest holder number cls z s).1 := by
  have released := releaseAt_frame (fun o => o.anyFloor && !o.isFloor holder number) z s
  unfold pageRequest
  dsimp only
  split
  · exact s.keepsAllBut_refl _
  · split
    · exact released.within
    · split
      · exact released.within
      · split
        · exact released.within
        · split
          · exact (released.andThen (displace_frame _ _ _ _)).within
          · exact released.within

theorem drillRequest_frame (initiator : Station) (number : Byte) (z : ZoneId) (s : State) :
    s.keepsAllBut [.za, .bs] (drillRequest initiator number z s) := by
  have released := releaseAt_frame (fun o => o.anyDrill && !o.isDrill initiator number) z s
  have stacked (r : Zone) := released.andThen (State.setZone_frame _ z r)
  unfold drillRequest
  dsimp only
  split
  · exact s.keepsAllBut_refl _
  · split
    · exact released.within
    · split
      iterate 4 exact (released.andThen (displace_frame _ _ _ _)).within
      iterate 2 split <;> first | exact (stacked _).within | exact released.within

theorem bellFinished_frame (l : LineId) (s : State) : s.keepsAllBut [.za] (bellFinished l s) := by
  unfold bellFinished
  split
  · exact s.keepsAllBut_refl _
  · split
    · exact popZone_frame _ s
    · dsimp only
      split
      · exact s.setZone_frame _ _
      · exact s.keepsAllBut_refl _

theorem bellAborted_frame (l : LineId) (s : State) : s.keepsAllBut [.za, .bs] (bellAborted l s) := by
  unfold bellAborted
  split
  · exact s.keepsAllBut_refl _
  · split
    · split
      · exact (popZone_frame _ s).within
      · exact ((bellMissed_frame _ s).andThen (popZone_frame _ _)).within
    · exact s.keepsAllBut_refl _

theorem sounderAborted_frame (l : LineId) (s : State) : s.keepsAllBut [.za] (sounderAborted l s) := by
  unfold sounderAborted
  split
  · exact s.keepsAllBut_refl _
  · exact s.setZone_frame _ _

theorem pageCut_frame (l : LineId) (s : State) : s.keepsAllBut [.za] (pageCut l s) := by
  unfold pageCut
  split
  · exact s.keepsAllBut_refl _
  · split
    · exact s.setZone_frame _ _
    · exact s.keepsAllBut_refl _

theorem playerAborted_frame (l : LineId) (bell : Bool) (s : State) :
    s.keepsAllBut [.za, .bs] (playerAborted l bell s) := by
  unfold playerAborted
  split
  · exact bellAborted_frame l s
  · exact (sounderAborted_frame l s).within

theorem soundOff_frame (initiator : Station) (number : Byte) (s : State) :
    s.keepsAllBut [.za, .dsq] (soundOff initiator number s) := by
  refine forEach_keepsAllBut (fun z t => ?_) allZones s
  split
  · exact sounderOff_frame z t
  · exact t.keepsAllBut_refl _

theorem sounderNormal_frame (z : ZoneId) (s : State) : s.keepsAllBut [.za, .dsq] (sounderNormal z s) := by
  unfold sounderNormal
  split
  · split
    · exact sounderStart_frame z s
    · exact s.keepsAllBut_refl _
  · exact s.keepsAllBut_refl _

theorem pageNormal_frame (z : ZoneId) (s : State) : s.keepsAllBut [.za, .dsq] (pageNormal z s) := by
  unfold pageNormal
  split
  · exact pageLineOn_frame z s
  · exact s.keepsAllBut_refl _

theorem normalToZone_frame (l : LineId) (s : State) : s.keepsAllBut [.za, .dsq] (normalToZone l s) := by
  unfold normalToZone
  split
  · exact sounderNormal_frame _ s
  · exact pageNormal_frame _ s
  · exact s.keepsAllBut_refl _

theorem emptyZones_frame (s : State) : s.keepsAllBut [.za, .bs] (emptyZones s) := by
  refine ((forEach_keepsAllBut (changed := [.za, .bs]) (fun z t => ?_) allZones s).andThen
    (syncTrunk_frame _)).within
  dsimp only
  split
  · exact ((bellMissed_frame _ t).andThen (State.setZone_frame _ _ _)).within
  · exact (t.setZone_frame _ _).within

/-! ## The Yard Line Controller -/

theorem claimLost_frame (number : Byte) (s : State) : s.keepsAllBut [.fu] (claimLost number s) :=
  reportLost_frame (.claim { number, cls := 0, window := 0, holdLimit := 0, targets := [] }) s

theorem requestReply_frame (asker : Station) (page : Byte) (s : State) :
    s.keepsAllBut [.ylc, .fu] (requestReply asker page s) := by
  unfold requestReply
  split
  · exact enqueue_frame _ s
  · split
    · exact (s.setYlc_frame _).within
    · exact s.keepsAllBut_refl _

theorem releaseHeldAsk_frame (asker : Station) (page : Byte) (s : State) :
    s.keepsAllBut [.ylc, .fu] (releaseHeldAsk asker page s) := by
  unfold releaseHeldAsk
  split
  · exact ((s.setYlc_frame _).andThen (requestReply_frame _ _ _)).within
  · exact s.keepsAllBut_refl _

theorem lineQuiet_frame (s : State) : s.keepsAllBut [.ylc] (lineQuiet s) := by
  unfold lineQuiet
  dsimp only
  split
  · exact ((s.setYlc_frame _).andThen (beginTransmission_frame _)).within
  · exact s.setYlc_frame _

theorem setBusy_frame (counted : Nat) (s : State) : s.keepsAllBut [.ylc] (setBusy counted s) := by
  rw [setBusy_eq]
  exact s.setYlc_frame _

theorem receiveAbort_frame (s : State) : s.keepsAllBut [.ylc] (receiveAbort s) := by
  unfold receiveAbort
  split
  · exact s.keepsAllBut_refl _
  · split <;> exact s.setYlc_frame _

theorem takeCharacter_frame (character : Byte) (s : State) : s.keepsAllBut [.ylc] (takeCharacter character s) := by
  unfold takeCharacter
  split
  · exact receiveAbort_frame s
  · exact s.setYlc_frame _

theorem startBit_frame (bit : StartBit) (s : State) : s.keepsAllBut [.ylc] (startBit bit s) :=
  ((setBusy_frame _ s).andThen (takeCharacter_frame _ _)).within

theorem delimiter_frame (s : State) : s.keepsAllBut [.ylc] (delimiter s) := by
  unfold delimiter
  split <;> exact s.setYlc_frame _

theorem frameRejected_frame (frame : List Byte) (s : State) : s.keepsAllBut [.ylc] (frameRejected frame s) := by
  unfold frameRejected
  split
  · exact s.setYlc_frame _
  · split <;> exact s.setYlc_frame _

end Sys2Proof.Machine
end

section
/-! PROOF. Frames of the Floor Unit, the Drill Unit, the Time Base, the Peer Table and start-up. -/

namespace Sys2Proof.Machine

-- one declaration at a time, as in the tests: the threads of a whole text's proofs do not fit the memory limit
set_option Elab.async false

/-! ## The Floor Unit -/

theorem showRefusal_frame (k : KeyId) (s : State) : s.keepsAllBut [.fu] (showRefusal k s) := s.setKey_frame _ _

theorem lampOff_frame (k : KeyId) (s : State) : s.keepsAllBut [.fu] (lampOff k s) := s.setKey_frame _ _

theorem queueRelease_frame (number : Byte) (why : ReleaseReason) (s : State) :
    s.keepsAllBut [.ylc, .fu] (queueRelease number why s) :=
  enqueue_frame _ s

theorem ownFloorLeaves_frame (number : Byte) (s : State) : s.keepsAllBut [.fu, .za] (ownFloorLeaves number s) := by
  unfold ownFloorLeaves
  split
  · exact floorLeaves_frame _ _ s
  · exact s.keepsAllBut_refl _

theorem claimLeaves_frame (claimant : Station) (s : State) : s.keepsAllBut [.fu] (claimLeaves claimant s) :=
  s.setClaims_frame _

theorem ownClaimLeaves_frame (s : State) : s.keepsAllBut [.fu] (ownClaimLeaves s) := by
  unfold ownClaimLeaves
  split
  · exact claimLeaves_frame _ s
  · exact s.keepsAllBut_refl _

theorem ownClaimWithdrawn_frame (number : Byte) (s : State) :
    s.keepsAllBut [.ylc, .fu] (ownClaimWithdrawn number s) := by
  unfold ownClaimWithdrawn
  split
  · split
    · exact (((s.setOwn_frame none).andThen (showRefusal_frame _ _)).andThen (queueRelease_frame _ _ _)).within
    · exact s.keepsAllBut_refl _
  · exact s.keepsAllBut_refl _

theorem joinClaim_frame (c : ClaimEntry) (s : State) : s.keepsAllBut [.ylc, .fu] (joinClaim c s) := by
  have withdrawn (b : Bool) (n : Byte) (t : State) (h : s.keepsAllBut [.ylc, .fu] t) :
      s.keepsAllBut [.ylc, .fu] (if b then ownClaimWithdrawn n t else t) := by
    split
    · exact State.keepsAllBut_trans h (ownClaimWithdrawn_frame n t)
    · exact h
  have listed (l : List ClaimEntry) : s.keepsAllBut [.ylc, .fu] (s.setClaims l) := (s.setClaims_frame l).within
  unfold joinClaim
  split
  dsimp only
  refine withdrawn _ _ _ ?_
  split
  · split
    · exact State.keepsAllBut_trans (listed _) (ownClaimWithdrawn_frame _ _)
    · exact listed _
  · exact listed _

theorem pressKey_frame (key : KeyId) (s : State) : s.keepsAllBut [.ylc, .fu] (pressKey key s) := by
  unfold pressKey
  dsimp only
  split
  · exact (showRefusal_frame key s).within
  · split
    · exact (showRefusal_frame key s).within
    · exact ((setFu_frame s _).andThen (enqueue_frame _ _)).within

theorem claimSent_frame (number : Byte) (s : State) : s.keepsAllBut [.ylc, .fu] (claimSent number s) := by
  unfold claimSent
  split
  · split
    · exact joinClaim_frame _ s
    · exact s.keepsAllBut_refl _
  · exact s.keepsAllBut_refl _

theorem enterLive_frame (s : State) : s.keepsAllBut [.fu] (enterLive s) := by
  unfold enterLive
  split
  · split
    · exact ((s.setOwn_frame _).andThen (State.setMic_frame _ _)).within
    · exact s.keepsAllBut_refl _
  · exact s.keepsAllBut_refl _

theorem enterChiming_frame (o : OwnClaim) (s : State) : s.keepsAllBut [.fu, .dsq] (enterChiming o s) := by
  have started := (s.setOwn_frame (some { o with phase := .chiming, readyWaitEnd := none })).andThen
    (startChime_frame _)
  unfold enterChiming
  split <;> rename_i h <;> rw [h] at started
  · exact (started.andThen (enterLive_frame _)).within
  · exact started.within

theorem closeGathering_frame (o : OwnClaim) (s : State) :
    s.keepsAllBut [.ylc, .fu, .za, .dsq] (closeGathering o s) := by
  unfold closeGathering
  split
  · exact ((((s.setOwn_frame none).andThen (queueRelease_frame _ _ _)).andThen (showRefusal_frame _ _)).andThen
      (ownFloorLeaves_frame _ _)).within
  · exact (enterChiming_frame o s).within

theorem ownWin_frame (number : Byte) (s : State) : s.keepsAllBut [.ylc, .fu, .za, .dsq] (ownWin number s) := by
  unfold ownWin
  split
  · split
    · dsimp only
      split
      · exact ((s.setOwn_frame _).andThen (closeGathering_frame _ _)).within
      · exact (s.setOwn_frame _).within
    · exact s.keepsAllBut_refl _
  · exact s.keepsAllBut_refl _

theorem ownDisplaced_frame (s : State) : s.keepsAllBut [.fu, .dsq] (ownDisplaced s) := by
  unfold ownDisplaced
  split
  · split
    · exact ((ownIdle_frame s).andThen (lampOff_frame _ _)).within
    · exact s.keepsAllBut_refl _
  · exact s.keepsAllBut_refl _

theorem ownHoldEnds_frame (o : OwnClaim) (s : State) :
    s.keepsAllBut [.ylc, .fu, .za, .dsq] (ownHoldEnds o s) :=
  ((((queueRelease_frame _ _ s).andThen (ownIdle_frame _)).andThen (lampOff_frame _ _)).andThen
    (ownFloorLeaves_frame _ _)).within

theorem hearClaim_frame (sender : Station) (b : ClaimBody) (s : State) :
    s.keepsAllBut [.ylc, .fu, .za] (hearClaim sender b s) := by
  have answered (c : ClaimEntry) (t u : State) (h : t.keepsAllBut [.ylc, .fu, .za] u) :
      t.keepsAllBut [.ylc, .fu, .za]
        (match u.fu.own with
         | some o =>
           if u.running && o.phase.holdsFloor && classAtOrAbove o.cls c.cls then
             enqueue (.object sender b.number 1) u
           else u
         | none => u) := by
    split
    · split
      · exact (h.andThen (enqueue_frame _ _)).within
      · exact h
    · exact h
  unfold hearClaim
  refine answered _ s _ (State.keepsAllBut_trans ?_ (joinClaim_frame _ _).within)
  split
  · split
    · exact (floorLeavesView_frame s).within
    · exact s.keepsAllBut_refl _
  · exact s.keepsAllBut_refl _

theorem hearObject_frame (claimant : Station) (number : Byte) (s : State) :
    s.keepsAllBut [.ylc, .fu, .za, .dsq] (hearObject claimant number s) := by
  unfold hearObject
  split
  · exact (s.setClaims_frame _).within
  · split
    · split
      · exact ((((ownIdle_frame s).andThen (showRefusal_frame _ _)).andThen (ownFloorLeaves_frame _ _)).andThen
          (queueRelease_frame _ _ _)).within
      · exact s.keepsAllBut_refl _
    · exact s.keepsAllBut_refl _

theorem hearRelease_frame (sender : Station) (number : Byte) (s : State) :
    s.keepsAllBut [.fu, .za] (hearRelease sender number s) :=
  ((s.setClaims_frame _).andThen (floorLeaves_frame _ _ _)).within

theorem hearReady_frame (sender holder : Station) (number : Byte) (mask : ZoneMask) (s : State) :
    s.keepsAllBut [.ylc, .fu, .za, .dsq] (hearReady sender holder number mask s) := by
  unfold hearReady
  split
  · split
    · dsimp only
      split
      · exact ((s.setOwn_frame _).andThen (closeGathering_frame _ _)).within
      · exact (s.setOwn_frame _).within
    · exact s.keepsAllBut_refl _
  · exact s.keepsAllBut_refl _

theorem claimLoses_frame (x : ClaimEntry) (s : State) : s.keepsAllBut [.fu] (claimLoses x s) := by
  unfold claimLoses
  split
  · exact claimLost_frame _ s
  · exact s.keepsAllBut_refl _

theorem displaceFloor_frame (x : ClaimEntry) (s : State) :
    s.keepsAllBut [.fu, .za, .dsq] (displaceFloor x s) := by
  unfold displaceFloor
  split
  · exact s.keepsAllBut_refl _
  · split
    · exact s.keepsAllBut_refl _
    · dsimp only
      split
      · exact ((floorLeavesView_frame s).andThen (ownDisplaced_frame _)).within
      · exact (floorLeavesView_frame s).within

theorem offerZone_frame (x : ClaimEntry) (z : ZoneId) (a : State × ZoneMask × ZoneMask) :
    a.1.keepsAllBut [.za, .bs] (offerZone x z a).1 := by
  have asked := pageRequest_frame x.claimant x.number x.cls z a.1
  unfold offerZone
  split <;> rename_i h <;> rwa [h] at asked

theorem offerZones_frame (x : ClaimEntry) (zones : List ZoneId) (s : State) :
    s.keepsAllBut [.za, .bs] (offerZones x zones s).1 := by
  have folded (a : State × ZoneMask × ZoneMask) :
      a.1.keepsAllBut [.za, .bs] (zones.foldl (fun a z => offerZone x z a) a).1 := by
    induction zones generalizing a with
    | nil => exact a.1.keepsAllBut_refl _
    | cons z rest ih => exact State.keepsAllBut_trans (offerZone_frame x z a) (ih _)
  exact folded (s, 0, 0)

theorem claimWon_frame (x : ClaimEntry) (s : State) :
    s.keepsAllBut [.ylc, .fu, .za, .dsq, .bs] (claimWon x s) := by
  have offered := ((displaceFloor_frame x s).andThen (State.setView_frame _ (some (x.view s.now)))).andThen
    (offerZones_frame x (zonesOf (zonesTargeted s.own x.targets)) _)
  unfold claimWon
  dsimp only
  split
  · exact ((offered.andThen (State.setView_frame _ _)).andThen (ownWin_frame _ _)).within
  · split
    · exact (offered.andThen (State.setView_frame _ _)).within
    · exact ((offered.andThen (State.setView_frame _ _)).andThen (enqueue_frame _ _)).within

theorem closeWindow_frame (x : ClaimEntry) (s : State) :
    s.keepsAllBut [.ylc, .fu, .za, .dsq, .bs] (closeWindow x s) := by
  have gone := claimLeaves_frame x.claimant s
  unfold closeWindow
  dsimp only
  split
  · exact (gone.andThen (claimLoses_frame _ _)).within
  · split
    · exact (gone.andThen (claimWon_frame _ _)).within
    · exact (gone.andThen ((displaceFloor_frame x _).andThen (State.setView_frame _ _))).within

theorem releaseOwnKey_frame (o : OwnClaim) (s : State) :
    s.keepsAllBut [.ylc, .fu, .za, .dsq] (releaseOwnKey o s) := by
  have ended (why : ReleaseReason) := ((queueRelease_frame o.number why s).andThen (ownIdle_frame _)).andThen
    (lampOff_frame o.key _)
  unfold releaseOwnKey
  split
  · exact ((ended _).andThen (ownClaimLeaves_frame _)).within
  all_goals exact ((ended _).andThen (ownFloorLeaves_frame _ _)).within

theorem hearFloorSummary_frame (sender : Station) (summary : Option FloorSummary) (delimiter : Nat) (s : State) :
    s.keepsAllBut [.fu, .za] (hearFloorSummary sender summary delimiter s) := by
  unfold hearFloorSummary
  split
  · split
    · exact floorLeavesView_frame s
    · exact s.keepsAllBut_refl _
  · split
    · exact s.keepsAllBut_refl _
    · split
      · exact s.keepsAllBut_refl _
      · exact (s.setView_frame _).within

theorem floorPeerLost_frame (n : Station) (s : State) : s.keepsAllBut [.fu, .za] (floorPeerLost n s) := by
  unfold floorPeerLost
  split
  · split
    · exact floorLeavesView_frame s
    · exact s.keepsAllBut_refl _
  · exact s.keepsAllBut_refl _

theorem floorYield_frame (s : State) : s.keepsAllBut [.ylc, .fu, .za, .dsq] (floorYield s) := by
  have given (o : OwnClaim) := ((queueRelease_frame o.number .yield s).andThen (ownIdle_frame _)).andThen
    (lampOff_frame o.key _)
  unfold floorYield
  refine State.keepsAllBut_trans ?_ (floorLeavesView_frame _).within
  split
  · dsimp only
    split
    · exact ((given _).andThen (ownClaimLeaves_frame _)).within
    · exact (given _).within
  · exact s.keepsAllBut_refl _

theorem floorHoldUp_frame (s : State) : s.keepsAllBut [.fu] (floorHoldUp s) := setFu_frame s _

/-! ## The Drill Unit -/

theorem releaseDrill_frame (r : DrillRecord) (s : State) : s.keepsAllBut [.za] (releaseDrill r s) :=
  releaseEverywhere_frame _ s

theorem phaseEffects_frame (old : DrillPhase) (r : DrillRecord) (s : State) :
    s.keepsAllBut [.za, .dsq] (phaseEffects old r s) := by
  unfold phaseEffects
  split
  · exact (releaseDrill_frame r s).within
  · split
    · exact soundOff_frame _ _ s
    · exact s.keepsAllBut_refl _

theorem changeRecord_frame (old new : DrillRecord) (s : State) :
    s.keepsAllBut [.za, .dsq, .dru] (changeRecord old new s) :=
  ((s.setRecord_frame _).andThen (phaseEffects_frame _ _ _)).within

theorem checkPhase_frame (s : State) : s.keepsAllBut [.za, .dsq, .dru] (checkPhase s) := by
  unfold checkPhase
  split
  · exact s.keepsAllBut_refl _
  · exact changeRecord_frame _ _ s

theorem askZones_frame (r : DrillRecord) (s : State) : s.keepsAllBut [.za, .bs] (askZones r s) :=
  forEach_keepsAllBut (drillRequest_frame r.initiator r.number) allZones s

theorem joinDrill_frame (o : DrillOffer) (s : State) : s.keepsAllBut [.za, .bs, .dru] (joinDrill o s) := by
  unfold joinDrill
  dsimp only
  split
  · exact ((s.setRecord_frame _).andThen (askZones_frame _ _)).within
  · exact (s.setRecord_frame _).within

theorem competeDrill_frame (o : DrillOffer) (r : DrillRecord) (s : State) :
    s.keepsAllBut [.za, .bs, .dru] (competeDrill o r s) := by
  unfold competeDrill
  split
  · exact (((s.setRecord_frame none).andThen (releaseDrill_frame r _)).andThen (joinDrill_frame o _)).within
  · exact s.keepsAllBut_refl _

theorem takeOffer_frame (o : DrillOffer) (s : State) : s.keepsAllBut [.za, .bs, .dru, .dsq] (takeOffer o s) := by
  unfold takeOffer
  split
  · exact s.keepsAllBut_refl _
  · split
    · split
      · split
        · exact (changeRecord_frame _ _ s).within
        · exact s.keepsAllBut_refl _
      · split
        · exact s.keepsAllBut_refl _
        · split
          · exact (competeDrill_frame _ _ s).within
          · exact (joinDrill_frame _ s).within
    · split
      · exact s.keepsAllBut_refl _
      · exact (joinDrill_frame _ s).within

theorem hearSilence_frame (initiator : Station) (number : Byte) (s : State) :
    s.keepsAllBut [.za, .dsq, .dru] (hearSilence initiator number s) := by
  unfold hearSilence
  split
  · split
    · exact changeRecord_frame _ _ s
    · exact s.keepsAllBut_refl _
  · exact s.keepsAllBut_refl _

theorem hearMuster_frame (sender initiator : Station) (number : Byte) (elapsed : Half) (s : State) :
    s.keepsAllBut [.za, .dsq, .dru] (hearMuster sender initiator number elapsed s) := by
  unfold hearMuster
  split
  · split
    · exact changeRecord_frame _ _ s
    · exact s.keepsAllBut_refl _
  · exact s.keepsAllBut_refl _

theorem hearDrillEnd_frame (initiator : Station) (number : Byte) (why : EndReason) (s : State) :
    s.keepsAllBut [.za, .dsq, .dru] (hearDrillEnd initiator number why s) := by
  unfold hearDrillEnd
  split
  · split
    · exact changeRecord_frame _ _ s
    · exact s.keepsAllBut_refl _
  · exact s.keepsAllBut_refl _

theorem startDrill_frame (own : Station) (t : Nat) (s : State) :
    s.keepsAllBut [.ylc, .fu, .za, .bs, .dsq, .dru] (startDrill own t s) :=
  ((((setDru_frame s _).andThen (checkPhase_frame _)).andThen (askZones_frame _ _)).andThen
    (enqueue_frame _ _)).within

theorem pressOnDrill_frame (r : DrillRecord) (s : State) :
    s.keepsAllBut [.ylc, .fu, .za, .dsq, .dru] (pressOnDrill r s) := by
  unfold pressOnDrill
  split <;> exact ((changeRecord_frame _ _ s).andThen (enqueue_frame _ _)).within

theorem pressDrillKey_frame (s : State) : s.keepsAllBut [.ylc, .fu, .za, .bs, .dsq, .dru] (pressDrillKey s) := by
  unfold pressDrillKey
  split
  · split
    · exact s.keepsAllBut_refl _
    · split
      · split
        · exact (pressOnDrill_frame _ s).within
        · exact startDrill_frame _ _ s
      · exact startDrill_frame _ _ s
  · exact s.keepsAllBut_refl _

theorem pressMusterKey_frame (s : State) : s.keepsAllBut [.ylc, .fu, .za, .dsq, .dru] (pressMusterKey s) := by
  unfold pressMusterKey
  split
  · split
    · exact ((enqueue_frame _ s).andThen (changeRecord_frame _ _ _)).within
    · exact s.keepsAllBut_refl _
  · exact s.keepsAllBut_refl _

theorem yieldEndsDrill_frame (s : State) : s.keepsAllBut [.ylc, .fu, .za, .dsq, .dru] (yieldEndsDrill s) := by
  unfold yieldEndsDrill
  split
  · split
    · dsimp only
      split
      · exact ((changeRecord_frame _ _ s).andThen (enqueue_frame _ _)).within
      · exact (changeRecord_frame _ _ s).within
    · exact s.keepsAllBut_refl _
  · exact s.keepsAllBut_refl _

theorem yieldStart_frame (s : State) : s.keepsAllBut [.ylc, .fu, .za, .bs, .dsq, .dru] (yieldStart s) :=
  ((((s.setYielding_frame true).andThen (yieldEndsDrill_frame _)).andThen (floorYield_frame _)).andThen
    (forEach_keepsAllBut yieldRequest_frame allZones _)).within

theorem yieldEnd_frame (s : State) : s.keepsAllBut [.za, .dru] (yieldEnd s) :=
  ((s.setYielding_frame false).andThen (releaseEverywhere_frame _ _)).within

/-- R181 to R183: the inputs to yield reach the yielding state, the floor, the drill, the zones and their lines. -/
theorem updateYield_frame (s : State) : s.keepsAllBut [.ylc, .fu, .za, .bs, .dsq, .dru] (updateYield s) := by
  unfold updateYield
  split
  · exact s.keepsAllBut_refl _
  · dsimp only
    split
    · exact (s.withPeerCause_frame.andThen (yieldStart_frame _)).within
    · split
      · exact (s.withPeerCause_frame.andThen (yieldEnd_frame _)).within
      · exact s.withPeerCause_frame.within

theorem yieldAtListening_frame (s : State) :
    s.keepsAllBut [.ylc, .fu, .za, .bs, .dsq, .dru] (yieldAtListening s) :=
  ((s.setYielding_frame false).andThen (updateYield_frame _)).within

theorem contactToYield_frame (s : State) :
    s.keepsAllBut [.ylc, .fu, .za, .bs, .dsq, .dru] (contactToYield s) := by
  unfold contactToYield
  split
  · exact (s.setYielding_frame _).within
  · exact updateYield_frame s

theorem contactChanges_frame (on : Bool) (s : State) :
    s.keepsAllBut [.ylc, .fu, .za, .bs, .dsq, .dru] (contactChanges on s) := by
  unfold contactChanges
  dsimp only
  refine State.keepsAllBut_trans ?_ (contactToYield_frame _)
  split
  · exact ((setDru_frame s _).andThen (enqueue_frame _ _)).within
  · exact (setDru_frame s _).within

/-! ## The Time Base and the Peer Table -/

theorem notifyMovement_frame (m : Movement) (s : State) :
    s.keepsAllBut [.za, .bs, .dsq, .du, .dru, .ds] (notifyMovement m s) := by
  have moved := (bellsMovement_frame m s).andThen (recomputeAll_frame _)
  have checked : s.keepsAllBut [.za, .bs, .dsq, .du, .dru]
      (if (recomputeAll (bellsMovement m s)).taking then checkPhase (recomputeAll (bellsMovement m s))
       else recomputeAll (bellsMovement m s)) := by
    split
    · exact (moved.andThen (checkPhase_frame _)).within
    · exact moved.within
  unfold notifyMovement
  dsimp only
  split
  · exact (checked.andThen (hourByMovement_frame _)).within
  · exact checked.within

theorem adjustSamples_frame (amount : Int) (s : State) : s.keepsAllBut [.pt] (adjustSamples amount s) :=
  setPt_frame s _

theorem adopt_frame (peerFull elapsed : Nat) (s : State) :
    s.keepsAllBut [.tb, .za, .bs, .dsq, .du, .dru, .ds] (adopt peerFull elapsed s) := by
  unfold adopt
  exact ((s.setSchool_frame _ _).andThen (notifyMovement_frame _ _)).within

theorem timeFromBeacon_frame (b : BeaconBody) (r : ReceiveStamp) (s : State) :
    s.keepsAllBut [.tb, .za, .bs, .dsq, .du, .dru, .ds] (timeFromBeacon b r s) := by
  unfold timeFromBeacon
  split
  · exact adopt_frame (stampOf b) (s.now - r.timer) s
  · exact s.keepsAllBut_refl _

theorem startBeaconTimer_frame (s : State) : s.keepsAllBut [.tb] (startBeaconTimer s) := by
  unfold startBeaconTimer
  split
  · exact s.keepsAllBut_refl _
  · exact setTb_frame s _

theorem peerHeard_frame (n : Station) (s : State) : s.keepsAllBut [.pt] (peerHeard n s) := s.setPeer_frame _ _

theorem peerYields_frame (n : Station) (state : Byte) (s : State) : s.keepsAllBut [.pt] (peerYields n state s) :=
  s.setPeer_frame _ _

theorem drillFromBeacon_frame (n : Station) (b : BeaconBody) (s : State) :
    s.keepsAllBut [.za, .bs, .dru, .dsq] (drillFromBeacon n b s) := by
  unfold drillFromBeacon
  split
  · exact takeOffer_frame _ s
  · exact s.keepsAllBut_refl _

/-- What a BEACON brings to the FU, the DRU and the peer yield set. -/
theorem beaconToBlocks_frame (n : Station) (b : BeaconBody) (r : ReceiveStamp) (s : State) :
    s.keepsAllBut [.fu, .za, .bs, .dru, .dsq, .ylc]
      (updateYield (drillFromBeacon n b (hearFloorSummary n (floorSummaryOf b) r.timer s))) :=
  (((hearFloorSummary_frame _ _ _ s).andThen (drillFromBeacon_frame _ _ _)).andThen (updateYield_frame _)).within

theorem beaconFrom_frame (n : Station) (b : BeaconBody) (r : ReceiveStamp) (s : State) :
    s.keepsAllBut [.pt, .tb, .za, .bs, .dsq, .du, .dru, .ds, .fu, .ylc] (beaconFrom n b r s) := by
  have timed := (s.setPeer_frame n ((s.peer n).afterBeacon b (s.stampTaken r) s.now)).andThen
    (timeFromBeacon_frame b r _)
  unfold beaconFrom
  dsimp only
  split
  · exact (timed.andThen (beaconToBlocks_frame _ _ _ _)).within
  · exact timed.within

theorem peerLost_frame (n : Station) (s : State) :
    s.keepsAllBut [.pt, .ylc, .fu, .za, .bs, .dsq, .dru] (peerLost n s) := by
  unfold peerLost
  dsimp only
  split
  · exact (((s.setPeer_frame _ _).andThen (floorPeerLost_frame _ _)).andThen (updateYield_frame _)).within
  · exact (s.setPeer_frame _ _).within

/-! ## Drive lines -/

theorem playerPhaseEnds_frame (l : LineId) (s : State) : s.keepsAllBut [.za, .dsq] (playerPhaseEnds l s) := by
  unfold playerPhaseEnds
  dsimp only
  split
  · exact ((s.setLine_frame _ _).andThen (bellFinished_frame _ _)).within
  · exact (s.setLine_frame _ _).within

theorem widthExpires_frame (l : LineId) (s : State) :
    s.keepsAllBut [.za, .dsq, .du, .ds] (widthExpires l s) := by
  unfold widthExpires periodEnds
  split
  · split
    · dsimp only
      split
      · exact ((s.setLine_frame _ _).andThen (deliverImpulse_frame _ _ _)).within
      · exact ((s.setLine_frame _ _).andThen (playerPhaseEnds_frame _ _)).within
    · exact s.keepsAllBut_refl _
  · exact s.keepsAllBut_refl _

theorem gapEnds_frame (l : LineId) (s : State) : s.keepsAllBut [.za, .bs, .dsq] (gapEnds l s) := by
  unfold gapEnds
  dsimp only
  split
  · rename_i ends _
    have asked := (s.setLine_frame l
      { s.line l with player := { (s.line l).player with phase := (s.line l).player.phase + 1 } }).andThen
      (requestPhase_frame l ends _)
    split
    · split <;> rename_i h <;> rw [h] at asked
      · exact asked.within
      · exact (asked.andThen (playerAborted_frame _ _ _)).within
    · exact s.keepsAllBut_refl _
  all_goals exact s.keepsAllBut_refl _

theorem chimePhaseEnd_frame (phase : Nat) (mask : LineMask) (s : State) :
    s.keepsAllBut [.dsq] (chimePhaseEnd phase mask s).1 := by
  unfold chimePhaseEnd
  dsimp only
  split <;> exact ((chimeOff_frame _ s).andThen (State.setChime_frame _ _)).within

theorem chimeWidthEnds_frame (s : State) : s.keepsAllBut [.dsq, .fu] (chimeWidthEnds s) := by
  unfold chimeWidthEnds
  split
  · rename_i phase mask _ _
    have ended := chimePhaseEnd_frame phase mask s
    split
    · split <;> rename_i h <;> rw [h] at ended
      · exact (ended.andThen (enterLive_frame _)).within
      · exact ended.within
    · exact s.keepsAllBut_refl _
  all_goals exact s.keepsAllBut_refl _

theorem chimeGapEnds_frame (s : State) : s.keepsAllBut [.dsq] (chimeGapEnds s) := by
  unfold chimeGapEnds chimePhaseStart
  split
  · split
    · exact ((chimeOn_frame _ s).andThen (State.setChime_frame _ _)).within
    · exact s.keepsAllBut_refl _
  all_goals exact s.keepsAllBut_refl _

theorem overcurrentReports_frame (l : LineId) (old : LineRecord) (s : State) :
    s.keepsAllBut [.za, .bs, .dsq, .du, .ds] (overcurrentReports l old s) := by
  unfold overcurrentReports
  split
  · split
    · exact ((abortImpulse_frame _ s).andThen (classToDial_frame _ _)).within
    · exact (classToDial_frame _ s).within
  · exact (playerAborted_frame _ _ s).within
  · exact (playerAborted_frame _ _ s).within
  · exact (pageCut_frame _ s).within
  · exact (s.setChime_frame _).within
  · exact s.keepsAllBut_refl _

theorem overcurrentAt_frame (l : LineId) (s : State) :
    s.keepsAllBut [.za, .bs, .dsq, .du, .ds] (overcurrentAt l s) := by
  unfold overcurrentAt
  dsimp only
  split
  · exact ((s.setLine_frame _ _).andThen (overcurrentReports_frame _ _ _)).within
  · exact s.keepsAllBut_refl _

theorem faultDrops_frame (l : LineId) (old : LineRecord) (s : State) :
    s.keepsAllBut [.za, .bs, .dsq, .du] (faultDrops l old s) := by
  unfold faultDrops
  split
  · exact (dropImpulse_frame _ s).within
  · exact (playerAborted_frame _ _ s).within
  · exact (playerAborted_frame _ _ s).within
  · exact s.keepsAllBut_refl _

theorem classChanges_frame (l : LineId) (c : LineClass) (s : State) :
    s.keepsAllBut [.za, .bs, .dsq, .du] (classChanges l c s) := by
  unfold classChanges
  dsimp only
  split
  · exact (((s.setLine_frame _ _).andThen (faultDrops_frame _ _ _)).andThen (classToDial_frame _ _)).within
  · exact (((s.setLine_frame _ _).andThen (classToDial_frame _ _)).andThen (normalToZone_frame _ _)).within

theorem sampleLine_frame (l : LineId) (x : SenseResult) (s : State) :
    s.keepsAllBut [.za, .bs, .dsq, .du] (sampleLine l x s) := by
  unfold sampleLine
  dsimp only
  split
  · exact ((s.setLine_frame _ _).andThen (classChanges_frame _ _ _)).within
  · exact (s.setLine_frame _ _).within

theorem supervise_frame (reading : SenseResult) (s : State) :
    s.keepsAllBut [.za, .bs, .dsq, .du] (supervise reading s) := by
  unfold supervise
  dsimp only
  split
  · exact ((setDsq_frame s _).andThen (sampleLine_frame _ _ _)).within
  · exact (setDsq_frame s _).within

/-! ## Keys, windows and holds -/

theorem keyHeld_frame (k : KeyId) (s : State) : s.keepsAllBut [.ylc, .fu] (keyHeld k s) := by
  unfold keyHeld
  split
  · exact s.keepsAllBut_refl _
  · dsimp only
    split
    · exact ((s.setKey_frame _ _).andThen (pressKey_frame _ _)).within
    · exact (s.setKey_frame _ _).within

theorem keyReleased_frame (k : KeyId) (s : State) : s.keepsAllBut [.ylc, .fu, .za, .dsq] (keyReleased k s) := by
  unfold keyReleased
  dsimp only
  split
  · split
    · exact ((s.setKey_frame _ _).andThen (releaseOwnKey_frame _ _)).within
    · exact (s.setKey_frame _ _).within
  · exact (s.setKey_frame _ _).within

theorem windowCloses_frame (claimant : Station) (s : State) :
    s.keepsAllBut [.ylc, .fu, .za, .dsq, .bs] (windowCloses claimant s) := by
  unfold windowCloses
  split
  · split
    · exact closeWindow_frame _ s
    · exact s.keepsAllBut_refl _
  · exact s.keepsAllBut_refl _

theorem readyWaitEnds_frame (s : State) : s.keepsAllBut [.ylc, .fu, .za, .dsq] (readyWaitEnds s) := by
  unfold readyWaitEnds
  split
  · split
    · exact closeGathering_frame _ s
    · exact s.keepsAllBut_refl _
  · exact s.keepsAllBut_refl _

theorem holdEnds_frame (s : State) : s.keepsAllBut [.ylc, .fu, .za, .dsq] (holdEnds s) := by
  unfold holdEnds
  split
  · split
    · exact ownHoldEnds_frame _ s
    · exact s.keepsAllBut_refl _
  · exact s.keepsAllBut_refl _

theorem graceExpires_frame (s : State) : s.keepsAllBut [.fu, .za] (graceExpires s) := by
  unfold graceExpires
  split
  · split
    · exact floorLeavesView_frame s
    · exact s.keepsAllBut_refl _
  · exact s.keepsAllBut_refl _

theorem armKey_frame (key : DrillUnitKey) (s : State) : s.keepsAllBut [.dru] (armKey key s) := by
  unfold armKey
  split <;> exact setDru_frame s _

theorem lockLine_frame (l : LineId) (s : State) : s.keepsAllBut [.dsq] (lockLine l s) := setDsq_frame s _

theorem unlockLine_frame (s : State) : s.keepsAllBut [.dsq] (unlockLine s) := by
  unfold unlockLine
  split
  · exact setDsq_frame s _
  · exact s.keepsAllBut_refl _

/-! ## The end of an attempt, and the acceptance of a frame -/

theorem endSending_frame (s : State) : s.keepsAllBut [.ylc] (endSending s) := s.setYlc_frame _

/-! ## Conditions of delivery -/

theorem ite_frame {parts : List Part} {f : State → State} (c : State → Bool)
    (frame : ∀ t : State, t.keepsAllBut parts (f t)) (t : State) :
    t.keepsAllBut parts (if c t then f t else t) := by
  split
  · exact frame t
  · exact t.keepsAllBut_refl _

theorem ifTaking_frame {parts : List Part} {f : State → State} (frame : ∀ t : State, t.keepsAllBut parts (f t))
    (t : State) : t.keepsAllBut parts (ifTaking f t) :=
  ite_frame State.taking frame t

theorem ifLoaded_frame {parts : List Part} {f : State → State} (frame : ∀ t : State, t.keepsAllBut parts (f t))
    (t : State) : t.keepsAllBut parts (ifLoaded f t) :=
  ite_frame State.loaded frame t

theorem ifTargeted_frame {parts : List Part} {f : State → State} (target : Byte)
    (frame : ∀ t : State, t.keepsAllBut parts (f t)) (t : State) : t.keepsAllBut parts (ifTargeted target f t) :=
  ite_frame (fun u => targetsOwn u.own target) frame t

theorem forStation_frame {parts : List Part} {b : Byte} {f : Station → State → State}
    (frame : ∀ n (t : State), t.keepsAllBut parts (f n t)) (t : State) :
    t.keepsAllBut parts (forStation b f t) := by
  unfold forStation
  split
  · exact frame _ t
  · exact t.keepsAllBut_refl _

theorem whenUp_frame {parts : List Part} {f : State → State} (frame : ∀ t : State, t.keepsAllBut parts (f t))
    (t : State) : t.keepsAllBut parts (whenUp f t) :=
  ite_frame State.up frame t

/-! ## The dial store's timers -/

theorem writeEnds_frame (s : State) : s.keepsAllBut [.ds] (writeEnds s) := by
  unfold writeEnds completeWrite
  split
  · split
    · exact ((setDs_frame s _).andThen (storeIdle_frame _)).within
    · exact s.keepsAllBut_refl _
  all_goals exact s.keepsAllBut_refl _

theorem eraseEnds_frame (s : State) : s.keepsAllBut [.ds] (eraseEnds s) := by
  unfold eraseEnds completeErase
  split
  · split
    · exact ((setDs_frame s _).andThen (storeIdle_frame _)).within
    · exact s.keepsAllBut_refl _
  all_goals exact s.keepsAllBut_refl _

/-! ## HOLD-UP and start-up -/

theorem dialCut_frame (i : SlotId) (s : State) : s.keepsAllBut [.dsq, .du, .ds] (dialCut i s) := by
  unfold dialCut
  split
  · exact abortImpulse_frame i s
  · exact (dropImpulse_frame i s).within
  · exact s.keepsAllBut_refl _

theorem stopForHoldUp_frame (s : State) : s.keepsAllBut [.tb, .ylc, .sp] (stopForHoldUp s) := by
  intro p hp
  cases p <;> first | rfl | simp at hp

/-- R189, R193: HOLD-UP begins with the request for a snapshot. -/
def holdUpSnapshot (s : State) : State :=
  requestSnapshot { s with ds := { s.ds with supply := .holdUp, clearTimer := none } }

/-- R193: the entry to HOLD-UP before the Dial Unit and the scheduler take the cut. -/
def holdUpCut (s : State) : State :=
  floorHoldUp (stopForHoldUp (emptyZones { holdUpSnapshot s with dsq := (holdUpSnapshot s).dsq.cut }))

theorem enterHoldUp_eq (s : State) :
    enterHoldUp s = examineDue (forEach allSlots dialCut (holdUpCut s)) := rfl

theorem holdUpSnapshot_frame (s : State) : s.keepsAllBut [.ds] (holdUpSnapshot s) :=
  ((setDs_frame s _).andThen (requestSnapshot_frame _)).within

theorem holdUpCut_frame (s : State) :
    s.keepsAllBut [.ds, .dsq, .za, .bs, .tb, .ylc, .sp, .fu] (holdUpCut s) :=
  (((((holdUpSnapshot_frame s).andThen (setDsq_frame _ _)).andThen (emptyZones_frame _)).andThen
    (stopForHoldUp_frame _)).andThen (floorHoldUp_frame _)).within

/-- R193: the entry to HOLD-UP leaves the Peer Table, the drills and the inputs of the part. -/
theorem enterHoldUp_frame (s : State) :
    s.keepsAllBut [.ds, .dsq, .za, .bs, .tb, .ylc, .sp, .fu, .du] (enterHoldUp s) :=
  (((holdUpCut_frame s).andThen (forEach_keepsAllBut dialCut_frame allSlots _)).andThen
    (examineDue_frame _)).within

theorem applySettings_frame (i : CheckedImage) (x : Settings) (all : List Warning) (s : State) :
    s.keepsAllBut [.tb, .du, .dsq, .za, .bs, .fu, .dru, .sp] (applySettings i x all s) := by
  intro p hp
  cases p <;> first | rfl | simp at hp

theorem enterRunning_frame (s : State) :
    s.keepsAllBut [.sp, .tb, .dsq, .du, .za, .bs, .ylc, .fu] (enterRunning s) := by
  have examined := ((((setSp_frame s { s.sp with config := .running, listeningEnd := none }).andThen
    (startBeaconTimer_frame _)).andThen (forEach_keepsAllBut tryImpulse_frame allSlots _)).andThen
    (forEach_keepsAllBut startEffects_frame allZones _)).andThen (examineDue_frame _)
  unfold enterRunning
  dsimp only
  split
  · exact (examined.andThen (enqueue_frame _ _)).within
  · exact examined.within

/-! ## The end of a step -/

/-- What every step that is one change ends with writes the zones, the lines, the slots, the count of bells missed and
the YLC. -/
theorem asOneChange_frame (f : State → State) (s : State) :
    (f s).keepsAllBut [.za, .dsq, .bs, .du, .ylc] (asOneChange f s) :=
  (((settleZones_frame _ (f s)).andThen (arbitrate_frame _)).andThen (selectNext_frame _)).within

theorem asOneChange_within {f : State → State} {s : State} {parts : List Part} (h : s.keepsAllBut parts (f s)) :
    s.keepsAllBut (parts ++ [.za, .dsq, .bs, .du, .ylc]) (asOneChange f s) :=
  h.andThen (asOneChange_frame f s)

end Sys2Proof.Machine
end

section
/-! PROOF. R1, R3: every step keeps school time in its range, standing UNSET exactly with it, and never REFERENCE. -/

namespace Sys2Proof.Machine

-- one declaration at a time, as in the tests: the threads of a whole text's proofs do not fit the memory limit
set_option Elab.async false

/-! ## The law of the clock -/

theorem TimeBase.lawful_iff (b : TimeBase) :
    b.lawful = true ↔
      (∀ x, b.fullTime = some x → x ≤ Config.maxFullTime) ∧ (b.standing = .unset ↔ b.fullTime = none) ∧
        b.standing ≠ .reference := by
  cases h : b.fullTime <;> cases g : b.standing <;> simp [TimeBase.lawful, h, g]

/-- The law speaks of school time and its standing alone. -/
theorem TimeBase.lawful_of_same {a b : TimeBase} (h : a.lawful = true) (time : b.fullTime = a.fullTime)
    (standing : b.standing = a.standing) : b.lawful = true := by
  rw [TimeBase.lawful_iff] at *
  rwa [time, standing]

theorem lawful_of_frame {s t : State} {parts : List Part} (h : s.keepsAllBut parts t) (hs : s.tb.lawful = true)
    (out : Part.tb ∉ parts := by decide) : t.tb.lawful = true := by
  have same : t.tb = s.tb := h .tb out
  rwa [same]

theorem limitFullTime_le (x : Int) : limitFullTime x ≤ Config.maxFullTime := by
  simp only [limitFullTime, clampInt, Config.maxFullTime]
  omega

/-- R1, R3: a school time within its range stands FREE or AGREED. -/
theorem setSchool_lawful (s : State) {x : Nat} {g : Standing} (range : x ≤ Config.maxFullTime)
    (standing : g = .free ∨ g = .agreed) : (s.setSchool (some x) g).tb.lawful = true := by
  rw [TimeBase.lawful_iff]
  rcases standing with rfl | rfl <;> simp [State.setSchool, range]

theorem TimeBase.powerOn_lawful : TimeBase.powerOn.lawful = true := rfl

/-! ## What writes the Time Base -/

theorem moveSchool_lawful (kind : MovementKind) (amount : Int) (x : Nat) {s : State} (hs : s.tb.lawful = true)
    (known : s.tb.standing = .agreed) : (moveSchool kind amount x s).tb.lawful = true := by
  unfold moveSchool
  dsimp only
  split
  · exact hs
  · exact lawful_of_frame (((adjustSamples_frame _ _).andThen (State.setYlc_frame _ _)).andThen
      (notifyMovement_frame _ _)) (setSchool_lawful s (limitFullTime_le _) (.inr known))

/-- R14 to R16: the agreement round leaves school time in its range, FREE or AGREED. -/
theorem agreementRound_lawful {s : State} (hs : s.tb.lawful = true) : (agreementRound s).tb.lawful = true := by
  unfold agreementRound
  split
  · exact hs
  · rename_i x known
    have range : x ≤ Config.maxFullTime := (s.tb.lawful_iff.mp hs).1 x known
    have agreed := setSchool_lawful s range (.inr rfl)
    dsimp only
    split
    · exact setSchool_lawful s range (.inl rfl)
    · split
      · exact agreed
      · exact moveSchool_lawful _ _ _ agreed rfl

theorem adopt_lawful (peerFull elapsed : Nat) (s : State) : (adopt peerFull elapsed s).tb.lawful = true := by
  unfold adopt
  exact lawful_of_frame (notifyMovement_frame _ _) (setSchool_lawful s (limitFullTime_le _) (.inl rfl))

theorem startBeaconTimer_lawful {s : State} (hs : s.tb.lawful = true) :
    (startBeaconTimer s).tb.lawful = true := by
  unfold startBeaconTimer
  split
  · exact hs
  · exact TimeBase.lawful_of_same hs rfl rfl

theorem requestBeacon_lawful {s : State} (hs : s.tb.lawful = true) : (requestBeacon s).tb.lawful = true := by
  unfold requestBeacon
  split
  · exact lawful_of_frame (enqueue_frame _ s) hs
  · split
    · exact TimeBase.lawful_of_same hs rfl rfl
    · exact hs

theorem releaseHeld_lawful (f : OutFrame) {s : State} (hs : s.tb.lawful = true) :
    (releaseHeld f s).tb.lawful = true := by
  unfold releaseHeld releaseHeldBeacon
  split
  · split
    · exact requestBeacon_lawful (TimeBase.lawful_of_same hs rfl rfl)
    · exact hs
  · exact lawful_of_frame (releaseHeldAsk_frame _ _ s) hs
  · exact hs

theorem reportSent_lawful (f : OutFrame) {s : State} (hs : s.tb.lawful = true) :
    (reportSent f s).tb.lawful = true := by
  unfold reportSent
  split
  · exact agreementRound_lawful hs
  · exact lawful_of_frame (claimSent_frame _ s) hs
  · exact hs

theorem frameSent_lawful (i : Nat) (q : QueuedFrame) {s : State} (hs : s.tb.lawful = true) :
    (frameSent i q s).tb.lawful = true :=
  releaseHeld_lawful _ (reportSent_lawful _
    (lawful_of_frame ((endSending_frame s).andThen (State.setYlc_frame _ _)) hs))

theorem frameCollided_lawful (i : Nat) (q : QueuedFrame) {s : State} (hs : s.tb.lawful = true) :
    (frameCollided i q s).tb.lawful = true := by
  unfold frameCollided
  dsimp only
  split
  · exact releaseHeld_lawful _ (lawful_of_frame ((endSending_frame s).andThen (State.setYlc_frame _ _)) hs)
  · exact releaseHeld_lawful _ (lawful_of_frame (((endSending_frame s).andThen (State.setYlc_frame _ _)).andThen
      (reportLost_frame _ _)) hs)

theorem whileSending_lawful {f : Nat → QueuedFrame → State → State}
    (keeps : ∀ i q {s : State}, s.tb.lawful = true → (f i q s).tb.lawful = true) {s : State}
    (hs : s.tb.lawful = true) : (whileSending f s).tb.lawful = true := by
  unfold whileSending
  split
  · split
    · exact hs
    · split
      · exact hs
      · exact keeps _ _ hs
  · exact hs

theorem beaconFrom_lawful (n : Station) (b : BeaconBody) (r : ReceiveStamp) {s : State}
    (hs : s.tb.lawful = true) : (beaconFrom n b r s).tb.lawful = true := by
  have timed (t : State) (ht : t.tb.lawful = true) : (timeFromBeacon b r t).tb.lawful = true := by
    unfold timeFromBeacon
    split
    · exact adopt_lawful (stampOf b) (t.now - r.timer) t
    · exact ht
  have heard := timed _ (lawful_of_frame (s.setPeer_frame n ((s.peer n).afterBeacon b (s.stampTaken r) s.now)) hs)
  unfold beaconFrom
  dsimp only
  split
  · exact lawful_of_frame (beaconToBlocks_frame n b r _) heard
  · exact heard

theorem beaconExpires_lawful {s : State} (hs : s.tb.lawful = true) : (beaconExpires s).tb.lawful = true :=
  requestBeacon_lawful (TimeBase.lawful_of_same hs rfl rfl)

theorem boundaryReached_frame (x : Nat) (s : State) :
    s.keepsAllBut [.dsq, .du, .za, .bs, .ds] (boundaryReached x s) := by
  have changed : s.keepsAllBut [.dsq, .du, .za, .bs]
      (if x % Config.dayMs = 0 && (recomputeAll s).loaded then bellsDayChange x (recomputeAll s)
       else recomputeAll s) := by
    split
    · exact ((recomputeAll_frame s).andThen (bellsDayChange_frame _ _)).within
    · exact (recomputeAll_frame s).within
  unfold boundaryReached
  dsimp only
  split
  · exact (changed.andThen (hourByRunning_frame _ _)).within
  · exact changed.within

/-! ## Start-up and supply -/

/-- R21, R203: in CONFIG-FAULT school time is UNSET. -/
theorem enterConfigFault_lawful (code : FaultCode) (s : State) :
    (enterConfigFault code s).tb.lawful = true :=
  startBeaconTimer_lawful (TimeBase.lawful_of_same TimeBase.powerOn_lawful rfl rfl)

theorem stopForHoldUp_tb (s : State) :
    (floorHoldUp (stopForHoldUp s)).tb = { s.tb with beaconDue := none, heldBeacon := false } := rfl

theorem holdUpCut_tb (s : State) :
    (holdUpCut s).tb = { s.tb with beaconDue := none, heldBeacon := false } := by
  have before : (emptyZones { holdUpSnapshot s with dsq := (holdUpSnapshot s).dsq.cut }).tb = s.tb :=
    (((holdUpSnapshot_frame s).andThen (setDsq_frame _ _)).andThen (emptyZones_frame _)).part .tb
  rw [holdUpCut, stopForHoldUp_tb, before]

theorem enterHoldUp_tb (s : State) :
    (enterHoldUp s).tb = { s.tb with beaconDue := none, heldBeacon := false } := by
  rw [enterHoldUp_eq, ← holdUpCut_tb s]
  exact ((forEach_keepsAllBut dialCut_frame allSlots _).andThen (examineDue_frame _)).part .tb

theorem warningAsserts_lawful {s : State} (hs : s.tb.lawful = true) : (warningAsserts s).tb.lawful = true := by
  unfold warningAsserts
  dsimp only
  split
  · exact hs
  · split
    · rw [enterHoldUp_tb]
      exact TimeBase.lawful_of_same hs rfl rfl
    · exact hs

theorem endOfReset_lawful (straps : BitVec 5) {s : State} (hs : s.tb.lawful = true) :
    (endOfReset straps s).tb.lawful = true := by
  have loaded (t : State) (ht : t.tb.lawful = true) : (startLoading straps t).tb.lawful = true := by
    unfold startLoading
    split
    · exact ht
    · exact enterConfigFault_lawful _ t
  have started := loaded _ (lawful_of_frame (eraseIfFull_frame s) hs)
  unfold endOfReset
  dsimp only
  split
  · exact warningAsserts_lawful started
  · exact started

/-- R3, R22: after a warm reset a school time that stands is FREE. -/
theorem warmReset_lawful (cause : ResetCause) {s : State} (hs : s.tb.lawful = true) :
    (warmReset cause s).tb.lawful = true := by
  rw [TimeBase.lawful_iff] at *
  obtain ⟨range, -, -⟩ := hs
  refine ⟨range, ?_, ?_⟩ <;> cases h : s.tb.fullTime <;> simp [warmReset, TimeBase.warmReset, h]

theorem recoveryScan_frame (s : State) : s.keepsAllBut [.ds, .du] (recoveryScan s) := by
  unfold recoveryScan
  intro p hp
  split <;> cases p <;> first | rfl | simp at hp

theorem powerOnReset_lawful (straps : BitVec 5) (warning : Bool) (s : State) :
    (powerOnReset straps warning s).tb.lawful = true := by
  have scanned := lawful_of_frame (((recoveryScan_frame { collapse s with powered := true }).andThen
    (eraseIfFull_frame _)).andThen (setDs_frame _ { (eraseIfFull (recoveryScan { collapse s with
      powered := true })).ds with warning })) TimeBase.powerOn_lawful
  unfold powerOnReset
  dsimp only
  split
  · exact scanned
  · exact endOfReset_lawful straps scanned

theorem imageRead_lawful (memory : List Byte) {s : State} (hs : s.tb.lawful = true) :
    (imageRead memory s).tb.lawful = true := by
  unfold imageRead
  split
  · exact lawful_of_frame (((bindSlots_frame _ _).andThen (bellsTakeUp_frame _)).andThen
      (yieldAtListening_frame _)) (TimeBase.lawful_of_same hs rfl rfl)
  · exact enterConfigFault_lawful _ s

theorem enterRunning_lawful {s : State} (hs : s.tb.lawful = true) : (enterRunning s).tb.lawful = true := by
  have timed := startBeaconTimer_lawful
    (s := { s with sp := { s.sp with config := .running, listeningEnd := none } }) hs
  have examined := lawful_of_frame (((forEach_keepsAllBut tryImpulse_frame allSlots _).andThen
    (forEach_keepsAllBut startEffects_frame allZones _)).andThen (examineDue_frame _)) timed
  unfold enterRunning
  dsimp only
  split
  · exact lawful_of_frame (enqueue_frame _ _) examined
  · exact examined

/-- R1, R2: the top of the range holds school time. -/
theorem afterMs_lawful (held : Bool) {b : TimeBase} (hb : b.lawful = true) : (b.afterMs held).lawful = true := by
  rw [TimeBase.lawful_iff] at *
  obtain ⟨-, standing, reference⟩ := hb
  refine ⟨?_, by simp [TimeBase.afterMs, standing], reference⟩
  intro x h
  simp only [TimeBase.afterMs, Option.map_eq_some_iff] at h
  obtain ⟨y, -, rfl⟩ := h
  exact Nat.min_le_right _ _

theorem tick_lawful {s : State} (hs : s.tb.lawful = true) : (tick s).tb.lawful = true := by
  unfold tick passMs
  dsimp only
  split
  · exact afterMs_lawful _ hs
  · exact hs

/-! ## Every command -/

theorem change_lawful {f : State → State} {s : State} (hs : s.tb.lawful = true)
    (keeps : ∀ {t : State}, t.tb.lawful = true → (f t).tb.lawful = true) : (change f s).tb.lawful = true := by
  unfold change whenUp
  split
  · exact lawful_of_frame (asOneChange_frame f s) (keeps hs)
  · exact hs

theorem change_lawful_of_frame {f : State → State} {s : State} (parts : List Part) (hs : s.tb.lawful = true)
    (frame : ∀ t : State, t.keepsAllBut parts (f t)) (out : Part.tb ∉ parts := by decide) :
    (change f s).tb.lawful = true :=
  change_lawful hs fun ht => lawful_of_frame (frame _) ht out

theorem heard_lawful {sender : Byte} {deliver : Station → ReceiveStamp → State → State} {s : State}
    (hs : s.tb.lawful = true)
    (keeps : ∀ n r {t : State}, t.tb.lawful = true → (deliver n r t).tb.lawful = true) :
    (change (accept sender deliver) s).tb.lawful = true := by
  refine change_lawful hs fun {t} ht => ?_
  unfold accept
  dsimp only
  split
  · exact ht
  · split
    · exact ht
    · split
      · exact ht
      · split
        · exact keeps _ _ (lawful_of_frame (peerHeard_frame _ _) ht)
        · exact ht

theorem heard_lawful_of_frame {sender : Byte} {deliver : Station → ReceiveStamp → State → State} {s : State}
    (parts : List Part) (hs : s.tb.lawful = true) (frame : ∀ n r (t : State), t.keepsAllBut parts (deliver n r t))
    (out : Part.tb ∉ parts := by decide) : (change (accept sender deliver) s).tb.lawful = true :=
  heard_lawful hs fun n r _ ht => lawful_of_frame (frame n r _) ht out

end Sys2Proof.Machine
end

section
namespace Sys2Proof.Machine

-- one declaration at a time, as in the tests: the threads of a whole text's proofs do not fit the memory limit
set_option Elab.async false

/-- R1, R3: no command takes school time out of its law. -/
theorem exec_keeps_clock_law (c : Instr) {s : State} (hs : s.tb.lawful = true) :
    ∃ t, exec c s = .next t ∧ t.tb.lawful = true := by
  cases c with
  | powerOn straps warning =>
    refine ⟨_, rfl, ?_⟩
    split
    · exact hs
    · exact powerOnReset_lawful _ _ _
  | rstAssert =>
    refine ⟨_, rfl, ?_⟩
    split
    · exact warmReset_lawful _ hs
    · exact hs
  | rstRelease straps =>
    refine ⟨_, rfl, ?_⟩
    split
    · exact endOfReset_lawful _ hs
    · exact hs
  | configImageRead memory =>
    refine ⟨_, rfl, change_lawful hs fun ht => ?_⟩
    split
    · exact imageRead_lawful _ ht
    · exact ht
  | listeningEnd =>
    refine ⟨_, rfl, change_lawful hs fun ht => ?_⟩
    split
    · exact enterRunning_lawful ht
    · exact ht
  | supplyWarning =>
    refine ⟨_, rfl, ?_⟩
    split
    · exact warningAsserts_lawful hs
    · exact hs
  | warningClears =>
    refine ⟨_, rfl, ?_⟩
    unfold warningClears
    dsimp only
    split
    · split <;> exact hs
    · exact hs
  | warningReasserts =>
    refine ⟨_, rfl, ?_⟩
    split
    · exact warningAsserts_lawful hs
    · exact hs
  | clearTimerExpiry straps =>
    refine ⟨_, rfl, ?_⟩
    split
    · exact endOfReset_lawful _ (warmReset_lawful _ hs)
    · exact hs
  | supplyCollapse =>
    refine ⟨_, rfl, ?_⟩
    split
    · exact TimeBase.powerOn_lawful
    · exact hs
  | displayWord =>
    exact ⟨_, rfl, lawful_of_frame (whenUp_frame (ite_frame _ fun t => setSp_frame t _) s) hs⟩
  | beaconTimerExpiry =>
    refine ⟨_, rfl, change_lawful hs fun ht => ?_⟩
    split
    · exact beaconExpires_lawful ht
    · exact ht
  | schoolTimeBoundary =>
    refine ⟨_, rfl, change_lawful hs fun ht => ?_⟩
    split
    · exact lawful_of_frame (boundaryReached_frame _ _) ht
    · exact ht
  | idleGapExpiry => exact ⟨_, rfl, change_lawful_of_frame [.ylc] hs (ite_frame _ lineQuiet_frame)⟩
  | backOffEnd => exact ⟨_, rfl, change_lawful_of_frame [.ylc] hs (ite_frame _ beginTransmission_frame)⟩
  | transmitComplete => exact ⟨_, rfl, change_lawful hs (whileSending_lawful frameSent_lawful)⟩
  | collision => exact ⟨_, rfl, change_lawful hs (whileSending_lawful frameCollided_lawful)⟩
  | receiveAbort => exact ⟨_, rfl, change_lawful_of_frame _ hs receiveAbort_frame⟩
  | frameRejected frame => exact ⟨_, rfl, change_lawful_of_frame _ hs (frameRejected_frame frame)⟩
  | beacon sender body => exact ⟨_, rfl, heard_lawful hs fun n r _ ht => beaconFrom_lawful n body r ht⟩
  | dayplan sender day code =>
    refine ⟨_, rfl, heard_lawful_of_frame [.bs] hs fun _ _ => ifLoaded_frame fun t => ?_⟩
    split
    · exact takeDayplan_frame _ _ t
    · exact t.keepsAllBut_refl _
  | removeOverride sender day =>
    exact ⟨_, rfl, heard_lawful_of_frame [.bs] hs fun _ _ => ifLoaded_frame (takeDayplan_frame _ _)⟩
  | shift sender day kind first last delta =>
    refine ⟨_, rfl, heard_lawful_of_frame [.bs] hs fun _ _ => ifLoaded_frame fun t => ?_⟩
    split
    · exact takeShift_frame _ _ _ _ _ t
    · exact t.keepsAllBut_refl _
  | cancel sender day first last =>
    exact ⟨_, rfl, heard_lawful_of_frame [.bs] hs fun _ _ => ifLoaded_frame (takeShift_frame _ _ _ _ _)⟩
  | clearAll sender day =>
    exact ⟨_, rfl, heard_lawful_of_frame [.bs] hs fun _ _ => ifLoaded_frame (takeShift_frame _ _ _ _ _)⟩
  | claim sender body =>
    exact ⟨_, rfl, heard_lawful_of_frame _ hs fun n _ => ifTaking_frame (hearClaim_frame n body)⟩
  | object sender claimant number reason =>
    exact ⟨_, rfl, heard_lawful_of_frame _ hs fun _ _ =>
      ifTaking_frame (forStation_frame fun c => hearObject_frame c number)⟩
  | ready sender holder number readyMask refusedMask =>
    exact ⟨_, rfl, heard_lawful_of_frame _ hs fun n _ =>
      ifTaking_frame (forStation_frame fun h => hearReady_frame n h number readyMask)⟩
  | release sender number reason =>
    exact ⟨_, rfl, heard_lawful_of_frame _ hs fun n _ => ifTaking_frame (hearRelease_frame n number)⟩
  | drillStart sender body =>
    exact ⟨_, rfl, heard_lawful_of_frame _ hs fun _ _ => ifTaking_frame (takeOffer_frame _)⟩
  | silence sender initiator number =>
    exact ⟨_, rfl, heard_lawful_of_frame _ hs fun _ _ =>
      ifTaking_frame (forStation_frame fun i => hearSilence_frame i number)⟩
  | muster sender initiator number elapsed =>
    exact ⟨_, rfl, heard_lawful_of_frame _ hs fun n _ =>
      ifTaking_frame (forStation_frame fun i => hearMuster_frame n i number elapsed)⟩
  | drillEnd sender initiator number reason =>
    exact ⟨_, rfl, heard_lawful_of_frame _ hs fun _ _ =>
      ifTaking_frame (forStation_frame fun i => hearDrillEnd_frame i number _)⟩
  | yield sender state =>
    exact ⟨_, rfl, heard_lawful_of_frame [.ylc, .fu, .za, .bs, .dsq, .dru, .pt] hs fun n _ t =>
      ((peerYields_frame n state t).andThen (ifTaking_frame updateYield_frame _)).within⟩
  | dialSet sender target line position =>
    exact ⟨_, rfl, heard_lawful_of_frame _ hs fun _ _ =>
      ifTargeted_frame target (ifLoaded_frame (dialSet_frame line position))⟩
  | statusAsk sender target page =>
    exact ⟨_, rfl, heard_lawful_of_frame _ hs fun n _ =>
      ifTargeted_frame target (ite_frame _ (requestReply_frame n page))⟩
  | statusReply sender asker page content =>
    exact ⟨_, rfl, heard_lawful_of_frame [] hs fun _ _ t => t.keepsAllBut_refl _⟩
  | invertNextReply sender target action line =>
    refine ⟨_, rfl, heard_lawful_of_frame [.ylc] hs fun _ _ => ifTargeted_frame target fun t => ?_⟩
    split
    · exact t.setYlc_frame _
    · exact t.keepsAllBut_refl _
  | lockSupervision sender target line =>
    refine ⟨_, rfl, heard_lawful_of_frame [.dsq] hs fun _ _ =>
      ifTargeted_frame target (ifTaking_frame fun t => ?_)⟩
    split
    · exact lockLine_frame _ t
    · exact t.keepsAllBut_refl _
  | unlock sender target line =>
    exact ⟨_, rfl, heard_lawful_of_frame _ hs fun _ _ =>
      ifTargeted_frame target (ifTaking_frame unlockLine_frame)⟩
  | agingExpiry peer => exact ⟨_, rfl, change_lawful_of_frame _ hs (ite_frame _ (peerLost_frame peer))⟩
  | spacingExpiry slot => exact ⟨_, rfl, change_lawful_of_frame _ hs (ite_frame _ (tryImpulse_frame slot))⟩
  | staggerExpiry => exact ⟨_, rfl, change_lawful hs id⟩
  | widthExpiry line => exact ⟨_, rfl, change_lawful_of_frame _ hs (widthExpires_frame line)⟩
  | gapExpiry line => exact ⟨_, rfl, change_lawful_of_frame _ hs (gapEnds_frame line)⟩
  | chimeWidthExpiry => exact ⟨_, rfl, change_lawful_of_frame _ hs chimeWidthEnds_frame⟩
  | chimeGapExpiry => exact ⟨_, rfl, change_lawful_of_frame _ hs chimeGapEnds_frame⟩
  | overcurrent line => exact ⟨_, rfl, change_lawful_of_frame _ hs (overcurrentAt_frame line)⟩
  | supervisionSlot reading =>
    exact ⟨_, rfl, change_lawful_of_frame _ hs (ite_frame _ (supervise_frame reading))⟩
  | entryDue => exact ⟨_, rfl, change_lawful_of_frame _ hs examineDue_frame⟩
  | pageKeyPress key =>
    refine ⟨_, rfl, ?_⟩
    split
    · exact change_lawful_of_frame _ hs (keyHeld_frame key)
    · exact hs
  | pageKeyRelease key =>
    refine ⟨_, rfl, ?_⟩
    split
    · exact change_lawful_of_frame _ hs (keyReleased_frame key)
    · exact hs
  | refusalEnd key => exact ⟨_, rfl, lawful_of_frame (whenUp_frame (ite_frame _ (lampOff_frame key)) s) hs⟩
  | windowClose claimant => exact ⟨_, rfl, change_lawful_of_frame _ hs (windowCloses_frame claimant)⟩
  | readyWaitEnd => exact ⟨_, rfl, change_lawful_of_frame _ hs readyWaitEnds_frame⟩
  | holdEnd => exact ⟨_, rfl, change_lawful_of_frame _ hs holdEnds_frame⟩
  | targetGraceExpiry => exact ⟨_, rfl, change_lawful_of_frame _ hs graceExpires_frame⟩
  | drillKeyPress => exact ⟨_, rfl, change_lawful_of_frame _ hs (ite_frame _ pressDrillKey_frame)⟩
  | musterKeyPress => exact ⟨_, rfl, change_lawful_of_frame _ hs (ite_frame _ pressMusterKey_frame)⟩
  | keyArmed key => exact ⟨_, rfl, lawful_of_frame (whenUp_frame (armKey_frame key) s) hs⟩
  | drillDeadline => exact ⟨_, rfl, change_lawful_of_frame _ hs (ite_frame _ checkPhase_frame)⟩
  | firePanelChange asserted =>
    refine ⟨_, rfl, change_lawful hs fun {t} ht => ?_⟩
    split
    · exact ht
    · exact lawful_of_frame (contactChanges_frame asserted t) ht
  | writeComplete => exact ⟨_, rfl, lawful_of_frame (whenUp_frame writeEnds_frame s) hs⟩
  | eraseComplete => exact ⟨_, rfl, lawful_of_frame (whenUp_frame eraseEnds_frame s) hs⟩
  | startBitSeen bit => exact ⟨_, rfl, change_lawful_of_frame _ hs (startBit_frame bit)⟩
  | delimiterRecognised => exact ⟨_, rfl, change_lawful_of_frame _ hs delimiter_frame⟩

/-- Settles O5: a step is one millisecond or one command, and each keeps the law of the clock. -/
theorem stepKeepsSchoolTimeAndStanding : Obligations.StepKeepsSchoolTimeAndStanding := by
  intro s t hs h
  unfold step at h
  split at h
  · cases h
    exact tick_lawful hs
  · rename_i c rest _
    obtain ⟨u, ran, hu⟩ := exec_keeps_clock_law c (s := { s with pending := rest }) hs
    rw [ran] at h
    cases h
    exact hu

end Sys2Proof.Machine
end

section
/-! PROOF. One millisecond on an empty queue, and the state after a power-on reset. -/

namespace Sys2Proof.Machine

-- one declaration at a time, as in the tests: the threads of a whole text's proofs do not fit the memory limit
set_option Elab.async false

/-- R1, R2: one millisecond writes the clock alone. -/
theorem passMs_frame (s : State) : s.keepsAllBut [.tb] (passMs s) := by
  unfold passMs
  split
  · exact setTb_frame s _
  · exact s.keepsAllBut_refl _

theorem setPending_frame (s : State) (p : List Instr) : s.keepsAllBut [.pending] { s with pending := p } := by
  intro p hp
  cases p <;> first | rfl | simp at hp

/-- R206: nothing falls due at a part that RST holds. -/
theorem dueCommands_of_rst {s : State} (h : s.rst = true) : s.dueCommands = [] := by
  simp [State.dueCommands, State.up, h]

/-- Settles O2: a step on an empty queue is `tick`. -/
theorem emptyQueuePassesOneMillisecond : Obligations.EmptyQueuePassesOneMillisecond := by
  intro s empty powered
  have clock : (tick s).tb = s.tb.afterMs s.rst := by
    simp [tick, passMs, powered]
  have same : (tick s).rst = s.rst := (passMs_frame s).part .rst
  refine ⟨tick s, by simp [step, empty], clock, rfl, fun held => ?_,
    ((passMs_frame s).andThen (setPending_frame _ _)).within⟩
  exact dueCommands_of_rst (s := tick s) (same.trans held)

/-! ## After a power-on reset -/

@[simp] theorem State.reset_line (l : LineId) : State.reset.line l = LineRecord.afterReset .unused := by
  simp [State.line, State.reset, Sequencer.afterReset]

@[simp] theorem State.reset_zone (z : ZoneId) : State.reset.zone z = Zone.afterReset := by
  simp [State.zone, State.reset, ZoneArbiter.afterReset]

@[simp] theorem State.reset_slot (i : SlotId) : State.reset.slot i = DialSlot.unbound none .neg := by
  simp [State.slot, State.reset, DialUnit.powerOn]

/-- R77, R100, R120, R162, R185, R206: nothing drives a line after a power-on reset. -/
theorem State.reset_driven : State.reset.Driven where
  lines l _ h := by simp [LineRecord.afterReset] at h
  quiet _ := ⟨rfl, fun l => by simp [LineRecord.afterReset, Player.idle]⟩
  gaps l ends _ h := by simp [LineRecord.afterReset, Player.idle] at h
  bound i l h := by simp [DialSlot.unbound] at h
  chime h := absurd rfl h
  mic := rfl
  yields h := nomatch h
  outside _ := ⟨rfl, fun z => by simp [Zone.afterReset]⟩
  held _ := rfl

/-- Settles O11: the reset state's records are all at their reset values. -/
theorem resetMeetsTheLaws : Obligations.ResetMeetsTheLaws := by
  refine ⟨rfl, rfl, rfl, (fun _ h => nomatch h), ?_, ?_, ?_, ?_, ?_, State.reset_driven⟩
  · simp [State.trunkLawful, State.anyPaged, Zone.level, Zone.afterReset, Level.isPage]
    rfl
  · simp [State.stacksLawful, Zone.lawful, Zone.afterReset]
  · simp [State.wired, Zone.afterReset]
    rfl
  · simp [State.budgetLawful, State.energizedCount, LineRecord.afterReset, LineKind.counted]
  · simp [State.requestsBound, LineRecord.afterReset]

end Sys2Proof.Machine
end

section
/-! PROOF. The beacon timer and the receiver (R5, R28, R37 to R39): single changes of the Time Base and of the Yard
Line Controller, which leave every zone as it was. -/

namespace Sys2Proof.Machine

-- one declaration at a time, as in the tests: the threads of a whole text's proofs do not fit the memory limit
set_option Elab.async false

/-! ## Changes that do not touch the zones -/

/-- A command of a station that is up whose effect is known and leaves the zones ends with `endOfStep`. -/
theorem change_eq_endOfStep {f : State → State} {s t : State} (up : s.up = true) (effect : f s = t)
    (zones : t.za = s.za) : (.next (change f s) : Answer) = .next (endOfStep t) := by
  rw [change_of_up up, asOneChange_of_za (by rw [effect, zones]), effect]

/-! ## The beacon timer -/

/-- R28: a request for a BEACON with none queued asks for one. -/
theorem requestBeacon_of_none {s : State} (h : s.queuedBeacon = none) : requestBeacon s = enqueue .beacon s := by
  simp [requestBeacon, h]

/-- R28: a BEACON that waits unselected answers the request. -/
theorem requestBeacon_of_waiting {s : State} {q : QueuedFrame} (h : s.queuedBeacon = some q)
    (unselected : q.selected = false) : requestBeacon s = s := by
  simp [requestBeacon, h, unselected]

/-- R5: during the attempt of a BEACON the request is held. -/
theorem requestBeacon_of_selected {s : State} {q : QueuedFrame} (h : s.queuedBeacon = some q)
    (selected : q.selected = true) : requestBeacon s = { s with tb := { s.tb with heldBeacon := true } } := by
  simp [requestBeacon, h, selected]

/-- R5: what the beacon timer's expiry does, by what the request for a BEACON does. -/
theorem execBeaconTimerExpiry_eq {s t : State} (up : s.up = true) (due : reached s.tb.beaconDue s.now = true)
    (asked : beaconExpires s = t) (zones : t.za = s.za) : exec .beaconTimerExpiry s = .next (endOfStep t) :=
  change_eq_endOfStep up ((if_pos due).trans asked) zones

/-- Settles O23. -/
theorem beaconTimerAsksForABeacon : Obligations.BeaconTimerAsksForABeacon := by
  intro s up due
  refine ⟨fun noBeacon takes room => ?_, fun q queued unselected => ?_, fun q queued selected => ?_⟩
  · refine execBeaconTimerExpiry_eq up due ?_ rfl
    exact (requestBeacon_of_none (s := { s with tb := { s.tb with beaconDue := some (s.now + s.beaconMs) } })
      noBeacon).trans (enqueue_of_room takes room)
  · exact execBeaconTimerExpiry_eq up due (requestBeacon_of_waiting queued unselected) rfl
  · exact execBeaconTimerExpiry_eq up due (requestBeacon_of_selected queued selected) rfl

/-! ## The receiver -/

/-- R37, R38: a framing error inside a frame. -/
theorem receiveAbort_of_frame {s : State} (inside : s.ylc.receive ≠ .hunt) :
    receiveAbort s = s.setYlc (if s.transmitting then s.ylc.hunt else s.ylc.hunt.countCrcError) := by
  unfold receiveAbort
  cases h : s.transmitting <;> simp [inside]

/-- Settles O30. -/
theorem receiverTakesAndDropsFrames : Obligations.ReceiverTakesAndDropsFrames := by
  intro frame s up
  refine ⟨fun hunting => ?_, fun inside silent => ?_, fun inside sending => ?_, fun silent => ⟨?_, ?_, ?_⟩⟩
  · exact change_eq_endOfStep up (if_pos hunting) rfl
  · exact change_eq_endOfStep up (by rw [receiveAbort_of_frame inside, silent]; rfl) rfl
  · exact change_eq_endOfStep up (by rw [receiveAbort_of_frame inside, sending]; rfl) rfl
  all_goals
    intro verdict
    refine change_eq_endOfStep up ?_ rfl
    unfold frameRejected
    rw [silent, verdict]
    rfl

end Sys2Proof.Machine
end

section
/-! PROOF. Resets: what a warm reset keeps (R194, R195), the recovery scan's latest snapshot (R190) and POWER_ON. -/

namespace Sys2Proof.Machine

-- one declaration at a time, as in the tests: the threads of a whole text's proofs do not fit the memory limit
set_option Elab.async false

/-! ## The end of a reset -/

/-- R191: a cut leaves the store idle. -/
theorem cutOperation_activity (d : DialStore) : d.cutOperation.activity = .idle := by
  unfold DialStore.cutOperation
  split
  · assumption
  · rfl
  · rfl

/-- R192: a cut leaves the supply monitor's warning. -/
theorem cutOperation_warning (d : DialStore) : d.cutOperation.warning = d.warning := by
  unfold DialStore.cutOperation DialStore.program
  split
  · rfl
  · split <;> rfl
  · rfl

/-- R187: in an idle store the end of a reset starts the erase of a full page. -/
theorem eraseIfFull_of_idle {s : State} (idle : s.ds.activity = .idle) :
    eraseIfFull s =
      { s with ds := { s.ds with activity := if 32 ≤ s.ds.next then .erasing (s.now + 60) else .idle } } := by
  unfold eraseIfFull startErase
  by_cases full : 32 ≤ s.ds.next <;> simp [idle, full, Config.pageSlots, Config.eraseMs]
  rw [← idle]

/-- R197, R198: with valid straps and no warning standing, the end of a reset begins the read of the image. -/
theorem endOfReset_of_straps {straps : BitVec 5} {n : Station} {s : State} (valid : stationOfStraps straps = some n)
    (warning : s.ds.warning = false) (idle : s.ds.activity = .idle) :
    endOfReset straps s =
      { s with
        ds := { s.ds with activity := if 32 ≤ s.ds.next then .erasing (s.now + 60) else .idle }
        sp := { s.sp with number := some n, csc := true } } := by
  unfold endOfReset startLoading
  rw [valid, eraseIfFull_of_idle idle]
  simp [warning]

/-- Settles O15. -/
theorem warmResetKeepsTimeAndDials : Obligations.WarmResetKeepsTimeAndDials := by
  intro straps n s up
  have supplied : s.powered = true ∧ s.rst = false := by
    simpa [State.up] using up
  refine ⟨?_, fun holdUp due clear valid => ?_⟩
  · show execRstAssert s = _
    unfold execRstAssert
    rw [supplied.1, supplied.2]
    rfl
  · show execClearTimerExpiry straps s = _
    unfold execClearTimerExpiry
    rw [up, holdUp, due, if_pos (by decide), endOfReset_of_straps valid]
    · unfold warmReset
      rw [supplied.1, supplied.2]
      rfl
    · exact (cutOperation_warning _).trans clear
    · exact cutOperation_activity _

/-! ## The recovery scan -/

/-- R190: a sequence as its distance from a base, forward around the sequence numbers. -/
def distanceFrom (base sequence : Nat) : Nat := (sequence + 65536 - base) % 65536

/-- R190: where two sequences lie within half the numbers of one base, the newer or equal one is the farther one. -/
theorem sequenceNewer_or_eq_iff {base a b : Nat} (hbase : base < 65536) (ha : a < 65536) (hb : b < 65536)
    (na : distanceFrom base a ≤ 32767) (nb : distanceFrom base b ≤ 32767) :
    (sequenceNewer a b || a == b) = true ↔ distanceFrom base b ≤ distanceFrom base a := by
  simp only [distanceFrom, sequenceNewer, Bool.or_eq_true, Bool.and_eq_true, decide_eq_true_eq, beq_iff_eq] at *
  omega

/-- R190: the conclusion of the order, read from the distances. -/
theorem difference_of_distance_le {base a b : Nat} (hbase : base < 65536) (ha : a < 65536) (hb : b < 65536)
    (na : distanceFrom base a ≤ 32767) (le : distanceFrom base b ≤ distanceFrom base a) :
    (a + 65536 - b) % 65536 ≤ 32767 := by
  simp only [distanceFrom] at *
  omega

/-- R190: every valid snapshot of a walk lies within half the sequence numbers of the base. -/
def WithinHalf (base : Nat) (walk : List (Fin 2 × StoreSlot)) : Prop :=
  ∀ x ∈ walk, ∀ q, x.2.valid? = some q → q.sequence < 65536 ∧ distanceFrom base q.sequence ≤ 32767

/-- R190: the scan finds nothing exactly where no slot is valid. -/
theorem scan_eq_none_iff (walk : List (Fin 2 × StoreSlot)) :
    walk.foldl candidateStep none = none ↔ ∀ x ∈ walk, x.2.valid? = none := by
  induction walk using List.reverseRecOn with
  | nil => simp
  | append_singleton walk x ih =>
    rw [List.foldl_concat]
    simp only [List.mem_append, List.mem_singleton, or_imp, forall_and, forall_eq]
    rw [← ih]
    cases found : walk.foldl candidateStep none with
    | none => cases h : x.2.valid? <;> simp [candidateStep, h]
    | some c =>
      cases h : x.2.valid? with
      | none => simp [candidateStep, h]
      | some p =>
        simp only [candidateStep, h]
        split <;> simp

/-- R190: the place `k` of a walk holds the valid snapshot `p` of a page, no valid one is farther from the base, and
no equally far one comes later. -/
structure LatestAt (walk : List (Fin 2 × StoreSlot)) (k : Nat) (page : Fin 2) (p : Snapshot) : Prop where
  place : ∃ slot : StoreSlot, walk[k]? = some (page, slot) ∧ slot.valid? = some p
  farthest : ∀ base, base < 65536 → WithinHalf base walk →
    ∀ (j : Nat) (x : Fin 2 × StoreSlot) (q : Snapshot), walk[j]? = some x → x.2.valid? = some q →
      distanceFrom base q.sequence ≤ distanceFrom base p.sequence ∧
      (distanceFrom base q.sequence = distanceFrom base p.sequence → j ≤ k)

/-- A place of a list with one more item is a place of the list, or the last one. -/
theorem getElem?_concat_cases {α : Type} {list : List α} {x y : α} {j : Nat} (h : (list ++ [x])[j]? = some y) :
    list[j]? = some y ∨ (j = list.length ∧ y = x) := by
  rcases Nat.lt_trichotomy j list.length with inside | rfl | outside
  · exact .inl (by rwa [List.getElem?_append_left inside] at h)
  · exact .inr ⟨rfl, by simpa using h.symm⟩
  · simp [List.getElem?_append_right outside.le, Nat.sub_ne_zero_of_lt outside] at h

theorem WithinHalf.of_append {base : Nat} {walk : List (Fin 2 × StoreSlot)} {x : Fin 2 × StoreSlot}
    (h : WithinHalf base (walk ++ [x])) : WithinHalf base walk :=
  fun y hy => h y (List.mem_append_left _ hy)

/-- One more slot that does not take the candidate's place. -/
theorem LatestAt.append {walk : List (Fin 2 × StoreSlot)} {k : Nat} {page : Fin 2} {p : Snapshot}
    (h : LatestAt walk k page p) (x : Fin 2 × StoreSlot)
    (nearer : ∀ base, base < 65536 → WithinHalf base (walk ++ [x]) → ∀ q, x.2.valid? = some q →
      distanceFrom base q.sequence < distanceFrom base p.sequence) : LatestAt (walk ++ [x]) k page p := by
  obtain ⟨⟨slot, at_, valid⟩, farthest⟩ := h
  refine ⟨⟨slot, ?_, valid⟩, fun base hbase half j y q hj hq => ?_⟩
  · rw [List.getElem?_append_left (List.getElem?_eq_some_iff.mp at_).1, at_]
  · rcases getElem?_concat_cases hj with hj | ⟨rfl, rfl⟩
    · exact farthest base hbase half.of_append j y q hj hq
    · have := nearer base hbase half q hq
      omega

/-- One more valid slot that takes the candidate's place, as far as every one before it. -/
theorem latestAt_last {walk : List (Fin 2 × StoreSlot)} {x : Fin 2 × StoreSlot} {p : Snapshot}
    (valid : x.2.valid? = some p)
    (farther : ∀ base, base < 65536 → WithinHalf base (walk ++ [x]) → ∀ y ∈ walk, ∀ q, y.2.valid? = some q →
      distanceFrom base q.sequence ≤ distanceFrom base p.sequence) :
    LatestAt (walk ++ [x]) walk.length x.1 p := by
  refine ⟨⟨x.2, by simp, valid⟩, fun base hbase half j y q hj hq => ?_⟩
  rcases getElem?_concat_cases hj with hj | ⟨rfl, rfl⟩
  · exact ⟨farther base hbase half y (List.mem_of_getElem? hj) q hq,
      fun _ => (List.getElem?_eq_some_iff.mp hj).1.le⟩
  · rw [valid] at hq
    cases hq
    exact ⟨le_rfl, fun _ => le_rfl⟩

/-- R190: the scan's candidate is a valid slot of the walk, and of those of the greatest distance the last one. -/
theorem scan_eq_some {walk : List (Fin 2 × StoreSlot)} {page : Fin 2} {p : Snapshot}
    (found : walk.foldl candidateStep none = some (page, p)) : ∃ k, LatestAt walk k page p := by
  induction walk using List.reverseRecOn generalizing page p with
  | nil => simp at found
  | append_singleton walk x ih =>
    rw [List.foldl_concat] at found
    cases valid : x.2.valid? with
    | none =>
      obtain ⟨k, before⟩ := ih (by simpa [candidateStep, valid] using found)
      exact ⟨k, before.append x fun _ _ _ q hq => by simp [valid] at hq⟩
    | some r =>
      cases candidate : walk.foldl candidateStep none with
      | none =>
        have taken : x.1 = page ∧ r = p := by simpa [candidateStep, valid, candidate] using found
        obtain ⟨rfl, rfl⟩ := taken
        have nothing := (scan_eq_none_iff walk).mp candidate
        exact ⟨_, latestAt_last valid fun _ _ _ y hy q hq => by simp [nothing y hy] at hq⟩
      | some c =>
        obtain ⟨g, q⟩ := c
        obtain ⟨k, before⟩ := ih candidate
        obtain ⟨slot, at_, validq⟩ := before.place
        have order (base : Nat) (hbase : base < 65536) (half : WithinHalf base (walk ++ [x])) :
            (sequenceNewer r.sequence q.sequence || r.sequence == q.sequence) = true ↔
              distanceFrom base q.sequence ≤ distanceFrom base r.sequence :=
          have hr := half x (by simp) r valid
          have hq := half.of_append _ (List.mem_of_getElem? at_) q validq
          sequenceNewer_or_eq_iff hbase hr.1 hq.1 hr.2 hq.2
        simp only [candidateStep, valid, candidate] at found
        split at found
        · rename_i newer
          cases found
          refine ⟨_, latestAt_last valid fun base hbase half y hy v hv => ?_⟩
          obtain ⟨j, hj⟩ := List.mem_iff_getElem?.mp hy
          exact (before.farthest base hbase half.of_append j y v hj hv).1.trans ((order base hbase half).mp newer)
        · rename_i older
          cases found
          refine ⟨k, before.append x fun base hbase half v hv => ?_⟩
          rw [valid] at hv
          cases hv
          exact lt_of_not_ge fun le => older ((order base hbase half).mpr le)

/-! ## The walk of the two pages -/

/-- R190: the walk goes through page 0, then page 1, each slot by slot. -/
theorem walk_getElem? (d : DialStore) (g : Fin 2) (i : Fin 32) :
    d.walk[32 * g.val + i.val]? = some (g, d.pages[g][i]) := by
  unfold DialStore.walk
  match g with
  | 0 => simp [List.getElem?_append_left]
  | 1 => simp [List.getElem?_append_right]

/-- R190: every place of the walk is a slot of a page. -/
theorem walk_getElem?_eq_some {d : DialStore} {k : Nat} {x : Fin 2 × StoreSlot} (h : d.walk[k]? = some x) :
    ∃ (g : Fin 2) (i : Fin 32), k = 32 * g.val + i.val ∧ x = (g, d.pages[g][i]) := by
  have inside : k < 64 := by
    have := (List.getElem?_eq_some_iff.mp h).1
    simpa [DialStore.walk] using this
  refine ⟨⟨k / 32, by omega⟩, ⟨k % 32, by omega⟩, by simp; omega, ?_⟩
  have here := walk_getElem? d ⟨k / 32, by omega⟩ ⟨k % 32, by omega⟩
  rw [show 32 * (k / 32) + k % 32 = k by omega, h] at here
  exact Option.some.inj here

/-- R190: what lies in the walk is what lies in the pages. -/
theorem mem_walk_iff {d : DialStore} {x : Fin 2 × StoreSlot} :
    x ∈ d.walk ↔ ∃ (g : Fin 2) (i : Fin 32), x = (g, d.pages[g][i]) := by
  constructor
  · intro h
    obtain ⟨k, hk⟩ := List.mem_iff_getElem?.mp h
    obtain ⟨g, i, -, rfl⟩ := walk_getElem?_eq_some hk
    exact ⟨g, i, rfl⟩
  · rintro ⟨g, i, rfl⟩
    exact List.mem_of_getElem? (walk_getElem? d g i)

/-- R190: the latest is absent only where no slot is valid. -/
theorem latest_eq_none_iff (d : DialStore) :
    d.latest = none ↔ ∀ (page : Fin 2) (i : Fin 32), (d.pages[page])[i].valid? = none := by
  unfold DialStore.latest
  rw [scan_eq_none_iff]
  simp only [mem_walk_iff]
  constructor
  · exact fun h page i => h _ ⟨page, i, rfl⟩
  · rintro h _ ⟨g, i, rfl⟩
    exact h g i

/-- R190: where the latest lies, and how it stands to every other valid snapshot. -/
theorem latest_spec {d : DialStore} {page : Fin 2} {p : Snapshot} (h : d.latest = some (page, p)) :
    ∃ i : Fin 32, (d.pages[page])[i].valid? = some p ∧
      ∀ base : Nat, base < 65536 →
        (∀ (g : Fin 2) (j : Fin 32) (q : Snapshot), (d.pages[g])[j].valid? = some q →
          q.sequence < 65536 ∧ (q.sequence + 65536 - base) % 65536 ≤ 32767) →
        ∀ (g : Fin 2) (j : Fin 32) (q : Snapshot), (d.pages[g])[j].valid? = some q →
          (p.sequence + 65536 - q.sequence) % 65536 ≤ 32767 ∧
          (q.sequence = p.sequence → g < page ∨ g = page ∧ j ≤ i) := by
  obtain ⟨k, ⟨slot, at_, valid⟩, farthest⟩ := scan_eq_some h
  obtain ⟨page', i, rfl, same⟩ := walk_getElem?_eq_some at_
  simp only [Prod.mk.injEq] at same
  obtain ⟨rfl, rfl⟩ := same
  refine ⟨i, valid, fun base hbase half g j q hq => ?_⟩
  have within : WithinHalf base d.walk := by
    intro x hx
    obtain ⟨g, j, rfl⟩ := mem_walk_iff.mp hx
    exact half g j
  obtain ⟨nearer, last⟩ := farthest base hbase within _ _ q (walk_getElem? d g j) hq
  have ofq := half g j q hq
  have ofp := half page i p valid
  refine ⟨difference_of_distance_le hbase ofp.1 ofq.1 ofp.2 nearer, fun eq => ?_⟩
  have := last (by rw [eq])
  have := g.isLt
  have := page.isLt
  omega

/-! ## POWER_ON -/

/-- R191, R195: what outlives the supply in a store with nothing under way. -/
theorem dead_of_idle {d : DialStore} (idle : d.activity = .idle) :
    d.dead = { DialStore.blank with pages := d.pages, cutIndex := d.cutIndex } := by
  simp [DialStore.dead, DialStore.cutOperation, idle]

/-- R187: a store that is erasing, or has a slot left, begins no erase at the end of a reset. -/
theorem eraseIfFull_of_begun {s : State} (h : s.ds.activity = .idle → s.ds.next < 32) : eraseIfFull s = s := by
  unfold eraseIfFull
  rw [if_neg]
  rintro ⟨idle, full⟩
  exact absurd (h idle) (by simpa [Config.pageSlots] using full)

/-- R190: the state the recovery scan of a power-on reset works on. -/
def suppliedAgain (s : State) : State := { collapse s with powered := true }

/-- R190: the scan over a store with a valid snapshot. -/
theorem recoveryScan_of_latest {s : State} {page : Fin 2} {p : Snapshot} (h : s.ds.latest = some (page, p)) :
    recoveryScan s =
      { s with
        ds := { s.ds with
          lastSequence := some p.sequence, lastTime := some p.time, page := page
          next := nextFree s.ds.pages[page] }
        du := { s.du with slots := p.dials.map fun r => DialSlot.unbound r.dial r.polarity } } := by
  unfold recoveryScan
  rw [h]

/-- R190: the scan over a store with none. -/
theorem recoveryScan_of_none {s : State} (h : s.ds.latest = none) :
    recoveryScan s =
      { s with
        ds := { s.ds with
          lastSequence := none, lastTime := none, page := 0, next := nextFree s.ds.pages[(0 : Fin 2)] }
        du := { s.du with slots := Vector.replicate 6 (DialSlot.unbound none .neg) } } := by
  unfold recoveryScan
  rw [h]

/-- The scan finds an idle store and leaves it idle. -/
theorem recoveryScan_activity (s : State) : (recoveryScan s).ds.activity = s.ds.activity := by
  unfold recoveryScan
  split <;> rfl

/-- R197, R198: the end of a reset with nothing for the store to begin. -/
theorem endOfReset_of_begun {straps : BitVec 5} {n : Station} {s : State} (valid : stationOfStraps straps = some n)
    (warning : s.ds.warning = false) (begun : s.ds.activity = .idle → s.ds.next < 32) :
    endOfReset straps s = { s with sp := { s.sp with number := some n, csc := true } } := by
  unfold endOfReset startLoading
  rw [valid, eraseIfFull_of_begun begun]
  simp [warning]

/-- R187, R190, R206: with valid straps and no warning, a power-on reset is the scan, the erase of a full page and the
start of LOADING. -/
theorem powerOnReset_eq {straps : BitVec 5} {n : Station} {s : State} (released : s.rst = false)
    (valid : stationOfStraps straps = some n) :
    powerOnReset straps false s =
      { recoveryScan (suppliedAgain s) with
        ds := { (recoveryScan (suppliedAgain s)).ds with
          activity := if 32 ≤ (recoveryScan (suppliedAgain s)).ds.next then .erasing 60 else .idle
          warning := false }
        sp := { (recoveryScan (suppliedAgain s)).sp with number := some n, csc := true } } := by
  have idle : (recoveryScan (suppliedAgain s)).ds.activity = .idle := recoveryScan_activity _
  have now : (recoveryScan (suppliedAgain s)).now = 0 := by
    unfold recoveryScan
    split <;> rfl
  have rst : (recoveryScan (suppliedAgain s)).rst = false := by
    unfold recoveryScan
    split <;> exact released
  unfold powerOnReset
  rw [show { collapse s with powered := true } = suppliedAgain s from rfl]
  generalize recoveryScan (suppliedAgain s) = r at *
  rw [eraseIfFull_of_idle idle, now]
  simp only [rst, Bool.false_eq_true, if_false]
  refine (endOfReset_of_begun valid rfl fun h => ?_).trans rfl
  by_contra full
  simp [Nat.not_lt.mp full] at h

/-- R206: POWER_ON of a part without supply. -/
theorem exec_powerOn {straps : BitVec 5} {s : State} (off : s.powered = false) :
    exec (.powerOn straps false) s = .next (powerOnReset straps false s) := by
  show execPowerOn straps false s = _
  unfold execPowerOn
  rw [off]
  rfl

/-- Settles O14. -/
theorem powerOnRecoversTheDials : Obligations.PowerOnRecoversTheDials := by
  intro straps n s off released idle valid
  have store : (suppliedAgain s).ds = { DialStore.blank with pages := s.ds.pages, cutIndex := s.ds.cutIndex } :=
    dead_of_idle idle
  have latest : (suppliedAgain s).ds.latest = s.ds.latest := by
    rw [store]
    rfl
  rw [exec_powerOn off, powerOnReset_eq released valid]
  refine ⟨fun nothing => ?_, fun page p found => ⟨_, rfl, ?_⟩, fun page p found => latest_spec found,
    latest_eq_none_iff s.ds⟩
  · rw [recoveryScan_of_none (latest.trans nothing), store]
    simp only [suppliedAgain, collapse, released]
    rfl
  · rw [recoveryScan_of_latest (latest.trans found), store]
    refine ⟨fun i => ?_, rfl, rfl, rfl, rfl, rfl, rfl, rfl, rfl, rfl, rfl, rfl, rfl⟩
    simp [State.slot, DialSlot.unbound]

end Sys2Proof.Machine
end

section
/-! PROOF. The correction of a round (R14): the trimmed range of the sorted values, its middle toward zero, and its
tolerance of faulty values. -/

namespace Sys2Proof.Machine

-- one declaration at a time, as in the tests: the threads of a whole text's proofs do not fit the memory limit
set_option Elab.async false

/-! ## Sorted lists -/

/-- The items up to a place of a sorted list are at most the item there. -/
theorem le_of_mem_take {list : List Int} (sorted : list.Pairwise (· ≤ ·)) {k : Nat} (hk : k < list.length)
    {v : Int} (hv : v ∈ list.take (k + 1)) : v ≤ list[k] := by
  obtain ⟨j, hj, rfl⟩ := List.mem_take_iff_getElem.mp hv
  exact (List.sortedLE_iff_pairwise.mpr sorted).getElem_le_getElem_of_le (by omega)

/-- The items from a place of a sorted list on are at least the item there. -/
theorem le_of_mem_drop {list : List Int} (sorted : list.Pairwise (· ≤ ·)) {k : Nat} (hk : k < list.length)
    {v : Int} (hv : v ∈ list.drop k) : list[k] ≤ v := by
  obtain ⟨j, hj, rfl⟩ := List.mem_drop_iff_getElem.mp hv
  exact (List.sortedLE_iff_pairwise.mpr sorted).getElem_le_getElem_of_le (by omega)

/-- As many items pass a test as a part of the list in which every item does. -/
theorem length_le_filter {α : Type} {part list : List α} {p : α → Bool} (sub : part.Sublist list)
    (all : ∀ v ∈ part, p v = true) : part.length ≤ (list.filter p).length := by
  have := (sub.filter p).length_le
  rwa [List.filter_eq_self.mpr all] at this

/-! ## The middle of two values -/

/-- R14: the middle toward zero of two values lies between them. -/
theorem middle_between {lo hi : Int} (h : lo ≤ hi) : lo ≤ (lo + hi).tdiv 2 ∧ (lo + hi).tdiv 2 ≤ hi := by
  rcases le_total 0 (lo + hi) with sum | sum
  · rw [Int.tdiv_eq_ediv_of_nonneg sum]
    omega
  · have flipped : (lo + hi).tdiv 2 = -((-(lo + hi)) / 2) := by
      rw [← Int.tdiv_eq_ediv_of_nonneg (by omega), Int.neg_tdiv, neg_neg]
    omega

/-! ## The trim -/

/-- R14: how many values are discarded at either end leaves one of them. -/
theorem trim_lt {n : Nat} (h : 0 < n) : 2 * ((n - 1) / 3) < n := by
  omega

/-- R14: what the trim leaves of sorted values: the part from its lowest to its highest. -/
structure TrimmedTo (sorted left : List Int) (f : Nat) (lo hi : Int) : Prop where
  inside : 2 * f < sorted.length
  cut : left = (sorted.drop f).take (sorted.length - 2 * f)
  low : sorted[f]? = some lo
  high : sorted[sorted.length - 1 - f]? = some hi

theorem TrimmedTo.length {sorted left : List Int} {f : Nat} {lo hi : Int} (h : TrimmedTo sorted left f lo hi) :
    left.length = sorted.length - 2 * f := by
  rw [h.cut, List.length_take, List.length_drop]
  omega

theorem TrimmedTo.head {sorted left : List Int} {f : Nat} {lo hi : Int} (h : TrimmedTo sorted left f lo hi) :
    left.head? = some lo := by
  have := h.inside
  rw [List.head?_eq_getElem?, h.cut, List.getElem?_take_of_lt (by omega), List.getElem?_drop]
  exact h.low

theorem TrimmedTo.last {sorted left : List Int} {f : Nat} {lo hi : Int} (h : TrimmedTo sorted left f lo hi) :
    left.getLast? = some hi := by
  have := h.inside
  rw [List.getLast?_eq_getElem?, h.length, h.cut, List.getElem?_take_of_lt (by omega), List.getElem?_drop,
    show f + (sorted.length - 2 * f - 1) = sorted.length - 1 - f by omega]
  exact h.high

/-- R14: every value left lies between the lowest and the highest. -/
theorem TrimmedTo.between {sorted left : List Int} {f : Nat} {lo hi : Int} (h : TrimmedTo sorted left f lo hi)
    (order : sorted.Pairwise (· ≤ ·)) {v : Int} (hv : v ∈ left) : lo ≤ v ∧ v ≤ hi := by
  obtain ⟨hf, rfl⟩ := List.getElem?_eq_some_iff.mp h.low
  obtain ⟨hl, rfl⟩ := List.getElem?_eq_some_iff.mp h.high
  rw [h.cut] at hv
  refine ⟨le_of_mem_drop order hf (List.mem_of_mem_take hv), le_of_mem_take order hl ?_⟩
  rw [List.take_drop] at hv
  have := h.inside
  rw [show f + (sorted.length - 2 * f) = sorted.length - 1 - f + 1 by omega] at hv
  exact List.mem_of_mem_drop hv

/-- R14: with at most `f` values outside a range, the lowest and the highest left lie within it. -/
theorem TrimmedTo.tolerates {sorted left : List Int} {f : Nat} {lo hi low high : Int}
    (h : TrimmedTo sorted left f lo hi) (order : sorted.Pairwise (· ≤ ·))
    (few : (sorted.filter fun v => decide (v < low ∨ high < v)).length ≤ f) : low ≤ lo ∧ hi ≤ high := by
  obtain ⟨hf, rfl⟩ := List.getElem?_eq_some_iff.mp h.low
  obtain ⟨hl, rfl⟩ := List.getElem?_eq_some_iff.mp h.high
  constructor
  · by_contra below
    have outside := length_le_filter (p := fun v => decide (v < low ∨ high < v)) (List.take_sublist (f + 1) sorted)
      fun v hv => decide_eq_true (.inl ((le_of_mem_take order hf hv).trans_lt (not_le.mp below)))
    rw [List.length_take] at outside
    omega
  · by_contra above
    have outside := length_le_filter (p := fun v => decide (v < low ∨ high < v))
      (List.drop_sublist (sorted.length - 1 - f) sorted)
      fun v hv => decide_eq_true (.inr ((not_le.mp above).trans_le (le_of_mem_drop order hl hv)))
    rw [List.length_drop] at outside
    omega

/-! ## The correction -/

/-- R14: the trim of a set of values, sorted. -/
theorem trimmed_spec {values : List Int} (some_ : values ≠ []) :
    ∃ lo hi, TrimmedTo (values.insertionSort (· ≤ ·)) (trimmed values) ((values.length - 1) / 3) lo hi := by
  have room := trim_lt (List.length_pos_iff.mpr some_)
  have same := List.length_insertionSort (· ≤ ·) values
  exact ⟨_, _, by rw [same]; exact room, by rw [same]; rfl, List.getElem?_eq_getElem (by omega),
    List.getElem?_eq_getElem (by omega)⟩

/-- R14: the correction is the middle of the lowest and the highest left. -/
theorem correctionOf_eq {values : List Int} {lo hi : Int} (head : (trimmed values).head? = some lo)
    (last : (trimmed values).getLast? = some hi) : correctionOf values = (lo + hi).tdiv 2 := by
  simp [correctionOf, List.headD_eq_head?_getD, List.getLastD_eq_getLast?, head, last]

/-- R12, R14: a round that holds no peer sample makes no correction. -/
theorem agreementRound_of_none {s : State} {x : Nat} (school : s.school = some x)
    (alone : (eligibleSet s.freshSamples).1 = []) : agreementRound s = s.setSchool (some x) .free := by
  simp [agreementRound, school, alone]

/-- Settles O26. -/
theorem correctionToleratesFaultyPeers : Obligations.CorrectionToleratesFaultyPeers := by
  refine ⟨fun values some_ => ?_, by decide, fun s x school alone => ?_⟩
  · obtain ⟨lo, hi, trim⟩ := trimmed_spec some_
    have perm := List.perm_insertionSort (· ≤ ·) values
    have order := List.pairwise_insertionSort (· ≤ ·) values
    have middle := correctionOf_eq trim.head trim.last
    have room := trim_lt (List.length_pos_iff.mpr some_)
    have size := perm.length_eq
    have ends : lo ≤ hi := (trim.between order (List.mem_of_head? trim.head)).2
    refine ⟨_, _, lo, hi, perm, order, by rw [trim.cut, size], by rw [trim.length, size], ?_,
      trim.head, trim.last, fun v hv => trim.between order hv, middle, fun bounded => ?_, fun low high few => ?_⟩
    · rw [trim.length]
      omega
    · have lowest := bounded lo (perm.mem_iff.mp (List.mem_of_getElem? trim.low))
      have highest := bounded hi (perm.mem_iff.mp (List.mem_of_getElem? trim.high))
      have between := middle_between ends
      rw [middle]
      omega
    · have within := trim.tolerates order (by rwa [(perm.filter _).length_eq])
      have between := middle_between ends
      rw [middle]
      omega
  · rw [agreementRound_of_none school alone]
    exact ⟨rfl, rfl⟩

end Sys2Proof.Machine
end

section
/-! PROOF. The end of an attempt (R28, R29, R33, R34, R147), and what the end of a step leaves of the transmit
queue. -/

namespace Sys2Proof.Machine

-- one declaration at a time, as in the tests: the threads of a whole text's proofs do not fit the memory limit
set_option Elab.async false

/-! ## The frames of the transmit queue -/

/-- `t` holds the frames of `s` in their order, with the same link counts. -/
def State.sameFrames (s t : State) : Prop :=
  t.ylc.queue.map QueuedFrame.frame = s.ylc.queue.map QueuedFrame.frame ∧ t.ylc.counts = s.ylc.counts

theorem State.sameFrames.trans {s t u : State} (h1 : s.sameFrames t) (h2 : t.sameFrames u) : s.sameFrames u :=
  ⟨h2.1.trans h1.1, h2.2.trans h1.2⟩

theorem State.sameFrames_of_ylc {s t : State} (h : s.sameIn t .ylc) : s.sameFrames t := by
  simp only [State.sameIn] at h
  simp [State.sameFrames, h]

/-- A frame of the queue of one is a frame of the queue of the other. -/
theorem State.sameFrames.queued {s t : State} (h : s.sameFrames t) {f : OutFrame} (queued : s.queued f) :
    t.queued f := by
  obtain ⟨q, hq, rfl⟩ := queued
  have : q.frame ∈ t.ylc.queue.map QueuedFrame.frame := h.1 ▸ List.mem_map_of_mem hq
  simpa [State.queued] using this

theorem State.setQueued_sameFrames {s : State} {i : Nat} {q r : QueuedFrame} (at_ : s.ylc.queue[i]? = some q)
    (frame : r.frame = q.frame) : s.sameFrames (s.setQueued i r) := by
  refine ⟨?_, rfl⟩
  show (s.ylc.queue.set i r).map QueuedFrame.frame = _
  obtain ⟨inside, rfl⟩ := List.getElem?_eq_some_iff.mp at_
  rw [List.map_set, frame, ← List.getElem_map QueuedFrame.frame (h := by simpa using inside),
    List.set_getElem_self]

theorem takeInvert_sameFrames {s : State} {i : Nat} {q : QueuedFrame} (at_ : s.ylc.queue[i]? = some q) :
    s.sameFrames (takeInvert i q s) := by
  unfold takeInvert
  split
  · split
    · exact State.setQueued_sameFrames at_ rfl
    · exact ⟨rfl, rfl⟩
  · exact ⟨rfl, rfl⟩

/-- R33: the start of a transmission leaves the frames of the queue. -/
theorem beginTransmission_sameFrames (s : State) : s.sameFrames (beginTransmission s) := by
  unfold beginTransmission
  split
  · exact ⟨rfl, rfl⟩
  · split
    · exact ⟨rfl, rfl⟩
    · rename_i at_
      exact (takeInvert_sameFrames at_).trans ⟨rfl, rfl⟩

/-- R32: the access wait of an attempt leaves the frames of the queue. -/
theorem beginAttempt_sameFrames (k : Nat) (s : State) : s.sameFrames (beginAttempt k s) := by
  unfold beginAttempt
  dsimp only
  split
  · exact State.sameFrames.trans (t := s.setYlc _) ⟨rfl, rfl⟩ (beginTransmission_sameFrames _)
  · exact ⟨rfl, rfl⟩

/-- R31: the selection of a frame leaves the frames of the queue. -/
theorem selectNext_sameFrames (s : State) : s.sameFrames (selectNext s) := by
  unfold selectNext
  split
  · exact ⟨rfl, rfl⟩
  · split
    · exact ⟨rfl, rfl⟩
    · split
      · exact ⟨rfl, rfl⟩
      · rename_i at_
        refine State.sameFrames.trans ?_ (beginAttempt_sameFrames _ _)
        exact State.setQueued_sameFrames at_ rfl

/-- The end of a step leaves the frames of the queue. -/
theorem endOfStep_sameFrames (s : State) : s.sameFrames (endOfStep s) :=
  (State.sameFrames_of_ylc (((syncTrunk_frame s).andThen (arbitrate_frame _)).part .ylc)).trans
    (selectNext_sameFrames _)

/-- The same for an effect that changes zones. -/
theorem asOneChange_sameFrames (f : State → State) (s : State) : (f s).sameFrames (asOneChange f s) :=
  (State.sameFrames_of_ylc (((settleZones_frame s.za.zones (f s)).andThen (arbitrate_frame _)).part .ylc)).trans
    (selectNext_sameFrames _)

/-! ## The attempt's end -/

/-- R33, R37: the station after its transmission ended, the receiver in HUNT with its stamp dropped. -/
def State.afterAttempt (s : State) (queue : List QueuedFrame) (counts : LinkCounts) : State :=
  { s with ylc := { s.ylc with queue, attempt := .none, receive := .hunt, stamp := none, counts } }

/-- The selected frame is what an end of the attempt acts on. -/
theorem whileSending_of_selected {s : State} {i : Nat} {q : QueuedFrame} (sending : s.transmitting = true)
    (selected : selectedIndex s.ylc.queue = some i) (at_ : s.ylc.queue[i]? = some q)
    (f : Nat → QueuedFrame → State → State) : whileSending f s = f i q s := by
  simp [whileSending, sending, selected, at_]

/-- R33: the frame has left the queue when its requester is told. -/
theorem frameSent_eq (i : Nat) (q : QueuedFrame) (s : State) :
    frameSent i q s =
      releaseHeld q.frame (reportSent q.frame (s.afterAttempt (s.ylc.queue.eraseIdx i) s.ylc.counts)) := rfl

/-- R34: before the eighth attempt the frame stays at its place. -/
theorem frameCollided_of_early (i : Nat) {q : QueuedFrame} (s : State) (early : q.attempts + 1 < 8) :
    frameCollided i q s = releaseHeld q.frame
      (s.afterAttempt (s.ylc.queue.set i { q with attempts := q.attempts + 1, selected := false }) s.ylc.counts) :=
  if_pos early

/-- R34: at the eighth it is given up. -/
theorem frameCollided_of_last (i : Nat) {q : QueuedFrame} (s : State) (last : 8 ≤ q.attempts + 1) :
    frameCollided i q s = releaseHeld q.frame (reportLost q.frame
      (s.afterAttempt (s.ylc.queue.eraseIdx i)
        { s.ylc.counts with giveUps := min 65535 (s.ylc.counts.giveUps + 1) })) :=
  if_neg (Nat.not_lt.mpr last)

/-- R33: TRANSMIT_COMPLETE with an effect that is known and leaves the zones. -/
theorem exec_transmitComplete {s t : State} {i : Nat} {q : QueuedFrame} (up : s.up = true)
    (sending : s.transmitting = true) (selected : selectedIndex s.ylc.queue = some i)
    (at_ : s.ylc.queue[i]? = some q) (effect : frameSent i q s = t) (zones : t.za = s.za) :
    exec .transmitComplete s = .next (endOfStep t) :=
  change_eq_endOfStep up ((whileSending_of_selected sending selected at_ _).trans effect) zones

/-- R34: COLLISION with an effect that is known and leaves the zones. -/
theorem exec_collision {s t : State} {i : Nat} {q : QueuedFrame} (up : s.up = true)
    (sending : s.transmitting = true) (selected : selectedIndex s.ylc.queue = some i)
    (at_ : s.ylc.queue[i]? = some q) (effect : frameCollided i q s = t) (zones : t.za = s.za) :
    exec .collision s = .next (endOfStep t) :=
  change_eq_endOfStep up ((whileSending_of_selected sending selected at_ _).trans effect) zones

/-! ## What is held until the attempt ends -/

/-- R5, R29: nothing is held for a frame that is neither a BEACON nor a STATUS-REPLY. -/
theorem releaseHeld_of_other {f : OutFrame} {s : State} (beacon : f = .beacon → s.tb.heldBeacon = false)
    (reply : ∀ a p, f = .statusReply a p → (a, p) ∉ s.ylc.heldAsks) : releaseHeld f s = s := by
  cases f with
  | beacon => simp [releaseHeld, releaseHeldBeacon, beacon rfl]
  | statusReply a p => simp [releaseHeld, releaseHeldAsk, reply a p rfl]
  | _ => rfl

/-- R28: no request for a BEACON is held any longer. -/
def State.withoutHeldBeacon (s : State) : State := { s with tb := { s.tb with heldBeacon := false } }

/-- R29: an ask is held no longer. -/
def State.withoutAsk (s : State) (a : Station) (p : Byte) : State :=
  s.setYlc { s.ylc with heldAsks := s.ylc.heldAsks.erase (a, p) }

/-- R28: a held request for a BEACON is made anew. -/
theorem releaseHeld_beacon {s : State} (held : s.tb.heldBeacon = true) :
    releaseHeld .beacon s = requestBeacon s.withoutHeldBeacon := by
  simp [releaseHeld, releaseHeldBeacon, held, State.withoutHeldBeacon]

/-- R29: a held ask is answered anew. -/
theorem releaseHeld_statusReply {s : State} {a : Station} {p : Byte} (held : (a, p) ∈ s.ylc.heldAsks) :
    releaseHeld (.statusReply a p) s = requestReply a p (s.withoutAsk a p) := by
  simp [releaseHeld, releaseHeldAsk, held, State.withoutAsk]

/-- R29: an ask with no STATUS-REPLY queued for it asks for one. -/
theorem requestReply_of_none {a : Station} {p : Byte} {s : State}
    (h : s.ylc.queue.find? (fun q => q.frame == .statusReply a p) = none) :
    requestReply a p s = enqueue (.statusReply a p) s := by
  simp [requestReply, h]

/-- R29: a STATUS-REPLY that waits unselected answers the ask. -/
theorem requestReply_of_waiting {a : Station} {p : Byte} {s : State} {q : QueuedFrame}
    (h : s.ylc.queue.find? (fun q => q.frame == .statusReply a p) = some q) (unselected : q.selected = false) :
    requestReply a p s = s := by
  simp [requestReply, h, unselected]

/-- A frame that no other entry of the queue carries is found at the place it was put. -/
theorem find?_set_of_unique {queue : List QueuedFrame} {i : Nat} {r : QueuedFrame} {f : OutFrame}
    (inside : i < queue.length) (frame : r.frame = f) (unique : ∀ x ∈ queue.eraseIdx i, x.frame ≠ f) :
    (queue.set i r).find? (fun q => q.frame == f) = some r := by
  rw [List.set_eq_take_append_cons_drop, if_pos inside, List.find?_append,
    List.find?_eq_none.mpr, Option.none_or, List.find?_cons_of_pos (by simp [frame])]
  intro x hx
  have := unique x (by rw [List.eraseIdx_eq_take_drop_succ]; exact List.mem_append_left _ hx)
  simpa using this

/-- A frame that no entry of a queue carries is not found. -/
theorem find?_of_absent {queue : List QueuedFrame} {f : OutFrame} (absent : ∀ x ∈ queue, x.frame ≠ f) :
    queue.find? (fun q => q.frame == f) = none :=
  List.find?_eq_none.mpr fun x hx => by simpa using absent x hx

/-- A queue of eight has room once a frame has left. -/
theorem room_of_eraseIdx {queue : List QueuedFrame} {i : Nat} (inside : i < queue.length)
    (bound : queue.length ≤ 8) : (queue.eraseIdx i).length < 8 := by
  rw [List.length_eraseIdx_of_lt inside]
  omega

/-! ## The own CLAIM -/

/-- R144: the lowest-ranked entry is one of the list. -/
theorem lowestRanked_mem {list : List ClaimEntry} {low : ClaimEntry} (h : lowestRanked list = some low) :
    low ∈ list := by
  induction list generalizing low with
  | nil => simp [lowestRanked] at h
  | cons a rest ih =>
    unfold lowestRanked at h
    split at h
    · cases h
      simp
    · rename_i b hb
      split at h
      · cases h
        exact List.mem_cons_of_mem _ (ih hb)
      · cases h
        simp

/-- R144: two claims do not outrank each other. -/
theorem outranks_asymm {c d : FloorClass} {n m : Station} (h : outranks c n d m = true) :
    outranks d m c n = false := by
  simp only [outranks] at *
  cases c <;> cases d <;> simp at * <;> omega

/-- R144: a claim that every entry of a full list outranks does not join. -/
theorem joinList_of_outranked {c : ClaimEntry} {list : List ClaimEntry} (new : ∀ e ∈ list, e.claimant ≠ c.claimant)
    (full : 4 ≤ list.length) (above : ∀ e ∈ list, outranks e.cls e.claimant c.cls c.claimant = true) :
    joinList c list = (list, none, false) := by
  have unknown : (list.any fun e => e.claimant == c.claimant) = false := by
    simpa using new
  unfold joinList
  rw [unknown, if_neg (by simp), if_neg (by simpa [Config.claimLimit] using full)]
  split
  · rfl
  · rename_i low h
    rw [if_neg]
    simp [ClaimEntry.outranks, outranks_asymm (above low (lowestRanked_mem h))]

/-- R147: the own claim joins a list with room. -/
theorem joinClaim_of_room {c : ClaimEntry} {s : State} (new : ∀ e ∈ s.fu.claims, e.claimant ≠ c.claimant)
    (room : s.fu.claims.length < 4) : joinClaim c s = s.setClaims (s.fu.claims ++ [c]) := by
  simp [joinClaim, joinList_of_room new room]

/-- R144, R147: the own claim at a full list that it does not outrank is withdrawn. -/
theorem joinClaim_of_outranked {c : ClaimEntry} {s : State} (own : s.own = some c.claimant)
    (new : ∀ e ∈ s.fu.claims, e.claimant ≠ c.claimant) (full : 4 ≤ s.fu.claims.length)
    (above : ∀ e ∈ s.fu.claims, outranks e.cls e.claimant c.cls c.claimant = true) :
    joinClaim c s = ownClaimWithdrawn c.number s := by
  have stands : s.setClaims s.fu.claims = s := rfl
  simp [joinClaim, joinList_of_outranked new full above, stands, own]

/-- R147: the own CLAIM of the claim under way is sent: it comes to join the list. -/
theorem claimSent_of_claiming {s : State} {o : OwnClaim} {n : Station} {number : Byte} (own : s.fu.own = some o)
    (station : s.own = some n) (phase : o.phase = .claiming) (number_ : o.number = number) :
    claimSent number s =
      joinClaim { claimant := n, number, cls := o.cls, targets := o.targets, holdLimit := o.holdLimit,
                  windowEnd := s.now + o.window, objected := false } s := by
  simp [claimSent, own, station, phase, number_]

/-- R147: a CLAIM that is not of a claim under way moves nothing when it is sent. -/
theorem claimSent_of_other {s : State} {number : Byte}
    (other : ∀ o, s.fu.own = some o → ¬(o.phase = .claiming ∧ o.number = number)) : claimSent number s = s := by
  unfold claimSent
  split
  · rename_i o n own _
    exact if_neg (by simpa using other o own)
  · rfl

/-- R147: the own CLAIM of the claim under way is lost. -/
theorem claimLost_of_claiming {s : State} {o : OwnClaim} {number : Byte} (own : s.fu.own = some o)
    (phase : o.phase = .claiming) (number_ : o.number = number) :
    claimLost number s = showRefusal o.key (s.setOwn none) := by
  simp [claimLost, own, phase, number_]

/-- R147: a CLAIM that is not of a claim under way moves nothing when it is lost. -/
theorem claimLost_of_other {s : State} {number : Byte}
    (other : ∀ o, s.fu.own = some o → ¬(o.phase = .claiming ∧ o.number = number)) : claimLost number s = s := by
  unfold claimLost
  split
  · rename_i o own
    exact if_neg (by simpa using other o own)
  · rfl

/-- R147: the withdrawal of the claim under way. -/
theorem ownClaimWithdrawn_of_claiming {s : State} {o : OwnClaim} {number : Byte} (own : s.fu.own = some o)
    (phase : o.phase = .claiming) (number_ : o.number = number) :
    ownClaimWithdrawn number s = queueRelease number .withdrawn (showRefusal o.key (s.setOwn none)) := by
  simp [ownClaimWithdrawn, own, phase, number_]

/-- R144, R147: a claim withdrawn in RUNNING with room in the queue: no own record, a refusal shown, the list as it
was, and RELEASE(WITHDRAWN) queued. -/
theorem queueRelease_withdrawn_spec {s : State} (k : KeyId) (number : Byte) (running : s.running = true)
    (room : s.ylc.queue.length < 8) :
    let t := queueRelease number .withdrawn (showRefusal k (s.setOwn none))
    t.fu.own = none ∧ t.fu.claims = s.fu.claims ∧ (t.key k).refusalEnd = some (s.now + 2000) ∧
      t.queued (.release number 2#8) ∧ t.za = s.za := by
  intro t
  have joined : t = joinQueue (.release number 2#8) (showRefusal k (s.setOwn none)) :=
    enqueue_of_room (takesFrame_of_running running) room
  rw [joined]
  refine ⟨rfl, rfl, ?_, ⟨_, List.mem_append_right _ (List.mem_singleton_self _), rfl⟩, rfl⟩
  show ((showRefusal k (s.setOwn none)).key k).refusalEnd = _
  unfold showRefusal
  rw [State.setKey_key_same]
  rfl

/-! ## The agreement round -/

/-- R188: a movement's request for a snapshot leaves the supply state. -/
theorem hourByMovement_supply (s : State) : (hourByMovement s).ds.supply = s.ds.supply := by
  unfold hourByMovement
  split
  · rcases requestSnapshot_cases s with ⟨-, -, -, h⟩ | h <;> rw [h]
  · rfl

/-- R18, R184: a movement notice leaves the supply state. -/
theorem notifyMovement_supply (m : Movement) (s : State) : (notifyMovement m s).ds.supply = s.ds.supply := by
  have moved := (bellsMovement_frame m s).andThen (recomputeAll_frame _)
  have checked : (if (recomputeAll (bellsMovement m s)).taking then checkPhase (recomputeAll (bellsMovement m s))
      else recomputeAll (bellsMovement m s)).ds = s.ds := by
    split
    · exact (moved.andThen (checkPhase_frame _)).part .ds
    · exact moved.part .ds
  unfold notifyMovement
  dsimp only
  split
  · rw [hourByMovement_supply, checked]
  · rw [checked]

/-- R15, R18: the state that the notice of a movement by `amount` to `after` is told in. -/
def State.movedBy (s : State) (after : Nat) (amount : Int) : State :=
  let s1 := adjustSamples amount (s.setSchool (some after) s.tb.standing)
  s1.setYlc { s1.ylc with stamp := s1.ylc.stamp.map fun r => r.moved amount }

/-- R15, R18: a slew or a step is no movement where the range cuts it to 0, and else moves school time, the samples and
the receive stamp, and is told. -/
theorem moveSchool_cases (kind : MovementKind) (amount : Int) (t : Nat) (s : State) :
    (((limitFullTime (t + amount) : Nat) : Int) - t = 0 ∧ moveSchool kind amount t s = s) ∨
    (((limitFullTime (t + amount) : Nat) : Int) - t ≠ 0 ∧
      moveSchool kind amount t s = notifyMovement (movementOf kind t (limitFullTime (t + amount)))
        (s.movedBy (limitFullTime (t + amount)) (((limitFullTime (t + amount) : Nat) : Int) - t))) := by
  unfold moveSchool
  dsimp only
  split
  · rename_i h
    exact .inl ⟨h, rfl⟩
  · rename_i h
    exact .inr ⟨h, rfl⟩

/-- R12 to R16: what a round leaves of the transmit side: the queue and the counts, a held request, and the frames that
the station takes. -/
def State.keepsSending (s t : State) : Prop :=
  t.ylc.queue = s.ylc.queue ∧ t.ylc.counts = s.ylc.counts ∧ t.tb.heldBeacon = s.tb.heldBeacon ∧
    ∀ f, t.takesFrame f = s.takesFrame f

theorem State.keepsSending.trans {s t u : State} (h1 : s.keepsSending t) (h2 : t.keepsSending u) :
    s.keepsSending u := by
  obtain ⟨queue, counts, held, takes⟩ := h1
  obtain ⟨queue', counts', held', takes'⟩ := h2
  exact ⟨queue'.trans queue, counts'.trans counts, held'.trans held, fun f => (takes' f).trans (takes f)⟩

theorem State.setSchool_keepsSending (s : State) (t : Option Nat) (standing : Standing) :
    s.keepsSending (s.setSchool t standing) := ⟨rfl, rfl, rfl, fun _ => rfl⟩

theorem moveSchool_keepsSending (kind : MovementKind) (amount : Int) (t : Nat) (s : State) :
    s.keepsSending (moveSchool kind amount t s) := by
  rcases moveSchool_cases kind amount t s with ⟨-, h⟩ | ⟨-, h⟩
  · rw [h]
    exact ⟨rfl, rfl, rfl, fun _ => rfl⟩
  · rw [h]
    generalize movementOf kind t _ = m
    generalize hu : s.movedBy _ _ = u
    have told := notifyMovement_frame m u
    have ylc : (notifyMovement m u).ylc = u.ylc := told.part .ylc
    have tb : (notifyMovement m u).tb = u.tb := told.part .tb
    have sp : (notifyMovement m u).sp = u.sp := told.part .sp
    have supply := notifyMovement_supply m u
    refine ⟨by rw [ylc, ← hu]; rfl, by rw [ylc, ← hu]; rfl, by rw [tb, ← hu]; rfl, fun f => ?_⟩
    simp only [State.takesFrame, State.running, State.faultValid, sp, supply]
    rw [← hu]
    rfl

theorem agreementRound_keepsSending (s : State) : s.keepsSending (agreementRound s) := by
  unfold agreementRound
  split
  · exact ⟨rfl, rfl, rfl, fun _ => rfl⟩
  · dsimp only
    split
    · exact s.setSchool_keepsSending _ _
    · split
      · exact s.setSchool_keepsSending _ _
      · exact (s.setSchool_keepsSending _ _).trans (moveSchool_keepsSending _ _ _ _)

end Sys2Proof.Machine
end

section
/-! PROOF. TRANSMIT_COMPLETE and COLLISION, one lemma for each kind of frame (R28, R29, R33, R34, R147). -/

namespace Sys2Proof.Machine

-- one declaration at a time, as in the tests: the threads of a whole text's proofs do not fit the memory limit
set_option Elab.async false

/-- The station is up and transmits the selected frame `q`, at the place `i` of the queue. -/
structure State.SendingAt (s : State) (i : Nat) (q : QueuedFrame) : Prop where
  up : s.up = true
  sending : s.transmitting = true
  selected : selectedIndex s.ylc.queue = some i
  at_ : s.ylc.queue[i]? = some q

/-- R33: the state in which SENT is told: the frame has left the queue. -/
def State.afterSent (s : State) (i : Nat) : State := s.afterAttempt (s.ylc.queue.eraseIdx i) s.ylc.counts

/-- R34: the state after a collision before the eighth attempt: the frame stands at its place. -/
def State.afterRetry (s : State) (i : Nat) (q : QueuedFrame) : State :=
  s.afterAttempt (s.ylc.queue.set i { q with attempts := q.attempts + 1, selected := false }) s.ylc.counts

/-- R34: the state in which GIVEN-UP is told: the frame has left the queue and is counted. -/
def State.afterGiveUp (s : State) (i : Nat) : State :=
  s.afterAttempt (s.ylc.queue.eraseIdx i)
    { s.ylc.counts with giveUps := min 65535 (s.ylc.counts.giveUps + 1) }

/-! ## Held requests with nothing in the queue to answer them -/

/-- R29: an ask held for a STATUS-REPLY that has left the queue asks for a new one. -/
theorem heldAsk_asks {a : Station} {p : Byte} {u : State} (held : (a, p) ∈ u.ylc.heldAsks)
    (absent : ∀ x ∈ u.ylc.queue, x.frame ≠ .statusReply a p) (takes : u.takesFrame (.statusReply a p) = true)
    (room : u.ylc.queue.length < 8) :
    releaseHeld (.statusReply a p) u =
      (u.withoutAsk a p).setYlc { (u.withoutAsk a p).ylc with
        queue := u.ylc.queue ++ [QueuedFrame.new (.statusReply a p) u.now] } := by
  rw [releaseHeld_statusReply held, requestReply_of_none (s := u.withoutAsk a p) (find?_of_absent absent)]
  exact enqueue_of_room (s := u.withoutAsk a p) takes room

/-- R28: a BEACON request held for a BEACON that has left the queue asks for a new one. -/
theorem heldBeacon_asks {u : State} (held : u.tb.heldBeacon = true)
    (absent : ∀ x ∈ u.ylc.queue, x.frame ≠ .beacon) (takes : u.takesFrame .beacon = true)
    (room : u.ylc.queue.length < 8) :
    releaseHeld .beacon u =
      u.withoutHeldBeacon.setYlc { u.ylc with queue := u.ylc.queue ++ [QueuedFrame.new .beacon u.now] } := by
  rw [releaseHeld_beacon held, requestBeacon_of_none (s := u.withoutHeldBeacon) (find?_of_absent absent)]
  exact enqueue_of_room (s := u.withoutHeldBeacon) takes room

namespace State.SendingAt

variable {s t : State} {i : Nat} {q : QueuedFrame}

theorem inside (h : s.SendingAt i q) : i < s.ylc.queue.length := (List.getElem?_eq_some_iff.mp h.at_).1

theorem sent (h : s.SendingAt i q) (effect : releaseHeld q.frame (reportSent q.frame (s.afterSent i)) = t)
    (zones : t.za = s.za) : exec .transmitComplete s = .next (endOfStep t) :=
  exec_transmitComplete h.up h.sending h.selected h.at_ effect zones

theorem retried (h : s.SendingAt i q) (early : q.attempts + 1 < 8)
    (effect : releaseHeld q.frame (s.afterRetry i q) = t) (zones : t.za = s.za) :
    exec .collision s = .next (endOfStep t) :=
  exec_collision h.up h.sending h.selected h.at_ ((frameCollided_of_early i s early).trans effect) zones

theorem givenUp (h : s.SendingAt i q) (last : 8 ≤ q.attempts + 1)
    (effect : releaseHeld q.frame (reportLost q.frame (s.afterGiveUp i)) = t) (zones : t.za = s.za) :
    exec .collision s = .next (endOfStep t) :=
  exec_collision h.up h.sending h.selected h.at_ ((frameCollided_of_last i s last).trans effect) zones

/-! ## The own CLAIM -/

/-- R147: what TRANSMIT_COMPLETE of the CLAIM of the claim under way does. -/
theorem sent_claim (h : s.SendingAt i q) {b : ClaimBody} {o : OwnClaim} {n : Station} (claim : q.frame = .claim b)
    (station : s.own = some n) (own : s.fu.own = some o) (phase : o.phase = .claiming)
    (number : o.number = b.number)
    (joined : joinClaim
      { claimant := n, number := b.number, cls := o.cls, targets := o.targets, holdLimit := o.holdLimit,
        windowEnd := s.now + o.window, objected := false } (s.afterSent i) = t)
    (zones : t.za = s.za) : exec .transmitComplete s = .next (endOfStep t) := by
  refine h.sent ?_ zones
  rw [claim]
  exact (claimSent_of_claiming (s := s.afterSent i) own station phase number).trans joined

/-- R147: the CLAIM joins a claim list with room. -/
theorem sent_claim_of_room (h : s.SendingAt i q) {b : ClaimBody} {o : OwnClaim} {n : Station}
    (claim : q.frame = .claim b) (station : s.own = some n) (own : s.fu.own = some o) (phase : o.phase = .claiming)
    (number : o.number = b.number) (new : ∀ e ∈ s.fu.claims, e.claimant ≠ n) (room : s.fu.claims.length < 4) :
    exec .transmitComplete s = .next (endOfStep ((s.afterSent i).setClaims (s.fu.claims ++
      [{ claimant := n, number := o.number, cls := o.cls, targets := o.targets,
         holdLimit := o.holdLimit, windowEnd := s.now + o.window, objected := false }]))) := by
  rw [number]
  exact h.sent_claim claim station own phase number (joinClaim_of_room (s := s.afterSent i) new room) rfl

/-- R144, R147: the CLAIM finds a full list that it does not outrank. -/
theorem sent_claim_of_outranked (h : s.SendingAt i q) {b : ClaimBody} {o : OwnClaim} {n : Station}
    (claim : q.frame = .claim b) (station : s.own = some n) (own : s.fu.own = some o) (phase : o.phase = .claiming)
    (number : o.number = b.number) (bound : s.ylc.queue.length ≤ 8)
    (new : ∀ e ∈ s.fu.claims, e.claimant ≠ n) (full : 4 ≤ s.fu.claims.length) (running : s.running = true)
    (above : ∀ e ∈ s.fu.claims, outranks e.cls e.claimant o.cls n = true) :
    ∃ t, exec .transmitComplete s = .next t ∧ t.fu.own = none ∧ t.fu.claims = s.fu.claims ∧
      (t.key o.key).refusalEnd = some (s.now + 2000) ∧ t.queued (.release o.number 2#8) := by
  obtain ⟨idle, claims, refusal, queued, zones⟩ :=
    queueRelease_withdrawn_spec (s := s.afterSent i) o.key b.number running (room_of_eraseIdx h.inside bound)
  have withdrawn := (joinClaim_of_outranked (s := s.afterSent i)
    (c := { claimant := n, number := b.number, cls := o.cls, targets := o.targets, holdLimit := o.holdLimit,
            windowEnd := s.now + o.window, objected := false }) station new full above).trans
    (ownClaimWithdrawn_of_claiming (s := s.afterSent i) own phase number)
  refine ⟨_, h.sent_claim claim station own phase number withdrawn zones, ?_⟩
  have fu := (endOfStep_frame (queueRelease b.number .withdrawn (showRefusal o.key ((s.afterSent i).setOwn none)))).part
    .fu
  simp only [State.sameIn] at fu
  simp only [State.key, fu, number]
  exact ⟨idle, claims, refusal, (endOfStep_sameFrames _).queued queued⟩

/-! ## Frames that nothing is held for -/

/-- R33: a frame that tells no block when it is sent, and for which nothing is held. -/
theorem sent_quietly (h : s.SendingAt i q) (told : reportSent q.frame (s.afterSent i) = s.afterSent i)
    (beacon : q.frame ≠ .beacon) (reply : ∀ a p, q.frame = .statusReply a p → (a, p) ∉ s.ylc.heldAsks) :
    exec .transmitComplete s = .next (endOfStep (s.afterSent i)) := by
  refine h.sent ?_ rfl
  rw [told]
  exact releaseHeld_of_other (s := s.afterSent i) (fun k => absurd k beacon) reply

/-- R34: a collision of a frame for which nothing is held. -/
theorem retried_quietly (h : s.SendingAt i q) (early : q.attempts + 1 < 8)
    (beacon : q.frame = .beacon → s.tb.heldBeacon = false)
    (reply : ∀ a p, q.frame = .statusReply a p → (a, p) ∉ s.ylc.heldAsks) :
    exec .collision s = .next (endOfStep (s.afterRetry i q)) :=
  h.retried early (releaseHeld_of_other (s := s.afterRetry i q) beacon reply) rfl

/-! ## Held requests -/

/-- R29: an ask held for a STATUS-REPLY that stays in the queue is answered by it. -/
theorem heldAsk_answered (h : s.SendingAt i q) {a : Station} {p : Byte} (reply : q.frame = .statusReply a p)
    (held : (a, p) ∈ s.ylc.heldAsks) (unique : ∀ x ∈ s.ylc.queue.eraseIdx i, x.frame ≠ q.frame) :
    releaseHeld q.frame (s.afterRetry i q) =
      (s.afterRetry i q).withoutAsk a p := by
  rw [reply] at unique
  have found := find?_set_of_unique (r := { q with attempts := q.attempts + 1, selected := false }) h.inside reply
    unique
  rw [reply]
  rw [releaseHeld_statusReply (s := s.afterRetry i q) held]
  exact requestReply_of_waiting (s := (s.afterRetry i q).withoutAsk a p) found rfl

/-- R28: a BEACON request held for a BEACON that stays in the queue is answered by it. -/
theorem heldBeacon_answered (h : s.SendingAt i q) (beacon : q.frame = .beacon) (held : s.tb.heldBeacon = true)
    (unique : ∀ x ∈ s.ylc.queue.eraseIdx i, x.frame ≠ .beacon) :
    releaseHeld q.frame (s.afterRetry i q) =
      (s.afterRetry i q).withoutHeldBeacon := by
  have found := find?_set_of_unique (r := { q with attempts := q.attempts + 1, selected := false }) h.inside beacon
    unique
  rw [beacon]
  rw [releaseHeld_beacon (s := s.afterRetry i q) held]
  exact requestBeacon_of_waiting (s := (s.afterRetry i q).withoutHeldBeacon) found rfl

/-- R28, R33: TRANSMIT_COMPLETE of a BEACON with a request held: the round, and a new BEACON in the queue. -/
theorem sent_beacon_held (h : s.SendingAt i q) (beacon : q.frame = .beacon) (held : s.tb.heldBeacon = true)
    (takes : s.takesFrame .beacon = true) (bound : s.ylc.queue.length ≤ 8)
    (absent : ∀ x ∈ s.ylc.queue.eraseIdx i, x.frame ≠ .beacon) :
    ∃ t, exec .transmitComplete s = .next t ∧ t.tb.heldBeacon = false ∧ t.ylc.counts = s.ylc.counts ∧
      t.ylc.queue.map QueuedFrame.frame = (s.ylc.queue.eraseIdx i).map QueuedFrame.frame ++ [.beacon] := by
  obtain ⟨queue, counts, holds, frames⟩ := agreementRound_keepsSending (s.afterSent i)
  have asks := heldBeacon_asks (u := agreementRound (s.afterSent i)) (holds.trans held)
    (by rw [queue]; exact absent) ((frames _).trans takes) (by rw [queue]; exact room_of_eraseIdx h.inside bound)
  have effect : whileSending frameSent s = releaseHeld .beacon (agreementRound (s.afterSent i)) := by
    rw [whileSending_of_selected h.sending h.selected h.at_, frameSent_eq, beacon]
    rfl
  have same := asOneChange_sameFrames (whileSending frameSent) s
  have tb := ((asOneChange_frame (whileSending frameSent) s).part .tb)
  simp only [State.sameIn] at tb
  refine ⟨_, congrArg Host.Outcome.next (change_of_up h.up), ?_, ?_, ?_⟩
  · rw [tb, effect, asks]
    rfl
  · rw [same.2, effect, asks]
    exact counts
  · rw [same.1, effect, asks]
    show List.map _ (_ ++ _) = _
    rw [queue, List.map_append]
    rfl

end State.SendingAt

/-- Settles O27. -/
theorem attemptEndsSentOrCollided : Obligations.AttemptEndsSentOrCollided := by
  intro s i q up sending selected at_
  have h : s.SendingAt i q := ⟨up, sending, selected, at_⟩
  refine ⟨?_, ?_, ?_, ?_, ?_, ?_, ?_, ?_⟩
  · intro beacon claim reply
    refine h.sent_quietly ?_ beacon fun a p k => absurd k (reply a p)
    unfold reportSent
    split
    · exact absurd ‹_› beacon
    · exact absurd ‹_› (claim _)
    · rfl
  · exact fun b o n claim station own phase number new room =>
      h.sent_claim_of_room claim station own phase number new room
  · exact fun b o n claim station own phase number bound new full running above =>
      h.sent_claim_of_outranked claim station own phase number bound new full running above
  · intro b claim other
    refine h.sent_quietly ?_ (by simp [claim]) (by simp [claim])
    rw [claim]
    exact claimSent_of_other (s := s.afterSent i) other
  · intro a p reply
    refine ⟨fun free => ?_, fun held takes bound unique => ⟨?_, fun early => ?_, fun last => ?_⟩⟩
    · exact h.sent_quietly (by rw [reply]; rfl) (by simp [reply]) (by simpa [reply] using free)
    · rw [reply] at takes unique ⊢
      refine h.sent ?_ rfl
      rw [reply]
      exact heldAsk_asks (u := s.afterSent i) held unique takes (room_of_eraseIdx h.inside bound)
    · exact h.retried early (h.heldAsk_answered reply held unique) rfl
    · rw [reply] at takes unique ⊢
      refine h.givenUp last ?_ rfl
      rw [reply]
      exact heldAsk_asks (u := s.afterGiveUp i) held unique takes (room_of_eraseIdx h.inside bound)
  · intro beacon held takes bound absent
    refine ⟨h.sent_beacon_held beacon held takes bound absent, fun early => ?_, fun last => ?_⟩
    · exact h.retried early (h.heldBeacon_answered beacon held absent) rfl
    · refine h.givenUp last ?_ rfl
      rw [beacon]
      exact heldBeacon_asks (u := s.afterGiveUp i) held absent takes (room_of_eraseIdx h.inside bound)
  · intro b claim
    refine ⟨fun early => h.retried_quietly early (by simp [claim]) (by simp [claim]), fun last => ⟨?_, ?_⟩⟩
    · intro o own phase number
      refine h.givenUp last ?_ rfl
      rw [claim]
      exact claimLost_of_claiming (s := s.afterGiveUp i) own phase number
    · intro other
      refine h.givenUp last ?_ rfl
      rw [claim]
      exact claimLost_of_other (s := s.afterGiveUp i) other
  · intro beacon claim reply
    refine ⟨fun early => h.retried_quietly early beacon reply, fun last => h.givenUp last ?_ rfl⟩
    have quiet : reportLost q.frame (s.afterGiveUp i) = s.afterGiveUp i := by
      unfold reportLost
      split
      · exact absurd ‹_› (claim _)
      · rfl
    rw [quiet]
    exact releaseHeld_of_other (s := s.afterGiveUp i) beacon reply

end Sys2Proof.Machine
end

section
/-! PROOF. The agreement round at an own BEACON (R12 to R16): what it makes of school time and of the samples. -/

namespace Sys2Proof.Machine

-- one declaration at a time, as in the tests: the threads of a whole text's proofs do not fit the memory limit
set_option Elab.async false

/-! ## The movement of a correction -/

/-- R1: a time held within the range, as an integer. -/
theorem limitFullTime_eq (t : Int) : ((limitFullTime t : Nat) : Int) = max 0 (min 5662310399999 t) := by
  simp only [limitFullTime, clampInt, Config.maxFullTime]
  omega

/-- R15: the amount that a correction `c` moves school time by at `x`, before the range cuts it. -/
def amountOf (c : Int) (stepThreshold slewLimit : Nat) : Int :=
  match callsFor c stepThreshold slewLimit with
  | none => 0
  | some (_, a) => a

/-- R15: no movement, a step by the correction, or a slew by the correction cut to the slew limit. -/
theorem amountOf_cases (c : Int) (stepThreshold slewLimit : Nat) :
    (c.natAbs ≤ 1 → amountOf c stepThreshold slewLimit = 0) ∧
    (2 ≤ c.natAbs → stepThreshold ≤ c.natAbs → amountOf c stepThreshold slewLimit = c) ∧
    (2 ≤ c.natAbs → c.natAbs < stepThreshold →
      amountOf c stepThreshold slewLimit = max (-(slewLimit : Int)) (min slewLimit c)) := by
  unfold amountOf callsFor
  refine ⟨fun small => ?_, fun large step => ?_, fun large slew => ?_⟩
  · rw [if_pos small]
  · rw [if_neg (by omega), if_pos step]
  · rw [if_neg (by omega), if_neg (by omega)]
    rfl

/-- R1, R15: the amount that is applied to school time at `x`: the movement of the correction, within the range. -/
def appliedAt (x : Nat) (amount : Int) : Int := max 0 (min 5662310399999 ((x : Int) + amount)) - x

theorem appliedAt_eq (x : Nat) (amount : Int) : appliedAt x amount = (limitFullTime (x + amount) : Nat) - (x : Int) := by
  rw [limitFullTime_eq]
  rfl

theorem appliedAt_zero {x : Nat} (range : x ≤ 5662310399999) : appliedAt x 0 = 0 := by
  unfold appliedAt
  omega

theorem limitFullTime_of_applied (x : Nat) (amount : Int) :
    limitFullTime (x + amount) = ((x : Int) + appliedAt x amount).toNat := by
  rw [appliedAt_eq]
  omega

/-! ## The samples -/

/-- R16: the entries after `amount` was applied to school time; with nothing applied they stand. -/
def State.peersMovedBy (s : State) (amount : Int) : Vector PeerEntry 30 :=
  if amount = 0 then s.pt else s.pt.map fun e => e.adjusted s.now (3 * s.beaconMs) amount

/-- R16: a fresh sample is decreased by the amount applied, saturated. -/
theorem adjusted_of_fresh {e : PeerEntry} {y : Sample} {now threeB : Nat} {amount : Int} (sample : e.sample = some y)
    (present : e.state = .present) (fresh : now < y.takenAt + threeB) :
    e.adjusted now threeB amount =
      { e with sample := some { y with offset := saturateSample (y.offset - amount) } } := by
  have held : e.fresh? now threeB = some y := by
    simp [PeerEntry.fresh?, sample, present, Option.filter, fresh]
  unfold PeerEntry.adjusted
  rw [held]

/-- R16: an entry with no fresh sample stands. -/
theorem adjusted_of_stale {e : PeerEntry} {now threeB : Nat} {amount : Int}
    (stale : e.sample = none ∨ e.state ≠ .present ∨ ∃ y, e.sample = some y ∧ y.takenAt + threeB ≤ now) :
    e.adjusted now threeB amount = e := by
  have none_ : e.fresh? now threeB = none := by
    unfold PeerEntry.fresh?
    rcases stale with no | absent | ⟨y, sample, old⟩
    · simp [no]
    · simp [absent]
    · simp [sample, old]
  unfold PeerEntry.adjusted
  rw [none_]

/-- R16: what becomes of the entry of one station. -/
theorem peersMovedBy_get (s : State) (amount : Int) (n : Station) :
    (s.peersMovedBy amount)[n] =
      if amount = 0 then s.peer n else (s.peer n).adjusted s.now (3 * s.beaconMs) amount := by
  unfold State.peersMovedBy
  split
  · rfl
  · exact Vector.getElem_map _ _

/-! ## The round -/

/-- R15, R16: what a slew or a step leaves of the Time Base and of the entries. -/
theorem moveSchool_spec (kind : MovementKind) (amount : Int) {x : Nat} {s : State} (school : s.school = some x) :
    (moveSchool kind amount x s).tb = { s.tb with fullTime := some ((x : Int) + appliedAt x amount).toNat } ∧
    (moveSchool kind amount x s).pt = s.peersMovedBy (appliedAt x amount) := by
  rcases moveSchool_cases kind amount x s with ⟨still, h⟩ | ⟨moved, h⟩
  · rw [← appliedAt_eq] at still
    rw [h, still, State.peersMovedBy, if_pos rfl, add_zero, Int.toNat_natCast, ← school]
    exact ⟨rfl, rfl⟩
  · rw [← appliedAt_eq] at moved h
    rw [h, limitFullTime_of_applied]
    have told := notifyMovement_frame
      (movementOf kind x ((x : Int) + appliedAt x amount).toNat)
      (s.movedBy ((x : Int) + appliedAt x amount).toNat (appliedAt x amount))
    have tb := told.part .tb
    have pt := told.part .pt
    simp only [State.sameIn] at tb pt
    rw [tb, pt, State.peersMovedBy, if_neg moved]
    exact ⟨rfl, rfl⟩

/-- R13 to R16: a round that holds a peer sample. -/
theorem agreementRound_spec {s : State} {x : Nat} (school : s.school = some x) (range : x ≤ 5662310399999)
    (peers : (eligibleSet s.freshSamples).1 ≠ []) :
    let e := eligibleSet s.freshSamples
    let c := correctionOf (if e.2 then e.1 ++ [0] else e.1)
    let a := appliedAt x (amountOf c s.tb.stepThreshold s.tb.slewLimit)
    (agreementRound s).tb = { s.tb with standing := .agreed, fullTime := some ((x : Int) + a).toNat } ∧
    (agreementRound s).pt = s.peersMovedBy a := by
  intro e c a
  have held : (eligibleSet s.freshSamples).1.isEmpty = false := by simpa using peers
  have round : agreementRound s =
      match callsFor c s.tb.stepThreshold s.tb.slewLimit with
      | none => s.setSchool (some x) .agreed
      | some (kind, amount) => moveSchool kind amount x (s.setSchool (some x) .agreed) := by
    unfold agreementRound
    rw [school]
    simp only [held]
    rfl
  rw [round]
  cases calls : callsFor c s.tb.stepThreshold s.tb.slewLimit with
  | none =>
    have still : a = 0 := by
      simp only [a, amountOf, calls]
      exact appliedAt_zero range
    rw [still, State.peersMovedBy, if_pos rfl, add_zero, Int.toNat_natCast]
    exact ⟨rfl, rfl⟩
  | some move =>
    obtain ⟨kind, amount⟩ := move
    have amount_ : a = appliedAt x amount := by simp only [a, amountOf, calls]
    rw [amount_]
    exact moveSchool_spec kind amount (s := s.setSchool (some x) .agreed) rfl

/-! ## TRANSMIT_COMPLETE of an own BEACON -/

/-- R12: with no request held, TRANSMIT_COMPLETE of an own BEACON is the round, which the end of the step leaves in the
Time Base and in the entries. -/
theorem State.SendingAt.sent_beacon {s : State} {i : Nat} {q : QueuedFrame} (h : s.SendingAt i q)
    (beacon : q.frame = .beacon) (held : s.tb.heldBeacon = false) :
    ∃ t, exec .transmitComplete s = .next t ∧ t.tb = (agreementRound (s.afterSent i)).tb ∧
      t.pt = (agreementRound (s.afterSent i)).pt := by
  obtain ⟨-, -, holds, -⟩ := agreementRound_keepsSending (s.afterSent i)
  have effect : whileSending frameSent s = agreementRound (s.afterSent i) := by
    rw [whileSending_of_selected h.sending h.selected h.at_, frameSent_eq, beacon]
    exact releaseHeld_of_other (s := agreementRound (s.afterSent i)) (fun _ => holds.trans held) (by simp)
  have frame := asOneChange_frame (whileSending frameSent) s
  rw [effect] at frame
  exact ⟨_, congrArg Host.Outcome.next (change_of_up h.up), frame.part .tb, frame.part .pt⟩

/-- Settles O25. -/
theorem roundAppliesASlewOrAStep : Obligations.RoundAppliesASlewOrAStep := by
  intro s x i q up sending school range held selected at_ beacon
  have h : s.SendingAt i q := ⟨up, sending, selected, at_⟩
  obtain ⟨t, run, tb, pt⟩ := h.sent_beacon beacon held
  refine ⟨t, run, fun alone => ?_, fun peers => ?_⟩
  · rw [tb, pt, agreementRound_of_none (s := s.afterSent i) school alone]
    refine ⟨?_, rfl⟩
    show ({ s.tb with fullTime := some x, standing := .free } : TimeBase) = _
    rw [← school]
    rfl
  · obtain ⟨tb', pt'⟩ := agreementRound_spec (s := s.afterSent i) school range peers
    have fresh : (s.afterSent i).freshSamples = s.freshSamples := rfl
    rw [fresh] at tb' pt'
    generalize (correctionOf (if (eligibleSet s.freshSamples).2 then (eligibleSet s.freshSamples).1 ++ [0]
      else (eligibleSet s.freshSamples).1)) = c at *
    obtain ⟨small, step, slew⟩ := amountOf_cases c s.tb.stepThreshold s.tb.slewLimit
    rw [tb, tb']
    refine ⟨appliedAt x (amountOf c s.tb.stepThreshold s.tb.slewLimit), rfl, rfl, ?_, fun h => ?_, fun h1 h2 => ?_,
      fun h1 h2 => ?_, fun n => ?_⟩
    · unfold appliedAt
      omega
    · rw [small h, appliedAt_zero range]
    · rw [step h1 h2]
      rfl
    · rw [slew h1 h2]
      rfl
    · have entry : t.peer n = (s.peersMovedBy (appliedAt x (amountOf c s.tb.stepThreshold s.tb.slewLimit)))[n] := by
        unfold State.peer
        rw [pt, pt']
        rfl
      rw [peersMovedBy_get] at entry
      refine ⟨fun y sample present fresh moved => ?_, fun stands => ?_⟩
      · rw [entry, if_neg moved]
        exact adjusted_of_fresh sample present fresh
      · rw [entry]
        split
        · rfl
        · rename_i moved
          exact adjusted_of_stale (stands.resolve_left moved)

end Sys2Proof.Machine
end

section
/-! PROOF. Access to the line (R7, R23, R32, R33, R37, R42, R44): QUIET, a start bit, the start of a transmission, and
the body of a BEACON. -/

namespace Sys2Proof.Machine

-- one declaration at a time, as in the tests: the threads of a whole text's proofs do not fit the memory limit
set_option Elab.async false

/-! ## A start bit -/

/-- R37, R38: the receive side after a character, by whether the station transmits. -/
def YardLine.tookIn (y : YardLine) (character : Byte) (transmitting : Bool) : YardLine :=
  if y.receive.lengthFault character then
    if transmitting then y.hunt else y.hunt.countCrcError
  else { y with receive := y.receive.afterCharacter character }

/-- R37, R38: what a character taken in does. -/
theorem takeCharacter_eq (character : Byte) (s : State) :
    takeCharacter character s = s.setYlc (s.ylc.tookIn character s.transmitting) := by
  unfold YardLine.tookIn
  rcases takeCharacter_cases character s with ⟨fault, silent, h⟩ | ⟨fault, sending, h⟩ | ⟨fine, h⟩
  · rw [h, fault, silent]
    rfl
  · rw [h, fault, sending]
    rfl
  · rw [h, fine]
    rfl

/-- R23, R32: a start bit during a countdown keeps the slots not counted. -/
theorem setBusy_of_countdown {counted k : Nat} {s : State} (quiet : s.ylc.busy = false)
    (waiting : s.ylc.attempt = .waiting k) :
    setBusy counted s = s.setYlc { s.ylc with busy := true, attempt := .waiting (k - counted) } := by
  rw [setBusy_eq]
  simp [State.countingDown, quiet, waiting]

/-- R23: a start bit outside a countdown sets BUSY alone. -/
theorem setBusy_of_none {counted : Nat} {s : State}
    (none_ : s.ylc.busy = true ∨ ∀ k, s.ylc.attempt ≠ .waiting k) :
    setBusy counted s = s.setYlc { s.ylc with busy := true } := by
  have counting : s.countingDown = false := by
    unfold State.countingDown
    rcases none_ with busy | idle
    · simp [busy]
    · split
      · exact absurd ‹_› (idle _)
      · simp
      · simp
  rw [setBusy_eq, counting]

/-- R23, R37: START_BIT_SEEN, by what the start bit does to the line. -/
theorem exec_startBitSeen {bit : StartBit} {s : State} {y : YardLine} (up : s.up = true)
    (busy : setBusy bit.counted s = s.setYlc y) :
    exec (.startBitSeen bit) s = .next (endOfStep (s.setYlc (y.tookIn bit.character s.transmitting))) := by
  refine change_eq_endOfStep up ?_ rfl
  have sending := setBusy_transmitting bit.counted s
  unfold startBit
  rw [takeCharacter_eq, sending, busy]
  rfl

/-! ## The start of a transmission -/

/-- R44: the frame is a STATUS-REPLY. -/
def OutFrame.isReply (f : OutFrame) : Bool :=
  match f with
  | .statusReply _ _ => true
  | _ => false

/-- R44: the mark of the frame whose transmission begins, and the flag. -/
theorem takeInvert_eq {i : Nat} {q : QueuedFrame} {s : State} (at_ : s.ylc.queue[i]? = some q) :
    takeInvert i q s = s.setYlc { s.ylc with
      queue := s.ylc.queue.set i { q with inverted := q.inverted || (q.frame.isReply && s.ylc.invertNext) }
      invertNext := s.ylc.invertNext && !q.frame.isReply } := by
  have stands : s.ylc.queue.set i q = s.ylc.queue := by
    obtain ⟨inside, rfl⟩ := List.getElem?_eq_some_iff.mp at_
    exact List.set_getElem_self inside
  have still : s.setYlc s.ylc = s := rfl
  unfold takeInvert
  split
  · rename_i frame
    have reply : q.frame.isReply = true := by
      rw [frame]
      rfl
    rw [reply]
    by_cases flag : s.ylc.invertNext = true
    · rw [if_pos flag, flag, Bool.and_true, Bool.or_true]
      rfl
    · rw [Bool.not_eq_true] at flag
      rw [flag, if_neg (by simp), Bool.and_false, Bool.or_false, stands, Bool.false_and, ← flag, still]
  · rename_i other
    have plain : q.frame.isReply = false := by
      unfold OutFrame.isReply
      split
      · exact absurd ‹_› (other _ _)
      · rfl
    rw [plain, Bool.false_and, Bool.or_false, stands, Bool.not_false, Bool.and_true, still]

/-- R6, R33, R44: the transmission of the selected frame begins. -/
theorem beginTransmission_eq {i : Nat} {q : QueuedFrame} {n : Station} {s : State} (own : s.own = some n)
    (selected : selectedIndex s.ylc.queue = some i) (at_ : s.ylc.queue[i]? = some q) :
    beginTransmission s =
      s.setYlc { s.ylc with
        busy := true
        attempt := .sending (frameChars q.frame.kind (stationByte n) (s.frameBody q.frame)
          (q.inverted || (q.frame.isReply && s.ylc.invertNext)))
        queue := s.ylc.queue.set i
          { q with inverted := q.inverted || (q.frame.isReply && s.ylc.invertNext) }
        invertNext := s.ylc.invertNext && !q.frame.isReply
        sendIndex := s.ylc.sendIndex + 1 } := by
  have inside := (List.getElem?_eq_some_iff.mp at_).1
  unfold beginTransmission
  rw [selected]
  simp only [at_]
  rw [takeInvert_eq at_, own]
  simp [State.setYlc, inside]

/-- R32: the line that becomes QUIET ends an access wait with no slot left. -/
theorem lineQuiet_of_due {s : State} (due : s.ylc.attempt = .waiting 0) :
    lineQuiet s = beginTransmission (s.setYlc { s.ylc with busy := false }) :=
  if_pos due

/-- R23: otherwise the line that becomes QUIET is QUIET and nothing else. -/
theorem lineQuiet_of_waiting {s : State} (slots : s.ylc.attempt ≠ .waiting 0) :
    lineQuiet s = s.setYlc { s.ylc with busy := false } :=
  if_neg slots

/-! ## The body of a BEACON -/

/-- The mask of the lines that a test holds of is empty only where it holds of none. -/
theorem foldl_lineBit_eq_zero_iff (p : LineId → Bool) (lines : List LineId) (mask : LineMask) :
    lines.foldl (fun mask l => if p l then mask ||| lineBit l else mask) mask = 0#16 ↔
      mask = 0#16 ∧ ∀ l ∈ lines, p l = false := by
  have bit : ∀ l : LineId, lineBit l ≠ 0#16 := by decide
  induction lines generalizing mask with
  | nil => simp
  | cons l rest ih =>
    rw [List.foldl_cons]
    refine (ih _).trans ?_
    cases h : p l
    · simp [h]
    · simp [h, BitVec.or_eq_zero_iff, bit l]

/-- R6, R98: the line fault mask names no line exactly where none is OPEN or SHORT. -/
theorem faultMask_eq_zero_iff (s : State) :
    s.faultMask = 0#16 ↔ ¬∃ l : LineId, (s.line l).cls = .opened ∨ (s.line l).cls = .shorted := by
  have faulted (c : LineClass) : c.faulted = false ↔ ¬(c = .opened ∨ c = .shorted) := by
    cases c <;> simp [LineClass.faulted]
  rw [State.faultMask, linesWith]
  refine (foldl_lineBit_eq_zero_iff _ _ _).trans ?_
  simp [faulted, allLines]

/-- R6, R181: the flags of a BEACON. -/
theorem beaconBody_flags (s : State) [Decidable (∃ l : LineId, (s.line l).cls = .opened ∨ (s.line l).cls = .shorted)] :
    s.beaconBody.flags =
      if s.sp.config = .configFault then 2
      else (if s.dru.contact = true then 1 else 0) |||
        (if ∃ l : LineId, (s.line l).cls = .opened ∨ (s.line l).cls = .shorted then 4 else 0) := by
  show beaconFlags _ _ _ = _
  unfold beaconFlags
  by_cases fault : s.sp.config = .configFault
  · simp [fault]
  · have mask := faultMask_eq_zero_iff s
    by_cases line : ∃ l : LineId, (s.line l).cls = .opened ∨ (s.line l).cls = .shorted
    · have named : s.faultMask ≠ 0#16 := fun empty => mask.mp empty line
      rw [if_pos line]
      simp [fault, named]
    · rw [if_neg line]
      simp [fault, mask.mpr line]

/-- R6, R157: the floor fields of a BEACON, 5 bytes. -/
def floorBytes (b : BeaconBody) : List Byte :=
  [b.floorHolder, b.floorNumber, b.floorClass] ++ halfBytes b.holdRemaining

/-- R6, R180: the drill fields of a BEACON, 23 bytes. -/
def drillBytes (b : BeaconBody) : List Byte :=
  [b.drillInitiator, b.drillNumber] ++ halfBytes b.drillStartDay ++ quadBytes b.drillStartMs ++ [b.drillPhase] ++
    halfBytes b.evacuationLimit ++ halfBytes b.soundLimit ++ quadBytes b.expectedSet ++ quadBytes b.reportedSet ++
    halfBytes b.ownMuster

/-- R6: the body of a BEACON, field by field. -/
theorem beaconBytes_eq (b : BeaconBody) :
    beaconBytes b =
      halfBytes b.stampDay ++ quadBytes b.stampMs ++ [b.standing, b.flags] ++ floorBytes b ++ drillBytes b := by
  simp [beaconBytes, floorBytes, drillBytes]

/-- R7: the stamp of a BEACON, one or two ms on. -/
theorem beaconBody_stamp {s : State} {x : Nat} (school : s.school = some x) :
    ∃ y, (y = x + 1 ∨ y = x + 2) ∧
      s.beaconBody.stampDay = BitVec.ofNat 16 (min y 5662310399999 / 86400000) ∧
      s.beaconBody.stampMs = BitVec.ofNat 32 (min y 5662310399999 % 86400000) := by
  refine ⟨x + if Config.secondCount s.ylc.sendIndex then 2 else 1, ?_, ?_⟩
  · split
    · exact .inr rfl
    · exact .inl rfl
  · simp only [State.beaconBody, State.delimiterTime, school]
    exact ⟨rfl, rfl⟩

/-- R6: with no floor to report, and in CONFIG-FAULT, the floor fields are 0. -/
theorem beaconBody_floor_of_none {s : State} (h : s.sp.config = .configFault ∨ s.fu.view = none) :
    floorBytes s.beaconBody = List.replicate 5 0#8 := by
  have nothing : (if s.sp.config == .configFault then none else s.fu.view) = none := by
    rcases h with fault | free
    · simp [fault]
    · simp [free]
  simp only [State.beaconBody, floorBytes, nothing, Option.map_none, Option.getD_none]
  decide

/-- R157: the floor fields of a HELD view. -/
theorem beaconBody_floor_of_view {s : State} {v : FloorView} (config : s.sp.config ≠ .configFault)
    (view : s.fu.view = some v) :
    floorBytes s.beaconBody =
      [stationByte v.holder, v.number, classByte v.cls] ++
        halfBytes (BitVec.ofNat 16 ((v.holdEnd - s.now + 999) / 1000)) := by
  have shown : (if s.sp.config == .configFault then none else s.fu.view) = some v := by
    simp [config, view]
  simp only [State.beaconBody, floorBytes, shown]
  rfl

/-- R6: with no drill to report, and in CONFIG-FAULT, the drill fields are 0 and the muster elapsed 0xFFFF. -/
theorem beaconBody_drill_of_none {s : State} (h : s.sp.config = .configFault ∨ s.dru.record = none) :
    drillBytes s.beaconBody = List.replicate 21 0#8 ++ [0xFF#8, 0xFF#8] := by
  have nothing : (if s.sp.config == .configFault then none else s.dru.record) = none := by
    rcases h with fault | none_
    · simp [fault]
    · simp [none_]
  simp only [State.beaconBody, drillBytes, nothing]
  rfl

/-- R180: the drill fields of a record. -/
theorem beaconBody_drill_of_record {s : State} {r : DrillRecord} {n : Station} (config : s.sp.config ≠ .configFault)
    (record : s.dru.record = some r) (own : s.own = some n) :
    drillBytes s.beaconBody =
      [stationByte r.initiator, r.number] ++ halfBytes (BitVec.ofNat 16 (r.start / 86400000)) ++
        quadBytes (BitVec.ofNat 32 (r.start % 86400000)) ++ [BitVec.ofNat 8 (phaseCode r.phase)] ++
        halfBytes (BitVec.ofNat 16 r.evacuationLimit) ++ halfBytes (BitVec.ofNat 16 r.soundLimit) ++
        quadBytes r.expected ++ quadBytes r.reported ++ halfBytes (BitVec.ofNat 16 (r.muster[n].getD 65535)) := by
  have shown : (if s.sp.config == .configFault then none else s.dru.record) = some r := by
    simp [config, record]
  simp only [State.beaconBody, drillBytes, shown, own]
  rfl

/-- Settles O28. -/
theorem accessToTheLine : Obligations.AccessToTheLine := by
  intro s bit up received lengthFault heard
  have received_eq : received = s.ylc.receive.afterCharacter bit.character := by
    simp only [received]
    cases s.ylc.receive <;> rfl
  have fault_eq : lengthFault = s.ylc.receive.lengthFault bit.character := by
    simp only [lengthFault]
    cases s.ylc.receive <;> simp [ReceiveState.lengthFault]
  have heard_eq (y : YardLine) (same : y.receive = s.ylc.receive) :
      heard y = y.tookIn bit.character s.transmitting := by
    simp only [heard, YardLine.tookIn, same, fault_eq, received_eq]
    split
    · split <;> rfl
    · rfl
  refine ⟨fun busy silent slots => ?_, fun k quiet waiting => ?_, fun none_ => ?_, fun x school => beaconBody_stamp school,
    fun unset => ?_, ?_, ?_⟩
  · refine change_eq_endOfStep up ?_ rfl
    show (if (s.ylc.busy && !s.transmitting) = true then lineQuiet s else s) = _
    rw [busy, silent, if_pos (by rfl)]
    exact lineQuiet_of_waiting slots
  · rw [heard_eq { s.ylc with busy := true, attempt := .waiting (k - bit.counted) } rfl]
    exact exec_startBitSeen up (setBusy_of_countdown quiet waiting)
  · rw [heard_eq { s.ylc with busy := true } rfl]
    exact exec_startBitSeen up (setBusy_of_none none_)
  · simp only [State.beaconBody, State.delimiterTime, unset]
    exact ⟨rfl, rfl⟩
  · refine ⟨floorBytes s.beaconBody, drillBytes s.beaconBody, ?_, beaconBody_floor_of_none, fun v config view => ?_,
      beaconBody_drill_of_none, fun r n config record own => ?_⟩
    · show beaconBytes s.beaconBody = _
      rw [beaconBytes_eq, beaconBody_flags s]
      have standing : s.beaconBody.standing = BitVec.ofNat 8 (standingCode s.tb.standing) := rfl
      rw [standing]
      cases s.tb.standing <;> rfl
    · rw [beaconBody_floor_of_view config view]
      cases v.cls <;> rfl
    · rw [beaconBody_drill_of_record config record own]
      cases r.phase <;> rfl
  · intro i q n c own selected at_ which reply inverted
    rcases which with ⟨rfl, quiet, k, waiting⟩ | ⟨rfl, busy, waiting⟩
    · refine change_eq_endOfStep up ?_ rfl
      rw [if_pos (by simp [State.countingDown, quiet, waiting])]
      exact beginTransmission_eq own selected at_
    · refine change_eq_endOfStep up ?_ rfl
      rw [if_pos (by simp [State.transmitting, busy, waiting])]
      refine (lineQuiet_of_due waiting).trans ?_
      exact beginTransmission_eq (s := s.setYlc { s.ylc with busy := false }) own selected at_

end Sys2Proof.Machine
end

section
/-! PROOF. What the recomputes, the arbiter and the examination of entries leave of the clock records, the classes of
the lines and the zones, and what they do not do in a station that is not RUNNING. -/

namespace Sys2Proof.Machine

-- one declaration at a time, as in the tests: the threads of a whole text's proofs do not fit the memory limit
set_option Elab.async false

/-! ## Writes that change nothing -/

theorem State.setSlot_self (s : State) (i : SlotId) : s.setSlot i (s.slot i) = s := by
  simp [State.setSlot, State.slot]

theorem State.setZone_self (s : State) (z : ZoneId) : s.setZone z (s.zone z) = s := by
  simp [State.setZone, State.zone]

theorem State.setSlot_setSlot (s : State) (i : SlotId) (a b : DialSlot) :
    (s.setSlot i a).setSlot i b = s.setSlot i b := by
  simp [State.setSlot]

theorem State.slot_of_du {s t : State} (h : s.sameIn t .du) (i : SlotId) : t.slot i = s.slot i := by
  simp only [State.sameIn] at h
  simp [State.slot, h]

theorem State.line_of_dsq {s t : State} (h : s.sameIn t .dsq) (l : LineId) : t.line l = s.line l := by
  simp only [State.sameIn] at h
  simp [State.line, h]

theorem State.zone_of_za {s t : State} (h : s.sameIn t .za) (z : ZoneId) : t.zone z = s.zone z := by
  simp only [State.sameIn] at h
  simp [State.zone, h]

/-! ## Clock records -/

/-- The binding, the position and the polarity of two slots are the same. -/
def DialSlot.sameDial (a b : DialSlot) : Prop :=
  b.line = a.line ∧ b.modulus = a.modulus ∧ b.dial = a.dial ∧ b.polarity = a.polarity

/-- So are the state and the dial difference. -/
def DialSlot.sameRecord (a b : DialSlot) : Prop :=
  a.sameDial b ∧ b.state = a.state ∧ b.difference = a.difference

theorem DialSlot.sameDial.trans {a b c : DialSlot} (h1 : a.sameDial b) (h2 : b.sameDial c) : a.sameDial c := by
  obtain ⟨line, modulus, dial, polarity⟩ := h1
  obtain ⟨line', modulus', dial', polarity'⟩ := h2
  exact ⟨line'.trans line, modulus'.trans modulus, dial'.trans dial, polarity'.trans polarity⟩

theorem DialSlot.sameRecord.trans {a b c : DialSlot} (h1 : a.sameRecord b) (h2 : b.sameRecord c) :
    a.sameRecord c :=
  ⟨h1.1.trans h2.1, h2.2.1.trans h1.2.1, h2.2.2.trans h1.2.2⟩

theorem DialSlot.sameRecord_refl (a : DialSlot) : a.sameRecord a := ⟨⟨rfl, rfl, rfl, rfl⟩, rfl, rfl⟩

theorem DialSlot.sameRecord_of_eq {a b : DialSlot} (h : b = a) : a.sameRecord b := h ▸ a.sameRecord_refl

/-- A slot rewritten with its record keeps every record. -/
theorem State.setSlot_sameRecord {s : State} {i : SlotId} {r : DialSlot} (same : (s.slot i).sameRecord r)
    (j : SlotId) : (s.slot j).sameRecord ((s.setSlot i r).slot j) := by
  by_cases e : j = i
  · subst e
    rw [State.setSlot_slot_same]
    exact same
  · rw [State.setSlot_slot_ne _ _ _ _ e]
    exact DialSlot.sameRecord_refl _

/-- R64: an impulse that is requested is written in the impulse field alone. -/
theorem tryImpulse_du (i : SlotId) (s : State) :
    ∃ impulse, (tryImpulse i s).du = (s.setSlot i { s.slot i with impulse }).du := by
  have stands : (s.setSlot i { s.slot i with impulse := (s.slot i).impulse }).du = s.du :=
    congrArg State.du (s.setSlot_self i)
  unfold tryImpulse
  dsimp only
  split
  · exact ⟨_, stands.symm⟩
  · split
    · split <;> rename_i asked
      · have du := (requestLine_frame_of asked).part .du
        simp only [State.sameIn] at du
        exact ⟨.waiting, by simp only [State.setSlot, du]⟩
      · exact ⟨_, ((requestLine_frame_of asked).part .du).trans stands.symm⟩
    · exact ⟨_, stands.symm⟩

/-- R61 to R63: a recompute writes the state and the dial difference of its own record, by R62, and its impulse field. -/
theorem recompute_du {i : SlotId} {l : LineId} {s : State} (line : (s.slot i).line = some l) :
    ∃ impulse, (recompute i s).du =
      (s.setSlot i { s.slot i with
        state := (dialVerdict s.school (s.slot i).dial (s.slot i).modulus s.du.holdWindow
          (s.line l).cls.faulted).1
        difference := (dialVerdict s.school (s.slot i).dial (s.slot i).modulus s.du.holdWindow
          (s.line l).cls.faulted).2
        impulse }).du := by
  unfold recompute
  rw [line]
  dsimp only
  generalize dialVerdict _ _ _ _ _ = v
  split
  · obtain ⟨impulse, du⟩ := tryImpulse_du i
      (s.setSlot i { s.slot i with state := v.1, difference := v.2 })
    rw [State.setSlot_slot_same, State.setSlot_setSlot] at du
    exact ⟨impulse, du⟩
  · exact ⟨_, rfl⟩
  · split
    · exact ⟨_, rfl⟩
    · split <;> rename_i withdrawn
      · have du := (withdrawRequest_frame_of withdrawn).part .du
        simp only [State.sameIn] at du
        refine ⟨.none, ?_⟩
        simp [State.setSlot, du]
      · exact ⟨_, (withdrawRequest_frame_of withdrawn).part .du⟩

/-- R63: a slot with no bound line holds no record. -/
theorem recompute_of_unbound {i : SlotId} {s : State} (line : (s.slot i).line = none) : recompute i s = s := by
  unfold recompute
  rw [line]

/-- R61 to R63: a recompute leaves every other slot. -/
theorem recompute_other {i j : SlotId} (h : j ≠ i) (s : State) : (recompute i s).slot j = s.slot j := by
  cases line : (s.slot i).line with
  | none => rw [recompute_of_unbound line]
  | some l =>
    obtain ⟨impulse, du⟩ := recompute_du line
    rw [State.slot_of_du (t := recompute i s) du, State.setSlot_slot_ne _ _ _ _ h]

/-- R63: a recompute leaves the binding, the position and the polarity of every slot. -/
theorem recompute_sameDial (i j : SlotId) (s : State) : (s.slot j).sameDial ((recompute i s).slot j) := by
  by_cases e : j = i
  · subst e
    cases line : (s.slot j).line with
    | none =>
      rw [recompute_of_unbound line]
      exact ⟨rfl, rfl, rfl, rfl⟩
    | some l =>
      obtain ⟨impulse, du⟩ := recompute_du line
      rw [State.slot_of_du (t := recompute j s) du, State.setSlot_slot_same]
      exact ⟨rfl, rfl, rfl, rfl⟩
  · rw [recompute_other e]
    exact ⟨rfl, rfl, rfl, rfl⟩

/-- R60: a recompute leaves the settings of the Dial Unit. -/
theorem recompute_holdWindow (i : SlotId) (s : State) :
    (recompute i s).du.holdWindow = s.du.holdWindow := by
  cases line : (s.slot i).line with
  | none => rw [recompute_of_unbound line]
  | some l =>
    obtain ⟨impulse, du⟩ := recompute_du line
    rw [du]
    rfl

/-! ## Classes of lines -/

/-- Every line keeps its kind and its class. -/
def State.keepsClasses (s t : State) : Prop :=
  ∀ l : LineId, (t.line l).kind = (s.line l).kind ∧ (t.line l).cls = (s.line l).cls

theorem State.keepsClasses_refl (s : State) : s.keepsClasses s := fun _ => ⟨rfl, rfl⟩

theorem State.keepsClasses.trans {s t u : State} (h1 : s.keepsClasses t) (h2 : t.keepsClasses u) :
    s.keepsClasses u :=
  fun l => ⟨(h2 l).1.trans (h1 l).1, (h2 l).2.trans (h1 l).2⟩

theorem State.setLine_keepsClasses {s : State} {l : LineId} {r : LineRecord} (kind : r.kind = (s.line l).kind)
    (cls : r.cls = (s.line l).cls) : s.keepsClasses (s.setLine l r) := by
  intro m
  by_cases e : m = l
  · subst e
    rw [State.setLine_line_same]
    exact ⟨kind, cls⟩
  · rw [State.setLine_line_ne _ _ _ _ e]
    exact ⟨rfl, rfl⟩

theorem requestLine_keepsClasses {l : LineId} {q : EnergizeRequest} {s t : State} {b : Bool}
    (asked : requestLine l q s = (t, b)) : s.keepsClasses t := by
  rcases requestLine_cases l q s with ⟨-, -, h⟩ | ⟨-, h⟩ <;> rw [h] at asked <;> cases asked
  · exact State.setLine_keepsClasses rfl rfl
  · exact s.keepsClasses_refl

theorem withdrawRequest_keepsClasses {l : LineId} {i : SlotId} {s t : State} {b : Bool}
    (withdrawn : withdrawRequest l i s = (t, b)) : s.keepsClasses t := by
  unfold withdrawRequest at withdrawn
  extract_lets mine at withdrawn
  split at withdrawn <;> cases withdrawn
  · exact State.setLine_keepsClasses rfl rfl
  · exact s.keepsClasses_refl

theorem tryImpulse_keepsClasses (i : SlotId) (s : State) : s.keepsClasses (tryImpulse i s) := by
  unfold tryImpulse
  dsimp only
  split
  · exact s.keepsClasses_refl
  · split
    · split <;> rename_i asked <;> exact fun l => requestLine_keepsClasses asked l
    · exact s.keepsClasses_refl

/-- R63: a recompute leaves the class of every line. -/
theorem recompute_keepsClasses (i : SlotId) (s : State) : s.keepsClasses (recompute i s) := by
  unfold recompute
  split
  · exact s.keepsClasses_refl
  · dsimp only
    split
    · exact tryImpulse_keepsClasses i (s.setSlot i _)
    · exact s.keepsClasses_refl
    · split
      · exact s.keepsClasses_refl
      · split <;> rename_i withdrawn <;> exact fun l => withdrawRequest_keepsClasses withdrawn l

/-! ## The arbiter -/

/-- R67, R87: STARTED leaves the records of the Dial Unit. -/
theorem reportStarted_sameRecord (l : LineId) (q : EnergizeRequest) (s : State) (i : SlotId) :
    (s.slot i).sameRecord ((reportStarted l q s).slot i) := by
  unfold reportStarted
  split
  · refine State.setSlot_sameRecord ?_ i
    exact ⟨⟨rfl, rfl, rfl, rfl⟩, rfl, rfl⟩
  · dsimp only
    split
    · exact DialSlot.sameRecord_of_eq (State.slot_of_du ((bellStarted_frame l _).part .du) i)
    · exact DialSlot.sameRecord_refl _

/-- R83, R84: a grant leaves the records of the Dial Unit. -/
theorem grant_sameRecord (l : LineId) (s : State) (i : SlotId) : (s.slot i).sameRecord ((grant l s).slot i) := by
  unfold grant
  split
  · exact DialSlot.sameRecord_refl _
  · exact reportStarted_sameRecord l _ _ i

theorem arbitrateUpTo_sameRecord (n : Nat) (s : State) (i : SlotId) :
    (s.slot i).sameRecord ((arbitrateUpTo n s).slot i) := by
  induction n generalizing s with
  | zero => exact DialSlot.sameRecord_refl _
  | succ n ih =>
    unfold arbitrateUpTo
    split
    · exact DialSlot.sameRecord_refl _
    · split
      · exact DialSlot.sameRecord.trans (grant_sameRecord _ s i) (ih _)
      · exact DialSlot.sameRecord_refl _

/-- R83: the arbiter's check leaves the records of the Dial Unit. -/
theorem arbitrate_sameRecord (s : State) (i : SlotId) : (s.slot i).sameRecord ((arbitrate s).slot i) := by
  unfold arbitrate
  split
  · exact arbitrateUpTo_sameRecord _ s i
  · exact DialSlot.sameRecord_refl _

/-- What a step ends with leaves the records of the Dial Unit. -/
theorem asOneChange_sameRecord (f : State → State) (s : State) (i : SlotId) :
    ((f s).slot i).sameRecord ((asOneChange f s).slot i) := by
  have settled := State.slot_of_du ((settleZones_frame s.za.zones (f s)).part .du) i
  have selected := State.slot_of_du ((selectNext_frame (arbitrate (settleZones s.za.zones (f s)))).part .du) i
  have granted := arbitrate_sameRecord (settleZones s.za.zones (f s)) i
  rw [settled, ← selected] at granted
  exact granted

/-! ## A station that is not RUNNING -/

/-- R64: no impulse is requested. -/
theorem tryImpulse_of_idle {s : State} (idle : s.running = false) (i : SlotId) : tryImpulse i s = s := by
  unfold tryImpulse
  dsimp only
  split
  · rfl
  · simp [idle]

/-- R104: a bell is missed. -/
theorem bellRequest_of_idle {s : State} (idle : s.running = false) (b : Bell) (z : ZoneId) :
    bellRequest b z s = bellMissed b s := by
  simp [bellRequest, idle]

/-- R113: no effect of an owner starts. -/
theorem startEffects_of_idle {s : State} (idle : s.running = false) (z : ZoneId) : startEffects z s = s := by
  simp [startEffects, idle]

/-- A station with the same config state and supply state is RUNNING or not as it was. -/
theorem State.running_of_sp_ds {s t : State} (sp : s.sameIn t .sp) (ds : s.sameIn t .ds) : t.running = s.running := by
  simp only [State.sameIn] at sp ds
  simp [State.running, sp, ds]

/-- R104: a bell asked of zones is missed at each of them. -/
theorem forEach_bellRequest_of_idle (b : Bell) (zones : List ZoneId) {s : State} (idle : s.running = false) :
    s.keepsAllBut [.bs] (forEach zones (bellRequest b) s) := by
  induction zones generalizing s with
  | nil => exact s.keepsAllBut_refl _
  | cons z rest ih =>
    have e : forEach (z :: rest) (bellRequest b) s = forEach rest (bellRequest b) (bellMissed b s) := by
      rw [← bellRequest_of_idle idle b z]
      rfl
    rw [e]
    have missed := bellMissed_frame b s
    exact State.keepsAllBut_trans missed
      (ih ((State.running_of_sp_ds (missed.part .sp) (missed.part .ds)).trans idle))

theorem examineEntry_of_idle (day i : Nat) (due : Int) {s : State} (idle : s.running = false) :
    s.keepsAllBut [.bs] (examineEntry day i due s) := by
  unfold examineEntry
  dsimp only
  split
  · exact State.keepsAllBut_trans (s.setBs_frame _) (forEach_bellRequest_of_idle _ _ idle)
  · exact s.setBs_frame _

theorem examineDueUpTo_of_idle (n : Nat) {s : State} (idle : s.running = false) :
    s.keepsAllBut [.bs] (examineDueUpTo n s) := by
  induction n generalizing s with
  | zero => exact s.keepsAllBut_refl _
  | succ n ih =>
    unfold examineDueUpTo
    split
    · split
      · rename_i day i due t _ _ _ _
        have entry := examineEntry_of_idle day i due idle
        exact State.keepsAllBut_trans entry
          (ih ((State.running_of_sp_ds (entry.part .sp) (entry.part .ds)).trans idle))
      · exact s.keepsAllBut_refl _
    · exact s.keepsAllBut_refl _

/-- R131: entries that fall due are examined by the scheduler alone. -/
theorem examineDue_of_idle {s : State} (idle : s.running = false) : s.keepsAllBut [.bs] (examineDue s) := by
  unfold examineDue
  split
  · exact examineDueUpTo_of_idle _ idle
  · exact s.keepsAllBut_refl _

end Sys2Proof.Machine
end

section
/-! PROOF. SUPPLY_WARNING and the entry to HOLD-UP (R5, R26, R92, R119, R161, R189, R193). -/

namespace Sys2Proof.Machine

-- one declaration at a time, as in the tests: the threads of a whole text's proofs do not fit the memory limit
set_option Elab.async false

/-! ## Operations done for each zone -/

theorem forEach_cons {α : Type} (a : α) (rest : List α) (f : α → State → State) (s : State) :
    forEach (a :: rest) f s = forEach rest f (f a s) := rfl

/-- A zone that no operation of the list is for stands. -/
theorem forEach_zone_other {f : ZoneId → State → State}
    (other : ∀ (z y : ZoneId) (t : State), y ≠ z → (f z t).zone y = t.zone y) {zones : List ZoneId} {y : ZoneId}
    (h : y ∉ zones) (s : State) : (forEach zones f s).zone y = s.zone y := by
  induction zones generalizing s with
  | nil => rfl
  | cons z rest ih =>
    rw [List.mem_cons, not_or] at h
    rw [forEach_cons, ih h.2, other z y s h.1]

/-- An operation that rewrites its own zone alone, done for each zone once, rewrites every one. -/
theorem forEach_zone_same {f : ZoneId → State → State} {g : Zone → Zone}
    (same : ∀ (z : ZoneId) (t : State), (f z t).zone z = g (t.zone z))
    (other : ∀ (z y : ZoneId) (t : State), y ≠ z → (f z t).zone y = t.zone y) {zones : List ZoneId} {y : ZoneId}
    (nodup : zones.Nodup) (h : y ∈ zones) (s : State) : (forEach zones f s).zone y = g (s.zone y) := by
  induction zones generalizing s with
  | nil => simp at h
  | cons z rest ih =>
    rw [List.nodup_cons] at nodup
    rw [forEach_cons]
    rcases List.mem_cons.mp h with rfl | h
    · rw [forEach_zone_other other nodup.1, same]
    · rw [ih nodup.2 h, other z y s fun e => nodup.1 (e ▸ h)]

theorem mem_allZones (z : ZoneId) : z ∈ allZones := List.mem_finRange z

theorem nodup_allZones : allZones.Nodup := List.nodup_finRange 8

/-- R117: TRUNK-SELECT follows the zones and leaves them. -/
theorem syncTrunk_zone (s : State) (z : ZoneId) : (syncTrunk s).zone z = s.zone z := rfl

theorem syncTrunk_trunk (s : State) : (syncTrunk s).za.trunkSelect = s.anyPaged := rfl

/-! ## The zones emptied -/

/-- R136: a bell missed leaves the zones. -/
theorem bellMissed_zone (b : Bell) (s : State) (z : ZoneId) : (bellMissed b s).zone z = s.zone z :=
  State.zone_of_za ((bellMissed_frame b s).part .za) z

/-- R119: one zone is emptied, its deferred bell missed. -/
def emptyZone (z : ZoneId) (s : State) : State :=
  let t := match (s.zone z).deferred with
    | some b => bellMissed b s
    | none => s
  t.setZone z (t.zone z).emptied

theorem emptyZones_eq (s : State) : emptyZones s = syncTrunk (forEach allZones emptyZone s) := rfl

theorem emptyZone_same (z : ZoneId) (s : State) : (emptyZone z s).zone z = (s.zone z).emptied := by
  unfold emptyZone
  rw [State.setZone_zone_same]
  split
  · rw [bellMissed_zone]
  · rfl

theorem emptyZone_other (z y : ZoneId) (s : State) (h : y ≠ z) : (emptyZone z s).zone y = s.zone y := by
  unfold emptyZone
  rw [State.setZone_zone_ne _ _ _ _ h]
  split
  · rw [bellMissed_zone]
  · rfl

/-- R119: every zone is emptied. -/
theorem forEach_emptyZone (s : State) (z : ZoneId) :
    (forEach allZones emptyZone s).zone z = (s.zone z).emptied :=
  forEach_zone_same (g := Zone.emptied) emptyZone_same emptyZone_other nodup_allZones (mem_allZones z) s

theorem emptyZones_zone (s : State) (z : ZoneId) : (emptyZones s).zone z = (s.zone z).emptied := by
  rw [emptyZones_eq, syncTrunk_zone, forEach_emptyZone]

/-- R117: with every zone IDLE, TRUNK-SELECT is off. -/
theorem anyPaged_of_idle {s : State} (idle : ∀ z : ZoneId, (s.zone z).owner = none) : s.anyPaged = false := by
  simp [State.anyPaged, Zone.level, idle, Level.isPage]

theorem emptyZones_trunk (s : State) : (emptyZones s).za.trunkSelect = false := by
  rw [emptyZones_eq, syncTrunk_trunk]
  refine anyPaged_of_idle fun z => ?_
  rw [forEach_emptyZone]
  rfl

/-! ## The snapshot -/

/-- R189: the store is at work, or a snapshot is pending: a request does not start a write. -/
def DialStore.engaged (d : DialStore) : Prop := d.activity ≠ .idle ∨ d.pendingSnapshot = true

/-- R189: in an engaged store a request is held. -/
theorem requestSnapshot_of_engaged {s : State} (h : s.ds.engaged) :
    requestSnapshot s = { s with ds := { s.ds with pendingSnapshot := true } } := by
  rcases requestSnapshot_cases s with ⟨idle, -, free, -⟩ | held
  · rcases h with busy | pending
    · exact absurd idle busy
    · rw [free] at pending
      cases pending
  · exact held

/-- R189: the request at the entry to HOLD-UP leaves the store engaged, or full. -/
theorem requestSnapshot_engaged (s : State) : (requestSnapshot s).ds.engaged := by
  rcases requestSnapshot_cases s with ⟨-, -, -, h⟩ | h <;> rw [h]
  · exact .inl (by simp)
  · exact .inr rfl

/-! ## The cut of the dial slots -/

/-- R69, R75, R92: what the cut of the dial slots leaves in HOLD-UP: the lines, the store but for a pending snapshot,
and of each slot the binding and the polarity, with no new impulse. -/
structure CutKeeps (s t : State) : Prop where
  dsq : t.dsq = s.dsq
  sp : t.sp = s.sp
  activity : t.ds.activity = s.ds.activity
  supply : t.ds.supply = s.ds.supply
  warning : t.ds.warning = s.ds.warning
  clearTimer : t.ds.clearTimer = s.ds.clearTimer
  pending : s.ds.pendingSnapshot = true → t.ds.pendingSnapshot = true
  slots : ∀ i : SlotId, (t.slot i).line = (s.slot i).line ∧ (t.slot i).polarity = (s.slot i).polarity ∧
    ((s.slot i).impulse = .none → (t.slot i).impulse = .none)

theorem CutKeeps.refl (s : State) : CutKeeps s s :=
  ⟨rfl, rfl, rfl, rfl, rfl, rfl, id, fun _ => ⟨rfl, rfl, id⟩⟩

theorem CutKeeps.trans {s t u : State} (h1 : CutKeeps s t) (h2 : CutKeeps t u) : CutKeeps s u where
  dsq := h2.dsq.trans h1.dsq
  sp := h2.sp.trans h1.sp
  activity := h2.activity.trans h1.activity
  supply := h2.supply.trans h1.supply
  warning := h2.warning.trans h1.warning
  clearTimer := h2.clearTimer.trans h1.clearTimer
  pending := fun p => h2.pending (h1.pending p)
  slots := fun i =>
    have ⟨line, polarity, free⟩ := h1.slots i
    have ⟨line', polarity', free'⟩ := h2.slots i
    ⟨line'.trans line, polarity'.trans polarity, fun h => free' (free h)⟩

/-- The store stays engaged, and the station not RUNNING, through a cut. -/
theorem CutKeeps.engaged {s t : State} (h : CutKeeps s t) (engaged : s.ds.engaged) : t.ds.engaged :=
  engaged.imp (fun busy => h.activity.symm ▸ busy) h.pending

theorem CutKeeps.running {s t : State} (h : CutKeeps s t) : t.running = s.running := by
  simp [State.running, h.sp, h.supply]

/-- A slot rewritten with its binding and its polarity, with no impulse. -/
theorem setSlot_cutKeeps {s : State} {i : SlotId} {r : DialSlot} (line : r.line = (s.slot i).line)
    (polarity : r.polarity = (s.slot i).polarity) (free : r.impulse = .none) : CutKeeps s (s.setSlot i r) := by
  refine ⟨rfl, rfl, rfl, rfl, rfl, rfl, id, fun j => ?_⟩
  by_cases e : j = i
  · subst e
    rw [State.setSlot_slot_same]
    exact ⟨line, polarity, fun _ => free⟩
  · rw [State.setSlot_slot_ne _ _ _ _ e]
    exact ⟨rfl, rfl, id⟩

/-- R189: a request of an engaged store. -/
theorem requestSnapshot_cutKeeps {s : State} (engaged : s.ds.engaged) : CutKeeps s (requestSnapshot s) := by
  rw [requestSnapshot_of_engaged engaged]
  exact ⟨rfl, rfl, rfl, rfl, rfl, rfl, fun _ => rfl, fun _ => ⟨rfl, rfl, id⟩⟩

/-- R61 to R64: outside RUNNING the recompute of a slot with no impulse asks for none. -/
theorem recompute_cutKeeps {s : State} {i : SlotId} (idle : s.running = false) (free : (s.slot i).impulse = .none) :
    CutKeeps s (recompute i s) := by
  unfold recompute
  split
  · exact CutKeeps.refl s
  · dsimp only
    rw [free]
    dsimp only
    rw [tryImpulse_of_idle (s := s.setSlot i _) idle]
    exact setSlot_cutKeeps rfl rfl rfl

/-- R61 to R64: the slot rewritten with no impulse, then its recompute, outside RUNNING. -/
theorem recompute_setSlot_cutKeeps {s : State} {i : SlotId} {r : DialSlot} (idle : s.running = false)
    (line : r.line = (s.slot i).line) (polarity : r.polarity = (s.slot i).polarity) (free : r.impulse = .none) :
    CutKeeps s (recompute i (s.setSlot i r)) ∧ ((recompute i (s.setSlot i r)).slot i).impulse = .none := by
  have written : ((s.setSlot i r).slot i).impulse = .none := by
    rw [State.setSlot_slot_same, free]
  have kept := recompute_cutKeeps (s := s.setSlot i r) idle written
  exact ⟨(setSlot_cutKeeps line polarity free).trans kept, (kept.slots i).2.2 written⟩

/-- R69, R73: outside RUNNING and with the store engaged, an aborted impulse leaves none. -/
theorem abortImpulse_cutKeeps {s : State} (i : SlotId) (idle : s.running = false) (engaged : s.ds.engaged) :
    CutKeeps s (abortImpulse i s) ∧ ((abortImpulse i s).slot i).impulse = .none := by
  unfold abortImpulse endImpulse
  dsimp only
  split
  · rename_i p _
    obtain ⟨kept, free⟩ := recompute_setSlot_cutKeeps (i := i)
      (r := { s.slot i with impulse := .none, polarity := (s.slot i).polarity, dial := some p, pendingSet := none })
      idle rfl rfl rfl
    have asked := requestSnapshot_cutKeeps (kept.engaged engaged)
    exact ⟨kept.trans asked, (asked.slots i).2.2 free⟩
  · exact recompute_setSlot_cutKeeps idle rfl rfl rfl

/-- R69, R75, R92: the cut of one slot in HOLD-UP. -/
theorem dialCut_cutKeeps {s : State} (i : SlotId) (idle : s.running = false) (engaged : s.ds.engaged) :
    CutKeeps s (dialCut i s) ∧ ((s.slot i).line ≠ none → ((dialCut i s).slot i).impulse = .none) := by
  unfold dialCut
  split
  · obtain ⟨kept, free⟩ := abortImpulse_cutKeeps i idle engaged
    exact ⟨kept, fun _ => free⟩
  · obtain ⟨kept, free⟩ := recompute_setSlot_cutKeeps (i := i) (r := { s.slot i with impulse := .none })
      idle rfl rfl rfl
    exact ⟨kept, fun _ => free⟩
  · rename_i noFlight noWait
    refine ⟨CutKeeps.refl s, fun bound => ?_⟩
    obtain ⟨l, line⟩ := Option.ne_none_iff_exists'.mp bound
    cases impulse : (s.slot i).impulse with
    | none => rfl
    | waiting => exact absurd impulse (noWait l line)
    | inFlight => exact absurd impulse (noFlight l line)

/-- R69, R75, R92: the cut of every slot of a list. -/
theorem forEach_dialCut_cutKeeps (slots : List SlotId) {s : State} (idle : s.running = false)
    (engaged : s.ds.engaged) :
    CutKeeps s (forEach slots dialCut s) ∧
      ∀ i ∈ slots, (s.slot i).line ≠ none → ((forEach slots dialCut s).slot i).impulse = .none := by
  induction slots generalizing s with
  | nil => exact ⟨CutKeeps.refl s, by simp⟩
  | cons j rest ih =>
    obtain ⟨first, freeFirst⟩ := dialCut_cutKeeps j idle engaged
    obtain ⟨kept, free⟩ := ih (first.running.trans idle) (first.engaged engaged)
    rw [forEach_cons]
    refine ⟨first.trans kept, fun i hi bound => ?_⟩
    rcases List.mem_cons.mp hi with rfl | hi
    · exact (kept.slots i).2.2 (freeFirst bound)
    · exact free i hi (by rwa [(first.slots i).1])

/-! ## The entry to HOLD-UP -/

/-- R92: a line after the cut is not driven and asks for nothing. -/
theorem cut_line (d : Sequencer) (l : LineId) :
    (d.cut.lines[l]).state ≠ .energized ∧ (d.cut.lines[l]).state ≠ .waiting ∧
    (d.cut.lines[l]).request = none ∧ (d.cut.lines[l]).player.state = .idle := by
  simp only [Sequencer.cut, Fin.getElem_fin, Vector.getElem_map, LineRecord.cut]
  split <;> simp

/-- R193: the entry to HOLD-UP: the state before the slots are cut is not RUNNING, with the store engaged. -/
theorem holdUpCut_ds (s : State) : (holdUpCut s).ds = (holdUpSnapshot s).ds :=
  ((((setDsq_frame (holdUpSnapshot s) _).andThen (emptyZones_frame _)).andThen
    (stopForHoldUp_frame _)).andThen (floorHoldUp_frame _)).part .ds

theorem holdUpCut_idle (s : State) : (holdUpCut s).running = false := by
  have supply : (holdUpCut s).ds.supply = .holdUp := by
    rw [holdUpCut_ds]
    unfold holdUpSnapshot
    rcases requestSnapshot_cases { s with ds := { s.ds with supply := .holdUp, clearTimer := none } } with
      ⟨-, -, -, h⟩ | h <;> rw [h]
  simp [State.running, supply]

theorem holdUpCut_engaged (s : State) : (holdUpCut s).ds.engaged := by
  rw [holdUpCut_ds]
  exact requestSnapshot_engaged _

theorem holdUpCut_dsq (s : State) : (holdUpCut s).dsq = s.dsq.cut := by
  have snapshot := (holdUpSnapshot_frame s).part .dsq
  have rest := (((emptyZones_frame { holdUpSnapshot s with dsq := (holdUpSnapshot s).dsq.cut }).andThen
    (stopForHoldUp_frame _)).andThen (floorHoldUp_frame _)).part .dsq
  simp only [State.sameIn] at snapshot rest
  unfold holdUpCut
  rw [rest, snapshot]

theorem holdUpCut_za (s : State) :
    (holdUpCut s).za = (emptyZones { holdUpSnapshot s with dsq := (holdUpSnapshot s).dsq.cut }).za :=
  ((stopForHoldUp_frame _).andThen (floorHoldUp_frame _)).part .za

theorem holdUpCut_zone (s : State) (z : ZoneId) : (holdUpCut s).zone z = (s.zone z).emptied := by
  have snapshot := State.zone_of_za ((holdUpSnapshot_frame s).part .za) z
  rw [State.zone_of_za (s := emptyZones _) (holdUpCut_za s), emptyZones_zone, ← snapshot]
  rfl

/-- R193: what the entry to HOLD-UP leaves of the state before the slots are cut, and of the slots. -/
theorem enterHoldUp_spec (s : State) :
    CutKeeps (holdUpCut s) (enterHoldUp s) ∧
    (holdUpCut s).keepsAllBut [.dsq, .du, .ds, .bs] (enterHoldUp s) ∧
    ∀ i : SlotId, (s.slot i).line ≠ none → ((enterHoldUp s).slot i).impulse = .none := by
  obtain ⟨kept, free⟩ := forEach_dialCut_cutKeeps allSlots (holdUpCut_idle s) (holdUpCut_engaged s)
  have examined := examineDue_of_idle (kept.running.trans (holdUpCut_idle s))
  rw [← enterHoldUp_eq] at examined
  have slot (i : SlotId) := State.slot_of_du (examined.part .du) i
  have ds := examined.part .ds
  simp only [State.sameIn] at ds
  refine ⟨⟨(examined.part .dsq).trans kept.dsq, (examined.part .sp).trans kept.sp, ?_, ?_, ?_, ?_, ?_, fun i => ?_⟩,
    ((forEach_keepsAllBut dialCut_frame allSlots _).andThen examined).within, fun i bound => ?_⟩
  · rw [ds, kept.activity]
  · rw [ds, kept.supply]
  · rw [ds, kept.warning]
  · rw [ds, kept.clearTimer]
  · rw [ds]
    exact kept.pending
  · rw [slot]
    exact kept.slots i
  · rw [slot]
    have before := State.slot_of_du ((holdUpCut_frame s).part .du) i
    exact free i (List.mem_finRange i) (by rwa [before])

/-- R188, R189, R193: the store at the entry to HOLD-UP: the snapshot of the values of now begun, where the store is
idle with a slot left and none pending, and else asked for. -/
theorem holdUpSnapshot_ds (s : State) :
    (holdUpSnapshot s).ds.supply = .holdUp ∧ (holdUpSnapshot s).ds.warning = s.ds.warning ∧
    (holdUpSnapshot s).ds.clearTimer = none ∧
    (s.ds.activity = .idle ∧ s.ds.next < 32 ∧ s.ds.pendingSnapshot = false →
      (holdUpSnapshot s).ds.activity = .writing s.snapshotNow (s.now + 5)) ∧
    (¬(s.ds.activity = .idle ∧ s.ds.next < 32 ∧ s.ds.pendingSnapshot = false) →
      (holdUpSnapshot s).ds.activity = s.ds.activity ∧ (holdUpSnapshot s).ds.pendingSnapshot = true) := by
  unfold holdUpSnapshot
  by_cases free : s.ds.activity = .idle ∧ s.ds.next < 32 ∧ s.ds.pendingSnapshot = false
  · have begun : requestSnapshot { s with ds := { s.ds with supply := .holdUp, clearTimer := none } } = startWrite _ :=
      if_pos free
    rw [begun]
    exact ⟨rfl, rfl, rfl, fun _ => rfl, fun engaged => absurd free engaged⟩
  · have held : requestSnapshot { s with ds := { s.ds with supply := .holdUp, clearTimer := none } } = _ :=
      if_neg free
    rw [held]
    exact ⟨rfl, rfl, rfl, fun h => absurd h free, fun _ => ⟨rfl, rfl⟩⟩

/-- The state that SUPPLY_WARNING enters HOLD-UP in. -/
def State.withWarning (s : State) : State := { s with ds := { s.ds with warning := true } }

theorem warningAsserts_of_run {s : State} (up : s.up = true) (run : s.ds.supply = .run) :
    warningAsserts s = enterHoldUp s.withWarning := by
  have stillUp : s.withWarning.up = true := up
  exact (if_neg (show ¬(!s.withWarning.up) = true by simp [stillUp])).trans (if_pos run)

theorem exec_supplyWarning {s : State} (up : s.up = true) (run : s.ds.supply = .run) :
    exec .supplyWarning s = .next (enterHoldUp s.withWarning) := by
  have powered : s.powered = true := by
    simp only [State.up, Bool.and_eq_true] at up
    exact up.1
  show execSupplyWarning s = _
  unfold execSupplyWarning
  rw [if_pos powered, warningAsserts_of_run up run]

/-- R193: the cut comes to the blocks that only stop, and to the floor, over a state with its stores, lines and zones
cut. -/
theorem holdUpCut_shape (s : State) :
    ∃ x, holdUpCut s = floorHoldUp (stopForHoldUp x) ∧ s.keepsAllBut [.ds, .dsq, .za, .bs] x :=
  ⟨_, rfl, (((holdUpSnapshot_frame s).andThen (setDsq_frame _ _)).andThen (emptyZones_frame _)).within⟩

/-- R161: the floor given up at the entry to HOLD-UP. -/
theorem enterHoldUp_fu (s : State) :
    (enterHoldUp s).fu.own = none ∧ (enterHoldUp s).fu.micLive = false ∧ (enterHoldUp s).fu.view = none ∧
    (enterHoldUp s).fu.claims = [] ∧ (enterHoldUp s).fu.counter = s.fu.counter := by
  obtain ⟨-, frame, -⟩ := enterHoldUp_spec s
  obtain ⟨x, shape, before⟩ := holdUpCut_shape s
  have fu := frame.part .fu
  have same := before.part .fu
  simp only [State.sameIn] at fu same
  rw [fu, shape, ← same]
  exact ⟨rfl, rfl, rfl, rfl, rfl⟩

/-- R26: the transmit side cut at the entry to HOLD-UP. -/
theorem enterHoldUp_ylc (s : State) :
    (enterHoldUp s).ylc.queue = [] ∧ (enterHoldUp s).ylc.attempt = .none ∧ (enterHoldUp s).ylc.heldAsks = [] := by
  obtain ⟨-, frame, -⟩ := enterHoldUp_spec s
  have ylc := frame.part .ylc
  simp only [State.sameIn] at ylc
  rw [ylc]
  exact ⟨rfl, rfl, rfl⟩

/-- R196, R207: the entry to HOLD-UP leaves the config state. -/
theorem enterHoldUp_config (s : State) : (enterHoldUp s).sp.config = s.sp.config := by
  obtain ⟨-, frame, -⟩ := enterHoldUp_spec s
  obtain ⟨x, shape, before⟩ := holdUpCut_shape s
  have sp := frame.part .sp
  have same := before.part .sp
  simp only [State.sameIn] at sp same
  rw [sp, shape, ← same]
  rfl

/-- R119: the zones emptied at the entry to HOLD-UP. -/
theorem enterHoldUp_za (s : State) :
    (∀ z : ZoneId, (enterHoldUp s).zone z = (s.zone z).emptied) ∧ (enterHoldUp s).za.trunkSelect = false := by
  obtain ⟨-, frame, -⟩ := enterHoldUp_spec s
  have za := frame.part .za
  refine ⟨fun z => by rw [State.zone_of_za za, holdUpCut_zone], ?_⟩
  simp only [State.sameIn] at za
  rw [za, holdUpCut_za, emptyZones_trunk]

/-- R92: the lines cut at the entry to HOLD-UP. -/
theorem enterHoldUp_dsq (s : State) : (enterHoldUp s).dsq = s.dsq.cut := by
  obtain ⟨kept, -, -⟩ := enterHoldUp_spec s
  rw [kept.dsq, holdUpCut_dsq]

/-- Settles O19. -/
theorem supplyWarningEntersHoldUp : Obligations.SupplyWarningEntersHoldUp := by
  intro s up run
  obtain ⟨kept, -, free⟩ := enterHoldUp_spec s.withWarning
  obtain ⟨supply, warning, clearTimer, begun, held⟩ := holdUpSnapshot_ds s.withWarning
  obtain ⟨own, mic, view, claims, counter⟩ := enterHoldUp_fu s.withWarning
  obtain ⟨queue, attempt, asks⟩ := enterHoldUp_ylc s.withWarning
  obtain ⟨zones, trunk⟩ := enterHoldUp_za s.withWarning
  have cut := holdUpCut_ds s.withWarning
  have dsq := enterHoldUp_dsq s.withWarning
  have unslotted (i : SlotId) := State.slot_of_du ((holdUpCut_frame s.withWarning).part .du) i
  refine ⟨_, exec_supplyWarning up run, ?_, ?_, ?_, fun idle => ⟨s.withWarning.snapshotNow, ?_, rfl, rfl, fun i => ?_⟩,
    fun engaged => ⟨?_, ?_⟩, fun l => ?_, ?_, ?_, fun z => ?_, trunk, queue, attempt, asks, enterHoldUp_tb _, own, mic,
    view, claims, counter, fun i line => ⟨free i line, ?_⟩, enterHoldUp_config _, ?_⟩
  · rw [kept.supply, cut, supply]
  · rw [kept.warning, cut, warning]
    rfl
  · rw [kept.clearTimer, cut, clearTimer]
  · rw [kept.activity, cut, begun idle]
    rfl
  · exact State.dialReadings_get s.withWarning i
  · rw [kept.activity, cut, (held engaged).1]
    rfl
  · exact kept.pending (by rw [cut, (held engaged).2])
  · unfold State.line
    rw [dsq]
    exact cut_line _ l
  · rw [dsq]
    rfl
  · rw [dsq]
    rfl
  · rw [zones]
    exact ⟨rfl, rfl, rfl, rfl, rfl, rfl⟩
  · rw [(kept.slots i).2.1, unslotted]
    rfl
  · exact ((setDs_frame s _).andThen (enterHoldUp_frame s.withWarning)).within

end Sys2Proof.Machine
end

section
/-! PROOF. The Bell Scheduler through an examination of entries and the end of a step: what each leaves of the plan day
and of the marks (R128, R130, R131, R136). -/

namespace Sys2Proof.Machine

-- one declaration at a time, as in the tests: the threads of a whole text's proofs do not fit the memory limit
set_option Elab.async false

/-! ## The count of bells missed -/

/-- The scheduler is as it was, but for the count of bells missed. -/
def State.onlyMisses (s t : State) : Prop := ∃ missed, t.bs = { s.bs with missed }

theorem State.onlyMisses_refl (s : State) : s.onlyMisses s := ⟨_, rfl⟩

theorem State.onlyMisses.trans {s t u : State} (h1 : s.onlyMisses t) (h2 : t.onlyMisses u) : s.onlyMisses u := by
  obtain ⟨_, h1⟩ := h1
  obtain ⟨m, h2⟩ := h2
  exact ⟨m, by rw [h2, h1]⟩

theorem State.onlyMisses_of_bs {s t : State} (h : s.sameIn t .bs) : s.onlyMisses t := ⟨s.bs.missed, h⟩

theorem forEach_onlyMisses {α : Type} {f : α → State → State} (h : ∀ (a : α) (s : State), s.onlyMisses (f a s)) (items : List α)
    (s : State) : s.onlyMisses (forEach items f s) := by
  induction items generalizing s with
  | nil => exact s.onlyMisses_refl
  | cons a rest ih => exact (h a s).trans (ih _)

/-- R136: a bell missed is counted. -/
theorem bellMissed_onlyMisses (b : Bell) (s : State) : s.onlyMisses (bellMissed b s) := by
  unfold bellMissed
  split
  · exact ⟨_, rfl⟩
  · exact s.onlyMisses_refl

/-- R104: a bell request misses a bell at most. -/
theorem bellRequest_onlyMisses (b : Bell) (z : ZoneId) (s : State) : s.onlyMisses (bellRequest b z s) := by
  have missed := bellMissed_onlyMisses b s
  unfold bellRequest
  dsimp only
  split
  · exact missed
  · split
    · exact missed
    · split
      · exact missed
      · split
        · exact missed
        · exact State.onlyMisses_of_bs ((s.setZone_frame _ _).part .bs)
        · exact s.onlyMisses_refl
        all_goals exact State.onlyMisses_of_bs ((s.setZone_frame _ _).part .bs)

/-- R112: the examination of a deferred bell misses it at most. -/
theorem examineDeferred_onlyMisses (z : ZoneId) (s : State) : s.onlyMisses (examineDeferred z s) := by
  have missed (b : Bell) (r : Zone) : s.onlyMisses (bellMissed b (s.setZone z r)) :=
    State.onlyMisses.trans (t := s.setZone z r) ⟨_, rfl⟩ (bellMissed_onlyMisses _ _)
  unfold examineDeferred
  dsimp only
  split
  · exact s.onlyMisses_refl
  · split
    · exact missed _ _
    · split
      · exact missed _ _
      · split
        · exact ⟨_, rfl⟩
        · exact missed _ _

/-- R111 to R113: the end of a change misses deferred bells at most. -/
theorem settleZone_onlyMisses (old : Zone) (z : ZoneId) (s : State) : s.onlyMisses (settleZone old z s) := by
  have effects (t : State) : t.onlyMisses (startEffects z (stopEffects old.owner z t)) :=
    State.onlyMisses_of_bs (((stopEffects_frame old.owner z t).andThen (startEffects_frame z _)).part .bs)
  unfold settleZone
  extract_lets u
  have deferred : s.onlyMisses u := by
    simp only [u]
    split
    · exact examineDeferred_onlyMisses z s
    · exact s.onlyMisses_refl
  split
  · exact deferred
  · exact deferred.trans (effects _)

/-- What a step ends with misses deferred bells at most. -/
theorem asOneChange_onlyMisses (f : State → State) (s : State) : (f s).onlyMisses (asOneChange f s) := by
  have settled : (f s).onlyMisses (settleZones s.za.zones (f s)) :=
    (forEach_onlyMisses (fun z t => settleZone_onlyMisses _ z t) allZones (f s)).trans
      (State.onlyMisses_of_bs ((syncTrunk_frame _).part .bs))
  exact settled.trans (State.onlyMisses_of_bs (((arbitrate_frame _).andThen (selectNext_frame _)).part .bs))

/-! ## The next entry -/

/-- R130: the entries that can be next. -/
def BellScheduler.candidates (b : BellScheduler) : List Nat :=
  (List.range b.marks.length).filter fun i => b.markAt i == .opened && !b.cancelled i

/-- R130: a step of the search for the next entry. -/
def BellScheduler.earlier (b : BellScheduler) (day : Nat) (best : Option (Nat × Int)) (i : Nat) :
    Option (Nat × Int) :=
  match best with
  | none => some (i, b.effectiveFull day i)
  | some (_, d) => if b.effectiveFull day i < d then some (i, b.effectiveFull day i) else best

theorem next_eq {b : BellScheduler} {day : Nat} (planDay : b.planDay = some day) :
    b.next = b.candidates.foldl (b.earlier day) none := by
  simp only [BellScheduler.next, planDay]
  rfl

/-- The search finds a candidate, with its own effective time. -/
theorem foldl_earlier_spec (b : BellScheduler) (day : Nat) {entries : List Nat} {best : Option (Nat × Int)}
    {i : Nat} {due : Int} (found : entries.foldl (b.earlier day) best = some (i, due)) :
    best = some (i, due) ∨ (i ∈ entries ∧ due = b.effectiveFull day i) := by
  induction entries generalizing best with
  | nil => exact .inl found
  | cons j rest ih =>
    rw [List.foldl_cons] at found
    rcases ih found with here | ⟨mem, eq⟩
    · unfold BellScheduler.earlier at here
      split at here
      · cases here
        exact .inr ⟨by simp, rfl⟩
      · split at here
        · cases here
          exact .inr ⟨by simp, rfl⟩
        · exact .inl here
    · exact .inr ⟨List.mem_cons_of_mem _ mem, eq⟩

/-- R130: the next entry is OPEN, with its own effective time as its due time. -/
theorem next_spec {b : BellScheduler} {day i : Nat} {due : Int} (planDay : b.planDay = some day)
    (next : b.next = some (i, due)) :
    i < b.marks.length ∧ b.markAt i = .opened ∧ due = b.effectiveFull day i := by
  rw [next_eq planDay] at next
  rcases foldl_earlier_spec b day next with h | ⟨mem, eq⟩
  · cases h
  · simp only [BellScheduler.candidates, List.mem_filter, List.mem_range, Bool.and_eq_true, beq_iff_eq] at mem
    exact ⟨mem.1, mem.2.1, eq⟩

/-! ## The examination of entries -/

/-- R131: the scheduler is as it was, but for the marks, the taken set and the count of bells missed. -/
def State.examined (s t : State) : Prop :=
  ∃ marks taken missed, marks.length = s.bs.marks.length ∧ t.bs = { s.bs with marks, taken, missed }

theorem State.examined_refl (s : State) : s.examined s := ⟨_, _, _, rfl, rfl⟩

theorem State.examined.trans {s t u : State} (h1 : s.examined t) (h2 : t.examined u) : s.examined u := by
  obtain ⟨marks, taken, missed, length, eq⟩ := h1
  obtain ⟨marks', taken', missed', length', eq'⟩ := h2
  exact ⟨marks', taken', missed', by rw [length', eq]; exact length, by rw [eq', eq]⟩

/-- R123: the take of a list index is written in the taken set alone. -/
theorem take_eq (b : BellScheduler) (index : Nat) : ∃ taken, b.take index = { b with taken } ∧ index ∈ taken ∧
    ∀ j ∈ b.taken, j ∈ taken := by
  unfold BellScheduler.take
  split
  · rename_i known
    exact ⟨b.taken, rfl, known, fun _ => id⟩
  · exact ⟨_, rfl, by simp, fun _ h => List.mem_append_left _ h⟩

/-- R131: what the examination of an entry leaves of the scheduler: its mark, TAKEN in time with its list index in the
taken set, or PASSED, and the count. -/
theorem examineEntry_bs (day i : Nat) (due : Int) (s : State) :
    (s.inTime due = true ∧ ∃ taken missed, s.bs.window.base + i ∈ taken ∧ (∀ j ∈ s.bs.taken, j ∈ taken) ∧
      (examineEntry day i due s).bs = { s.bs with marks := s.bs.marks.set i .taken, taken, missed }) ∨
    (s.inTime due = false ∧ ∃ missed,
      (examineEntry day i due s).bs = { s.bs with marks := s.bs.marks.set i .passed, missed }) := by
  unfold examineEntry
  dsimp only
  split
  · rename_i inTime
    obtain ⟨taken, eq, mem, kept⟩ := take_eq (s.bs.setMark i .taken) (s.bs.window.base + i)
    obtain ⟨missed, rung⟩ := forEach_onlyMisses
      (bellRequest_onlyMisses
        { day, index := i, effective := due, pattern := (s.bs.entryAt (s.bs.window.base + i)).pattern })
      (zonesOf (s.bs.entryAt (s.bs.window.base + i)).zones)
      (s.setBs ((s.bs.setMark i .taken).take (s.bs.window.base + i)))
    exact .inl ⟨inTime, taken, missed, mem, kept, by rw [rung, State.setBs_bs_same, eq]; rfl⟩
  · rename_i late
    exact .inr ⟨by simpa using late, _, rfl⟩

theorem examineEntry_examined (day i : Nat) (due : Int) (s : State) : s.examined (examineEntry day i due s) := by
  rcases examineEntry_bs day i due s with ⟨-, taken, missed, -, -, eq⟩ | ⟨-, missed, eq⟩
  · exact ⟨_, _, _, by simp, eq⟩
  · exact ⟨_, _, _, by simp, eq⟩

theorem examineDueUpTo_examined (n : Nat) (s : State) : s.examined (examineDueUpTo n s) := by
  induction n generalizing s with
  | zero => exact s.examined_refl
  | succ n ih =>
    unfold examineDueUpTo
    split
    · split
      · exact State.examined.trans (examineEntry_examined _ _ _ s) (ih _)
      · exact s.examined_refl
    · exact s.examined_refl

/-- R131: an examination of entries leaves all but the marks, the taken set and the count. -/
theorem examineDue_examined (s : State) : s.examined (examineDue s) := by
  unfold examineDue
  split
  · exact examineDueUpTo_examined _ s
  · exact s.examined_refl

/-- R137: in LISTENING no entry is examined. -/
theorem examineDue_of_listening {s : State} (h : s.listening = true) : examineDue s = s := by
  simp [examineDue, State.examines, h]

end Sys2Proof.Machine
end

section
/-! PROOF. SCHOOL_TIME_BOUNDARY (R17, R61 to R63, R134, R137, R188): the records recomputed, the hour told to the store,
and a new plan day. -/

namespace Sys2Proof.Machine

-- one declaration at a time, as in the tests: the threads of a whole text's proofs do not fit the memory limit
set_option Elab.async false

/-! ## The recompute of every record -/

/-- R62: the state and the dial difference that a recompute gives the record of a slot bound to a line. -/
def State.verdictOf (s : State) (i : SlotId) (l : LineId) : DialState × Option Nat :=
  dialVerdict s.school (s.slot i).dial (s.slot i).modulus s.du.holdWindow (s.line l).cls.faulted

/-- A recompute of another record leaves the verdict. -/
theorem verdictOf_recompute {i j : SlotId} (h : i ≠ j) (l : LineId) (s : State) :
    (recompute j s).verdictOf i l = s.verdictOf i l := by
  have tb := (recompute_frame j s).part .tb
  simp only [State.sameIn] at tb
  simp only [State.verdictOf, State.school, tb, recompute_other h, recompute_holdWindow,
    (recompute_keepsClasses j s l).2]

/-- R63: the recompute of records that are not the slot's leaves it. -/
theorem forEach_recompute_other {slots : List SlotId} {i : SlotId} (h : i ∉ slots) (s : State) :
    (forEach slots recompute s).slot i = s.slot i := by
  induction slots generalizing s with
  | nil => rfl
  | cons j rest ih =>
    rw [List.mem_cons, not_or] at h
    rw [forEach_cons, ih h.2, recompute_other h.1]

/-- R63: the recompute of every record rewrites each by R62, with its binding, position and polarity. -/
theorem forEach_recompute_slot {slots : List SlotId} (nodup : slots.Nodup) {i : SlotId} (mem : i ∈ slots) {l : LineId}
    {s : State} (line : (s.slot i).line = some l) :
    (s.slot i).sameDial ((forEach slots recompute s).slot i) ∧
      ((forEach slots recompute s).slot i).state = (s.verdictOf i l).1 ∧
      ((forEach slots recompute s).slot i).difference = (s.verdictOf i l).2 := by
  induction slots generalizing s with
  | nil => simp at mem
  | cons j rest ih =>
    rw [List.nodup_cons] at nodup
    rw [forEach_cons]
    by_cases e : i = j
    · subst e
      rw [forEach_recompute_other nodup.1]
      obtain ⟨impulse, du⟩ := recompute_du line
      rw [State.slot_of_du (t := recompute i s) du, State.setSlot_slot_same]
      exact ⟨⟨rfl, rfl, rfl, rfl⟩, rfl, rfl⟩
    · have kept : (recompute j s).slot i = s.slot i := recompute_other e s
      have later := ih nodup.2 ((List.mem_cons.mp mem).resolve_left e) (s := recompute j s) (by rw [kept, line])
      rwa [verdictOf_recompute e, kept] at later

/-- R61 to R63: the record of a bound slot after the recompute of every record. -/
theorem recomputeAll_slot {i : SlotId} {l : LineId} {s : State} (line : (s.slot i).line = some l) :
    (s.slot i).sameDial ((recomputeAll s).slot i) ∧ ((recomputeAll s).slot i).state = (s.verdictOf i l).1 ∧
      ((recomputeAll s).slot i).difference = (s.verdictOf i l).2 :=
  forEach_recompute_slot (List.nodup_finRange 6) (List.mem_finRange i) line

theorem forEach_recompute_sameDial (slots : List SlotId) (s : State) (i : SlotId) :
    (s.slot i).sameDial ((forEach slots recompute s).slot i) := by
  induction slots generalizing s with
  | nil => exact ⟨rfl, rfl, rfl, rfl⟩
  | cons j rest ih =>
    rw [forEach_cons]
    exact (recompute_sameDial j i s).trans (ih _)

/-- R63: the recompute of every record leaves the binding, the position and the polarity of every slot. -/
theorem recomputeAll_sameDial (s : State) (i : SlotId) : (s.slot i).sameDial ((recomputeAll s).slot i) :=
  forEach_recompute_sameDial allSlots s i

/-- R61: the dial difference is the way from the position to the minute of the day, around the dial. -/
theorem dialDifference_spec {x d M : Nat} (h : 0 < M) :
    dialDifference x d M < M ∧ (dialDifference x d M + d) % M = x % 86400000 / 60000 % M := by
  have target : targetPosition x M = x % 86400000 / 60000 % M := rfl
  unfold dialDifference
  rw [target]
  generalize x % 86400000 / 60000 = P
  refine ⟨Nat.mod_lt _ h, ?_⟩
  have position := Nat.mod_lt d h
  have whole : P % M + M - d % M + d = P % M + M * (1 + d / M) := by
    have := Nat.div_add_mod d M
    rw [Nat.mul_add, Nat.mul_one]
    omega
  rw [Nat.mod_add_mod, whole, Nat.add_mul_mod_self_left, Nat.mod_mod]

/-- R62: what a recompute gives a record, by the rows. -/
theorem dialVerdict_spec (x : Nat) (dial : Option Nat) (M H : Nat) (faulted : Bool) (v : DialState × Option Nat)
    (eq : dialVerdict (some x) dial M H faulted = v) :
    (dial = none → v.1 = .stopped ∧ v.2 = none) ∧
    ∀ d, dial = some d → 0 < M →
      (faulted = true → v.1 = .faulted ∧ v.2 = none) ∧
      (faulted = false → ∃ e, v.2 = some e ∧ e < M ∧ (e + d) % M = x % 86400000 / 60000 % M ∧
        (e ≤ 1 → v.1 = .inStep) ∧ (2 ≤ e → M ≤ e + H → v.1 = .holding) ∧
        (2 ≤ e → e + H < M → v.1 = .advancing)) := by
  subst eq
  refine ⟨fun unset => by rw [unset]; exact ⟨rfl, rfl⟩, fun d set positive => ⟨fun bad => ?_, fun good => ?_⟩⟩
  · rw [set, bad]
    exact ⟨rfl, rfl⟩
  · rw [set, good]
    obtain ⟨below, around⟩ := dialDifference_spec (x := x) (d := d) positive
    simp only [dialVerdict, Bool.false_eq_true, if_false]
    generalize dialDifference x d M = e at *
    refine ⟨e, ?_, below, around, fun near => ?_, fun far reach => ?_, fun far short => ?_⟩
    · split
      · rfl
      · split <;> rfl
    · rw [if_pos near]
    · rw [if_neg (by omega), if_pos reach]
    · rw [if_neg (by omega), if_neg (by omega)]

/-! ## A new plan day -/

/-- R122: which entries are usable is a matter of the bell list alone. -/
theorem usableFrom_of_entries {b c : BellScheduler} (entries : c.entries = b.entries) (latest : Nat)
    (indices : List Nat) : usableFrom c latest indices = usableFrom b latest indices := by
  induction indices generalizing latest with
  | nil => rfl
  | cons i rest ih =>
    simp only [usableFrom, ih, show c.entryAt i = b.entryAt i by simp [BellScheduler.entryAt, entries]]

theorem freshMarks_of_entries {b c : BellScheduler} (entries : c.entries = b.entries) (w : PlanWindow) :
    c.freshMarks w = b.freshMarks w := by
  unfold BellScheduler.freshMarks
  rw [usableFrom_of_entries entries]

theorem usableFrom_length (b : BellScheduler) (latest : Nat) (indices : List Nat) :
    (usableFrom b latest indices).length = indices.length := by
  induction indices generalizing latest with
  | nil => rfl
  | cons i rest ih =>
    unfold usableFrom
    split <;> simp [ih]

theorem freshMarks_length (b : BellScheduler) (w : PlanWindow) : (b.freshMarks w).length = w.count := by
  simp [BellScheduler.freshMarks, usableFrom_length, PlanWindow.indices]

/-- R123: the override for a day stands when the earlier ones go. -/
theorem overrideFor_filter (b : BellScheduler) (day : Nat) :
    ({ b with overrides := b.overrides.filter fun o => decide (day ≤ o.1) } : BellScheduler).overrideFor day =
      b.overrideFor day := by
  unfold BellScheduler.overrideFor
  dsimp only
  rw [List.find?_filter]
  congr 2
  funext o
  by_cases same : o.1 = day <;> simp [same]

/-- R124: the plan of a day, from the override for it or from the weekday map. -/
theorem planFor_eq (b : BellScheduler) (day : Nat) :
    b.planFor day =
      match b.overrides.find? (fun o => o.1 == day) with
      | some o => (o.2, .override)
      | none => (b.weekday[(⟨day % 7, Nat.mod_lt _ (by decide)⟩ : Fin 7)], .weekdayMap) := by
  unfold BellScheduler.planFor BellScheduler.overrideFor
  cases b.overrides.find? (fun o => o.1 == day) <;> rfl

/-- R134: what a new plan day leaves of the scheduler. -/
theorem startDay_eq (b : BellScheduler) (day : Nat) :
    b.startDay day =
      { b with
        planDay := some day
        overrides := b.overrides.filter fun o => decide (day ≤ o.1)
        shifts := []
        taken := []
        activePlan := some (b.planFor day).1
        source := (b.planFor day).2
        marks := b.freshMarks (b.windowOf (b.planFor day).1) } := by
  have plan : (BellScheduler.planFor
      { b with
        planDay := some day
        overrides := b.overrides.filter fun o => decide (day ≤ o.1)
        shifts := []
        taken := [] } day) = b.planFor day := by
    have chosen := overrideFor_filter b day
    unfold BellScheduler.planFor
    rw [← chosen]
    rfl
  unfold BellScheduler.startDay
  dsimp only
  rw [plan]
  congr 1
  refine freshMarks_of_entries (b := b) ?_ _
  rfl

/-! ## Entries that are not due -/

/-- R128: an examination leaves every effective time. -/
theorem State.examined.effectiveFull {s t : State} (h : s.examined t) (day i : Nat) :
    t.bs.effectiveFull day i = s.bs.effectiveFull day i := by
  obtain ⟨marks, taken, missed, -, eq⟩ := h
  rw [eq]
  rfl

theorem State.examined.planDay {s t : State} (h : s.examined t) : t.bs.planDay = s.bs.planDay := by
  obtain ⟨marks, taken, missed, -, eq⟩ := h
  rw [eq]

/-- R131: an entry that is examined leaves the mark of every other. -/
theorem examineEntry_markAt {day i j : Nat} (h : i ≠ j) (due : Int) (s : State) :
    (examineEntry day j due s).bs.markAt i = s.bs.markAt i := by
  rcases examineEntry_bs day j due s with ⟨-, taken, missed, -, -, eq⟩ | ⟨-, missed, eq⟩
  all_goals
    rw [eq]
    simp [BellScheduler.markAt, List.getD_eq_getElem?_getD, List.getElem?_set_ne h.symm]

/-- R131: an entry that is not due yet keeps its mark. -/
theorem examineDueUpTo_markAt (n : Nat) {i : Nat} {s : State}
    (later : ∀ day t, s.bs.planDay = some day → s.school = some t → (t : Int) < s.bs.effectiveFull day i) :
    (examineDueUpTo n s).bs.markAt i = s.bs.markAt i := by
  induction n generalizing s with
  | zero => rfl
  | succ n ih =>
    unfold examineDueUpTo
    split
    · rename_i day j due t planDay next school
      split
      · rename_i reached
        obtain ⟨-, -, own⟩ := next_spec planDay next
        have other : i ≠ j := by
          rintro rfl
          have := later day t planDay school
          omega
        have examined := examineEntry_examined day j due s
        have tb := (examineEntry_frame day j due s).part .tb
        simp only [State.sameIn] at tb
        rw [ih, examineEntry_markAt other]
        intro day' t' planDay' school'
        rw [examined.planDay] at planDay'
        rw [State.school, tb] at school'
        rw [examined.effectiveFull]
        exact later day' t' planDay' school'
      · rfl
    · rfl

theorem examineDue_markAt {i : Nat} {s : State}
    (later : ∀ day t, s.bs.planDay = some day → s.school = some t → (t : Int) < s.bs.effectiveFull day i) :
    (examineDue s).bs.markAt i = s.bs.markAt i := by
  unfold examineDue
  split
  · exact examineDueUpTo_markAt _ later
  · rfl

/-! ## The boundary -/

/-- R17: a boundary before the store is told the hour. -/
def boundaryBells (t : Nat) (s : State) : State :=
  if t % Config.dayMs = 0 && (recomputeAll s).loaded then bellsDayChange t (recomputeAll s) else recomputeAll s

theorem boundaryReached_eq (t : Nat) (s : State) :
    boundaryReached t s = if t % 3600000 = 0 then hourByRunning t (boundaryBells t s) else boundaryBells t s := rfl

theorem boundaryBells_frame (t : Nat) (s : State) : s.keepsAllBut [.dsq, .du, .za, .bs] (boundaryBells t s) := by
  unfold boundaryBells
  split
  · exact ((recomputeAll_frame s).andThen (bellsDayChange_frame t _)).within
  · exact (recomputeAll_frame s).within

/-- R17: the Dial Unit at a boundary is as the recompute leaves it. -/
theorem boundaryReached_du (t : Nat) (s : State) : (boundaryReached t s).du = (recomputeAll s).du := by
  have bells : (boundaryBells t s).du = (recomputeAll s).du := by
    unfold boundaryBells
    split
    · exact (bellsDayChange_frame t _).part .du
    · rfl
  rw [boundaryReached_eq]
  split
  · exact ((hourByRunning_frame t _).part .du).trans bells
  · exact bells

/-- R17: the scheduler at a boundary is as the day change leaves it. -/
theorem boundaryReached_bs (t : Nat) (s : State) : (boundaryReached t s).bs = (boundaryBells t s).bs := by
  rw [boundaryReached_eq]
  split
  · exact (hourByRunning_frame t _).part .bs
  · rfl

theorem boundaryReached_za (t : Nat) (s : State) : (boundaryReached t s).za = (boundaryBells t s).za := by
  rw [boundaryReached_eq]
  split
  · exact (hourByRunning_frame t _).part .za
  · rfl

/-- R188: a slot is bound exactly where some slot has a line. -/
theorem anySlotBound_iff (s : State) : s.anySlotBound = true ↔ ∃ i : SlotId, (s.slot i).line.isSome = true := by
  unfold State.anySlotBound
  rw [List.any_eq_true]
  constructor
  · rintro ⟨d, mem, bound⟩
    obtain ⟨i, hi, rfl⟩ := List.getElem_of_mem mem
    exact ⟨⟨i, by simpa using hi⟩, by simpa [State.slot] using bound⟩
  · rintro ⟨i, bound⟩
    exact ⟨s.slot i, by simp [State.slot], bound⟩

/-- R188: whether a slot is bound, and what is recorded, are at the boundary what they were. -/
theorem boundaryBells_anySlotBound (t : Nat) (s : State) :
    (boundaryBells t s).anySlotBound = s.anySlotBound := by
  have bells : (boundaryBells t s).du = (recomputeAll s).du := by
    unfold boundaryBells
    split
    · exact (bellsDayChange_frame t _).part .du
    · rfl
  have line (i : SlotId) : ((boundaryBells t s).slot i).line = (s.slot i).line := by
    rw [State.slot_of_du (t := boundaryBells t s) bells]
    exact (recomputeAll_sameDial s i).1
  rw [Bool.eq_iff_iff, anySlotBound_iff, anySlotBound_iff]
  simp only [line]

/-- R188: the store at a boundary: untouched but at a whole hour, which a bound station that has not recorded it asks a
snapshot for. -/
theorem boundaryReached_ds (x : Nat) (s : State) (school : s.school = some x) :
    (x % 3600000 ≠ 0 → (boundaryReached x s).ds = s.ds) ∧
    (x % 3600000 = 0 → s.anySlotBound = true → s.alreadyRecorded (dayOf x) (minuteOfDay x) = false →
      (boundaryReached x s).ds.pendingSnapshot = true ∨
      ∃ p, (boundaryReached x s).ds.activity = .writing p (s.now + 5) ∧
        p.time = some (dayOf x, minuteOfDay x) ∧ p.sequence = s.ds.nextSequence) := by
  have frame := boundaryBells_frame x s
  have ds := frame.part .ds
  have tb := frame.part .tb
  simp only [State.sameIn] at ds tb
  rw [boundaryReached_eq]
  refine ⟨fun broken => by rw [if_neg broken, ds], fun whole bound fresh => ?_⟩
  have recorded : (boundaryBells x s).alreadyRecorded (dayOf x) (minuteOfDay x) = false := by
    rw [← fresh, State.alreadyRecorded, State.alreadyRecorded, ds]
  rw [if_pos whole, hourByRunning, boundaryBells_anySlotBound, bound, recorded, if_pos (by rfl)]
  rcases requestSnapshot_cases (boundaryBells x s) with ⟨-, -, -, h⟩ | h
  · refine .inr ⟨(boundaryBells x s).snapshotNow, ?_, ?_, ?_⟩
    · rw [h, State.now, tb]
      rfl
    · show (boundaryBells x s).school.map _ = _
      rw [State.school, tb, show s.tb.fullTime = some x from school]
      rfl
    · show (boundaryBells x s).ds.nextSequence = _
      rw [ds]
  · exact .inl (by rw [h])

/-- R134: the state of the station on a new plan day, before its entries are examined. -/
def State.onNewDay (s : State) (day : Nat) : State :=
  (recomputeAll s).setBs { s.bs.startDay day with missed := 0 }

/-- R134: the state in which a day change examines the entries of the new plan day. -/
theorem boundaryBells_of_newDay {x d : Nat} {s : State} (change : x % 86400000 = 0) (loaded : s.loaded = true)
    (planDay : s.bs.planDay = some d) (later : d < x / 86400000) :
    boundaryBells x s = examineDue (s.onNewDay (x / 86400000)) := by
  have frame := recomputeAll_frame s
  have bs := frame.part .bs
  have sp := frame.part .sp
  simp only [State.sameIn] at bs sp
  have still : (recomputeAll s).loaded = true := by
    rw [← loaded, State.loaded, State.loaded, sp]
  unfold boundaryBells
  rw [if_pos (by simp [Config.dayMs, change, still])]
  unfold bellsDayChange newPlanDay
  rw [bs, planDay]
  exact congrArg examineDue (if_pos later)

/-- R134: at any other boundary nothing starts a new plan day. -/
theorem boundaryBells_of_sameDay {x d : Nat} {s : State} (planDay : s.bs.planDay = some d)
    (same : x % 86400000 ≠ 0 ∨ x / 86400000 ≤ d) :
    boundaryBells x s = recomputeAll s ∨ boundaryBells x s = examineDue (recomputeAll s) := by
  have bs := (recomputeAll_frame s).part .bs
  simp only [State.sameIn] at bs
  unfold boundaryBells
  split
  · rename_i change
    have whole : x % 86400000 = 0 := by
      simp only [Config.dayMs, Bool.and_eq_true] at change
      exact of_decide_eq_true change.1
    right
    unfold bellsDayChange newPlanDay
    rw [bs, planDay]
    exact congrArg examineDue (if_neg (by
      have := same.resolve_left (not_not.mpr whole)
      simpa [dayOf, Config.dayMs] using this))
  · exact .inl rfl

/-- R128, R134: on the new plan day an entry that is not at 00:00:00 lies ahead of the boundary. -/
theorem effectiveFull_startDay (b : BellScheduler) (day i missed : Nat) :
    ({ b.startDay day with missed } : BellScheduler).effectiveFull day i =
      (day * 86400000 : Nat) + ((b.entryAt ((b.windowOf (b.planFor day).1).base + i)).timeOfDay : Int) * 1000 := by
  rw [startDay_eq]
  simp only [BellScheduler.effectiveFull, BellScheduler.effectiveTime, List.map_nil, List.sum_nil, mul_zero, add_zero]
  rfl

theorem onNewDay_school (s : State) (day : Nat) : (s.onNewDay day).school = s.school := by
  have tb := (recomputeAll_frame s).part .tb
  simp only [State.sameIn] at tb
  rw [State.onNewDay, State.setBs_school, State.school, tb]
  rfl

theorem recomputeAll_listening (s : State) : (recomputeAll s).listening = s.listening := by
  have frame := recomputeAll_frame s
  have sp := frame.part .sp
  have ds := frame.part .ds
  simp only [State.sameIn] at sp ds
  rw [State.listening, State.listening, sp, ds]

/-- R134: the scheduler `c` stands on the plan day `day` as `b` calls for: its plan, the overrides not of earlier days,
no shift, and a mark for each entry of the window. -/
structure StandsOnDay (b : BellScheduler) (day : Nat) (c : BellScheduler) : Prop where
  planDay : c.planDay = some day
  activePlan : c.activePlan = some (b.planFor day).1
  source : c.source = (b.planFor day).2
  overrides : c.overrides = b.overrides.filter fun o => decide (day ≤ o.1)
  shifts : c.shifts = []
  length : c.marks.length = (b.windowOf (b.planFor day).1).count

theorem onNewDay_bs (s : State) (day : Nat) :
    (s.onNewDay day).bs = { s.bs.startDay day with missed := 0 } :=
  State.setBs_bs_same _ _

/-- R131, R134: what an examination of entries leaves of a new plan day. -/
theorem standsOnDay_of_examined {u v : State} {b : BellScheduler} {day : Nat}
    (started : u.bs = { b.startDay day with missed := 0 }) (examined : u.examined v) : StandsOnDay b day v.bs := by
  obtain ⟨marks, taken, missed, length, eq⟩ := examined
  rw [started, startDay_eq] at length eq
  rw [eq]
  exact ⟨rfl, rfl, rfl, rfl, rfl, length.trans (freshMarks_length _ _)⟩

/-- R131, R134: an entry of the new plan day that is not at 00:00:00 stays OPEN at the day change. -/
theorem examineDue_onNewDay_markAt {s : State} {x i : Nat} (school : s.school = some x) (change : x % 86400000 = 0)
    (fresh : (s.bs.freshMarks (s.bs.windowOf (s.bs.planFor (x / 86400000)).1)).getD i .unusable = .opened)
    (after : 0 < (s.bs.entryAt ((s.bs.windowOf (s.bs.planFor (x / 86400000)).1).base + i)).timeOfDay) :
    (examineDue (s.onNewDay (x / 86400000))).bs.markAt i = .opened := by
  have midnight : x / 86400000 * 86400000 = x := by omega
  rw [examineDue_markAt fun day t planDay school' => ?_, onNewDay_bs, startDay_eq]
  · exact fresh
  · rw [onNewDay_bs, startDay_eq] at planDay
    rw [onNewDay_school, school] at school'
    cases planDay
    cases school'
    rw [onNewDay_bs, effectiveFull_startDay, midnight]
    omega

/-- R17: SCHOOL_TIME_BOUNDARY with school time at a whole minute. -/
theorem exec_schoolTimeBoundary {x : Nat} {s : State} (up : s.up = true) (school : s.school = some x)
    (positive : 0 < x) (whole : x % 60000 = 0) :
    ∃ f : State → State, exec .schoolTimeBoundary s = .next (asOneChange f s) ∧ f s = boundaryReached x s := by
  refine ⟨_, congrArg Host.Outcome.next (change_of_up up), ?_⟩
  have boundary : atBoundary s.school = some x := by
    simp [atBoundary, school, Option.filter, positive, whole]
  simp only [boundary]

/-- R17: in LISTENING, where a boundary asks no zone, the end of the step leaves the scheduler. -/
theorem asOneChange_boundary_bs {x : Nat} {s : State} {f : State → State} (eq : f s = boundaryReached x s)
    (zones : (boundaryBells x s).za = (recomputeAll s).za) :
    (asOneChange f s).bs = (boundaryBells x s).bs := by
  have same : (f s).za = s.za := by
    rw [eq, boundaryReached_za, zones]
    exact (recomputeAll_frame s).part .za
  rw [asOneChange_of_za same, eq, ← boundaryReached_bs]
  exact (endOfStep_frame _).part .bs

/-- R133: bells missed on the way change nothing of the plan day that a scheduler stands on. -/
theorem StandsOnDay.missing {b c e : BellScheduler} {day missed : Nat} (stands : StandsOnDay b day e)
    (ended : c = { e with missed }) : StandsOnDay b day c := by
  obtain ⟨hday, hplan, hsource, hover, hshift, hlength⟩ := stands
  subst ended
  exact ⟨hday, hplan, hsource, hover, hshift, hlength⟩

/-- R133: bells missed on the way change no mark. -/
theorem markAt_of_missing {c e : BellScheduler} {missed : Nat} (ended : c = { e with missed }) (i : Nat) :
    c.markAt i = e.markAt i := by
  subst ended
  rfl

/-- R134: a plan day that no entry was examined of. -/
theorem startDay_fresh {c b : BellScheduler} {day : Nat} (started : c = { b.startDay day with missed := 0 }) :
    c.marks = b.freshMarks (b.windowOf (b.planFor day).1) ∧ c.taken = [] ∧ c.missed = 0 := by
  rw [startDay_eq] at started
  subst started
  exact ⟨rfl, rfl, rfl⟩

/-- R134: the scheduler after a day change. -/
theorem newDay_bs {x d : Nat} {s : State} {f : State → State} (eq : f s = boundaryReached x s)
    (school : s.school = some x) (planDay : s.bs.planDay = some d) (loaded : s.loaded = true)
    (change : x % 86400000 = 0) (later : d < x / 86400000) :
    let w := s.bs.windowOf (s.bs.planFor (x / 86400000)).1
    StandsOnDay s.bs (x / 86400000) (asOneChange f s).bs ∧
    (∀ i, (s.bs.freshMarks w).getD i .unusable = .opened → 0 < (s.bs.entryAt (w.base + i)).timeOfDay →
      (asOneChange f s).bs.markAt i = .opened) ∧
    (s.listening = true → (asOneChange f s).bs.marks = s.bs.freshMarks w ∧ (asOneChange f s).bs.taken = [] ∧
      (asOneChange f s).bs.missed = 0) := by
  have started := boundaryBells_of_newDay change loaded planDay later
  obtain ⟨missed, ended⟩ := asOneChange_onlyMisses f s
  rw [eq, boundaryReached_bs, started] at ended
  have stands := standsOnDay_of_examined (onNewDay_bs s (x / 86400000)) (examineDue_examined _)
  refine ⟨stands.missing ended, fun i fresh after => ?_, fun listening => ?_⟩
  · exact (markAt_of_missing ended i).trans (examineDue_onNewDay_markAt school change fresh after)
  · have still : (s.onNewDay (x / 86400000)).listening = true := by
      rw [State.onNewDay, State.setBs_listening, recomputeAll_listening, listening]
    rw [examineDue_of_listening still] at started
    have zones : (boundaryBells x s).za = (recomputeAll s).za := by
      rw [started, State.onNewDay, State.setBs_za]
    have bells := asOneChange_boundary_bs eq zones
    rw [started, onNewDay_bs] at bells
    exact startDay_fresh bells

/-- R17, R137: in LISTENING any other boundary leaves the scheduler. -/
theorem sameDay_bs {x d : Nat} {s : State} {f : State → State} (eq : f s = boundaryReached x s)
    (planDay : s.bs.planDay = some d) (same : x % 86400000 ≠ 0 ∨ x / 86400000 ≤ d) (listening : s.listening = true) :
    (asOneChange f s).bs = s.bs := by
  have stands : boundaryBells x s = recomputeAll s := by
    rcases boundaryBells_of_sameDay planDay same with h | h
    · exact h
    · rw [h, examineDue_of_listening ((recomputeAll_listening s).trans listening)]
  rw [asOneChange_boundary_bs eq (by rw [stands]), stands]
  exact (recomputeAll_frame s).part .bs

/-- Settles O24. -/
theorem minuteBoundaryRecomputesTheDials : Obligations.MinuteBoundaryRecomputesTheDials := by
  intro x s up school positive whole
  obtain ⟨f, run, eq⟩ := exec_schoolTimeBoundary up school positive whole
  have ended := asOneChange_frame f s
  rw [eq] at ended
  have dsEnd := ended.part .ds
  simp only [State.sameIn] at dsEnd
  obtain ⟨quiet, hour⟩ := boundaryReached_ds x s school
  refine ⟨_, run, fun i l line => ?_, ?_, ?_, fun d planDay loaded => ?_, ?_⟩
  · have record := asOneChange_sameRecord f s i
    rw [eq, State.slot_of_du (t := boundaryReached x s) (boundaryReached_du x s)] at record
    obtain ⟨⟨-, -, dial, polarity⟩, state, difference⟩ := record
    obtain ⟨⟨-, -, dial', polarity'⟩, state', difference'⟩ := recomputeAll_slot line
    have verdict := dialVerdict_spec x (s.slot i).dial (s.slot i).modulus s.du.holdWindow (s.line l).cls.faulted
      (s.verdictOf i l) (by rw [← school]; rfl)
    rw [dial, dial', polarity, polarity', state, state', difference, difference']
    exact ⟨rfl, rfl, verdict⟩
  · rw [dsEnd]
    exact quiet
  · rw [dsEnd]
    exact hour
  · intro day plan w
    have chosen : plan = s.bs.planFor day := (planFor_eq s.bs day).symm
    clear_value plan
    subst chosen
    refine ⟨fun change later => ?_, sameDay_bs eq planDay⟩
    obtain ⟨⟨hday, hplan, hsource, hover, hshift, hlength⟩, marks, listening⟩ :=
      newDay_bs eq school planDay loaded change later
    exact ⟨hday, hplan, hsource, hover, hshift, hlength, fun i _ => marks i, listening⟩
  · have bound := asOneChange_within (f := f) (s := s) (eq ▸ boundaryReached_frame x s)
    exact bound.within

end Sys2Proof.Machine
end

section
/-! PROOF. CONFIG_IMAGE_READ: the entries to LISTENING and to CONFIG-FAULT (R58, R139, R140, R181, R182, R184, R199 to
R205). In a station that has just taken its settings nothing is driven and no zone is owned, so that neither the yield
nor the end of the step reaches a line. -/

namespace Sys2Proof.Machine

-- one declaration at a time, as in the tests: the threads of a whole text's proofs do not fit the memory limit
set_option Elab.async false

/-! ## A station at rest -/

/-- The outputs of a station that has just come to LISTENING. -/
structure State.AtRest (a : State) : Prop where
  listening : a.listening = true
  off : ∀ l : LineId, (a.line l).state = .off
  silent : ∀ l : LineId, (a.line l).player.state = .idle
  chime : a.dsq.chime = .idle
  zone : ∀ z : ZoneId, (a.zone z).stack = [] ∧ (a.zone z).deferred = none ∧ (a.zone z).bellStarted = false ∧
    (a.zone z).sounderOn = false ∧ (a.zone z).pageOn = false

/-- R182: all that the yield may change in a station at rest: the owners of the zones, to YIELD, the view, the claims
and keys of the floor, the drill record and the yielding state. -/
structure State.YieldsOnly (a t : State) : Prop where
  sp : t.sp = a.sp
  ds : t.ds = a.ds
  dsq : t.dsq = a.dsq
  bs : t.bs = a.bs
  zone : ∀ z : ZoneId, ∃ owner, t.zone z = { a.zone z with owner } ∧ (owner = none ∨ owner = some .yield)
  keys : t.fu.keys = a.fu.keys
  readyWait : t.fu.readyWait = a.fu.readyWait
  dru : ∃ record peerCause yielding, t.dru = { a.dru with record, peerCause, yielding }

namespace State.YieldsOnly

variable {a t : State}

theorem refl (h : ∀ z : ZoneId, (a.zone z).owner = none) : a.YieldsOnly a where
  sp := rfl
  ds := rfl
  dsq := rfl
  bs := rfl
  zone z := ⟨none, by rw [← h z], .inl rfl⟩
  keys := rfl
  readyWait := rfl
  dru := ⟨_, _, _, rfl⟩

theorem listening (w : a.YieldsOnly t) (rest : a.AtRest) : t.listening = true := by
  rw [State.listening, w.sp, w.ds]
  exact rest.listening

theorem taking (w : a.YieldsOnly t) (rest : a.AtRest) : t.taking = true := by
  rw [State.taking, w.listening rest, Bool.true_or]

theorem idle (w : a.YieldsOnly t) (rest : a.AtRest) : t.running = false := by
  have h := w.listening rest
  simp only [State.listening, Bool.and_eq_true, beq_iff_eq] at h
  simp [State.running, h.1]

theorem line (w : a.YieldsOnly t) (l : LineId) : t.line l = a.line l := by
  simp [State.line, w.dsq]

theorem owner (w : a.YieldsOnly t) (z : ZoneId) : (t.zone z).owner = none ∨ (t.zone z).owner = some .yield := by
  obtain ⟨owner, e, h⟩ := w.zone z
  rw [e]
  exact h

/-- The zones of a station at rest have nothing on their stacks, deferred or driven. -/
theorem bare (w : a.YieldsOnly t) (rest : a.AtRest) (z : ZoneId) :
    (t.zone z).stack = [] ∧ (t.zone z).deferred = none ∧ (t.zone z).bellStarted = false ∧
      (t.zone z).sounderOn = false ∧ (t.zone z).pageOn = false := by
  obtain ⟨owner, e, -⟩ := w.zone z
  rw [e]
  exact rest.zone z

/-- What is not of the outputs, the bells or the settings may change. -/
theorem of_frame {u : State} (w : a.YieldsOnly t) (frame : t.keepsAllBut [.ylc, .pt] u) : a.YieldsOnly u := by
  have za := frame.part .za
  have fu := frame.part .fu
  have dru := frame.part .dru
  simp only [State.sameIn] at za fu dru
  exact {
    sp := (frame.part .sp).trans w.sp
    ds := (frame.part .ds).trans w.ds
    dsq := (frame.part .dsq).trans w.dsq
    bs := (frame.part .bs).trans w.bs
    zone := fun z => by rw [State.zone_of_za (frame.part .za)]; exact w.zone z
    keys := by rw [fu]; exact w.keys
    readyWait := by rw [fu]; exact w.readyWait
    dru := by rw [dru]; exact w.dru }

theorem setDru (w : a.YieldsOnly t) {d : DrillUnit}
    (h : ∃ record peerCause yielding, d = { t.dru with record, peerCause, yielding }) :
    a.YieldsOnly { t with dru := d } where
  sp := w.sp
  ds := w.ds
  dsq := w.dsq
  bs := w.bs
  zone := w.zone
  keys := w.keys
  readyWait := w.readyWait
  dru := by
    obtain ⟨record, peerCause, yielding, rfl⟩ := h
    obtain ⟨_, _, _, e⟩ := w.dru
    rw [e]
    exact ⟨record, peerCause, yielding, rfl⟩

theorem setFu (w : a.YieldsOnly t) {f : FloorUnit} (keys : f.keys = t.fu.keys)
    (readyWait : f.readyWait = t.fu.readyWait) : a.YieldsOnly { t with fu := f } where
  sp := w.sp
  ds := w.ds
  dsq := w.dsq
  bs := w.bs
  zone := w.zone
  keys := keys.trans w.keys
  readyWait := readyWait.trans w.readyWait
  dru := w.dru

theorem setOwner (w : a.YieldsOnly t) (z : ZoneId) {r : Zone} {owner : Option Owner}
    (h : r = { t.zone z with owner }) (free : owner = none ∨ owner = some .yield) :
    a.YieldsOnly (t.setZone z r) where
  sp := w.sp
  ds := w.ds
  dsq := w.dsq
  bs := w.bs
  zone y := by
    by_cases e : y = z
    · subst e
      obtain ⟨_, e, -⟩ := w.zone y
      rw [State.setZone_zone_same, h, e]
      exact ⟨owner, rfl, free⟩
    · rw [State.setZone_zone_ne _ _ _ _ e]
      exact w.zone y
  keys := w.keys
  readyWait := w.readyWait
  dru := w.dru

theorem each {α : Type} {f : α → State → State} (step : ∀ (x : α) {u : State}, a.YieldsOnly u → a.YieldsOnly (f x u))
    (items : List α) (w : a.YieldsOnly t) : a.YieldsOnly (forEach items f t) := by
  induction items generalizing t with
  | nil => exact w
  | cons x rest ih => exact ih (step x w)

end State.YieldsOnly

/-! ## The yield of a station at rest -/

section
variable {a t : State} (rest : a.AtRest) (w : a.YieldsOnly t)
include rest w

/-- R26: in LISTENING no frame is queued. -/
theorem enqueue_of_rest (f : OutFrame) (other : ∀ body, f ≠ .claim body) : enqueue f t = t := by
  have listening := w.listening rest
  simp only [State.listening, Bool.and_eq_true, beq_iff_eq] at listening
  have refused : t.takesFrame f = false := by
    simp [State.takesFrame, w.idle rest, State.faultValid, listening.1]
  unfold enqueue
  rw [refused]
  cases f with
  | claim body => exact absurd rfl (other body)
  | _ => rfl

theorem releaseAt_of_rest (is : Owner → Bool) (z : ZoneId) : a.YieldsOnly (releaseAt is z t) := by
  obtain ⟨stack, -, started, -, -⟩ := w.bare rest z
  have unstacked : a.YieldsOnly (t.setZone z { t.zone z with stack := (t.zone z).stack.filter fun o => !is o }) := by
    refine w.setOwner z ?_ (w.owner z)
    rw [stack, List.filter_nil, ← stack]
  unfold releaseAt
  dsimp only
  split
  · split
    · refine unstacked.setOwner z (owner := none) ?_ (.inl rfl)
      simp [stack, started, popStack]
    · exact unstacked
  · exact unstacked

omit rest in
theorem soundOff_of_rest (initiator : Station) (number : Byte) :
    soundOff initiator number t = t := by
  have skip : ∀ z : ZoneId, (t.zone z).owner.any (Owner.isDrill initiator number) = false := fun z => by
    rcases w.owner z with h | h <;> rw [h] <;> rfl
  unfold soundOff
  generalize allZones = zones
  induction zones with
  | nil => rfl
  | cons z rest ih =>
    rw [forEach_cons, skip z]
    exact ih

theorem releaseEverywhere_of_rest (is : Owner → Bool) : a.YieldsOnly (releaseEverywhere is t) :=
  w.each (fun z _ u => releaseAt_of_rest rest u is z) allZones

theorem changeRecord_of_rest (old new : DrillRecord) : a.YieldsOnly (changeRecord old new t) := by
  have written : a.YieldsOnly (t.setRecord (some new)) := w.setDru ⟨_, _, _, rfl⟩
  unfold changeRecord phaseEffects
  generalize t.setRecord (some new) = u at written ⊢
  split
  · exact releaseEverywhere_of_rest rest written _
  · split
    · rw [soundOff_of_rest written]
      exact written
    · exact written

theorem yieldEndsDrill_of_rest : a.YieldsOnly (yieldEndsDrill t) := by
  unfold yieldEndsDrill
  split
  · split
    · rename_i r _ _
      have ended := changeRecord_of_rest rest w r (r.ended .yield t.school)
      have quiet := enqueue_of_rest rest ended (.drillEnd r.initiator r.number (endReasonByte .yield)) nofun
      dsimp only
      split
      · rw [quiet]
        exact ended
      · exact ended
    · exact w
  · exact w

theorem floorLeavesView_of_rest : a.YieldsOnly (floorLeavesView t) := by
  unfold floorLeavesView
  split
  · exact w
  · have unseen : a.YieldsOnly (t.setView none) := w.setFu rfl rfl
    exact releaseEverywhere_of_rest rest unseen _

theorem ownIdle_of_rest : a.YieldsOnly (ownIdle t) := by
  have given : a.YieldsOnly (t.setOwn none) := w.setFu rfl rfl
  have closed : a.YieldsOnly ((t.setOwn none).setMic false) := given.setFu rfl rfl
  have chime : ((t.setOwn none).setMic false).dsq.chime = .idle := by
    rw [closed.dsq]
    exact rest.chime
  unfold ownIdle cancelChime
  rw [chime]
  exact closed

omit rest in
theorem ownClaimLeaves_of_rest : a.YieldsOnly (ownClaimLeaves t) := by
  unfold ownClaimLeaves
  split
  · exact w.setFu rfl rfl
  · exact w

/-- R160: the floor is given up. -/
theorem floorYield_of_rest : a.YieldsOnly (floorYield t) := by
  unfold floorYield
  dsimp only
  refine floorLeavesView_of_rest rest ?_
  split
  · rename_i o _
    have released := ownIdle_of_rest rest w
    have dark : a.YieldsOnly (lampOff o.key (ownIdle t)) := released.setFu rfl rfl
    have quiet := enqueue_of_rest rest w (.release o.number (releaseReasonByte .yield)) nofun
    rw [queueRelease, quiet]
    split
    · exact ownClaimLeaves_of_rest dark
    · exact dark
  · exact w

/-- R108: at a zone with nothing deferred a yield request makes YIELD the owner. -/
theorem yieldRequest_of_rest (z : ZoneId) :
    yieldRequest z t = t.setZone z { t.zone z with owner := some .yield } := by
  obtain ⟨-, deferred, started, -, -⟩ := w.bare rest z
  unfold yieldRequest
  rcases w.owner z with free | owned
  · have undeferred : t.setZone z { t.zone z with deferred := none } = t := by
      rw [← deferred]
      exact t.setZone_self z
    rw [if_neg (by simp [free, w.taking rest])]
    dsimp only
    rw [deferred]
    dsimp only
    rw [undeferred, displace, free]
    dsimp only
    rw [← started, deferred]
  · rw [if_pos (by simp [owned]), ← owned]
    exact (t.setZone_self z).symm

/-- R108, R182: after a yield request at each zone YIELD owns each of them. -/
theorem forEach_yieldRequest_of_rest (zones : List ZoneId) :
    a.YieldsOnly (forEach zones yieldRequest t) ∧ ∀ z : ZoneId, z ∈ zones ∨ (t.zone z).owner = some .yield →
      ((forEach zones yieldRequest t).zone z).owner = some .yield := by
  induction zones generalizing t with
  | nil => exact ⟨w, fun z h => h.resolve_left (by simp)⟩
  | cons y ys ih =>
    have asked : a.YieldsOnly (t.setZone y { t.zone y with owner := some .yield }) := w.setOwner y rfl (.inr rfl)
    rw [forEach_cons, yieldRequest_of_rest rest w y]
    refine ⟨(ih asked).1, fun z h => (ih asked).2 z ?_⟩
    by_cases e : z = y
    · subst e
      exact .inr (by rw [State.setZone_zone_same])
    · rw [State.setZone_zone_ne _ _ _ _ e]
      exact h.imp_left fun h => (List.mem_cons.mp h).resolve_left e

/-- R182: the yield begins. -/
theorem yieldStart_of_rest :
    a.YieldsOnly (yieldStart t) ∧ ∀ z : ZoneId, ((yieldStart t).zone z).owner = some .yield := by
  have begun : a.YieldsOnly (t.setYielding true) := w.setDru ⟨_, _, _, rfl⟩
  have given := floorYield_of_rest rest (yieldEndsDrill_of_rest rest begun)
  obtain ⟨only, owners⟩ := forEach_yieldRequest_of_rest rest given allZones
  exact ⟨only, fun z => owners z (.inl (mem_allZones z))⟩

end

/-- R169: a change of the record leaves the rest of the Drill Unit. -/
theorem changeRecord_dru (old new : DrillRecord) (s : State) :
    (changeRecord old new s).dru = { s.dru with record := some new } :=
  (phaseEffects_frame old.phase new (s.setRecord (some new))).part .dru

/-- R182: the yield writes the record and the yielding state of the Drill Unit. -/
theorem yieldStart_dru (s : State) : ∃ record, (yieldStart s).dru = { s.dru with record, yielding := true } := by
  have given := (floorYield_frame (yieldEndsDrill (s.setYielding true))).part .dru
  have asked := (forEach_keepsAllBut yieldRequest_frame allZones
    (floorYield (yieldEndsDrill (s.setYielding true)))).part .dru
  simp only [State.sameIn] at given asked
  rw [yieldStart, asked, given]
  unfold yieldEndsDrill
  split
  · rename_i r _
    split
    · have changed := changeRecord_dru r (r.ended .yield (s.setYielding true).school) (s.setYielding true)
      dsimp only
      split
      · have said := (enqueue_frame (.drillEnd r.initiator r.number (endReasonByte .yield))
          (changeRecord r (r.ended .yield (s.setYielding true).school) (s.setYielding true))).part .dru
        simp only [State.sameIn] at said
        rw [said, changed]
        exact ⟨_, rfl⟩
      · rw [changed]
        exact ⟨_, rfl⟩
    · exact ⟨_, rfl⟩
  · exact ⟨_, rfl⟩

/-- R181, R182: the end of LOADING takes the inputs to yield to the yielding state, and to every zone. -/
theorem yieldAtListening_of_rest {a : State} (rest : a.AtRest) (free : ∀ z : ZoneId, (a.zone z).owner = none) :
    let t := yieldAtListening a
    a.YieldsOnly t ∧ t.dru.yielding = (a.dru.contact || t.dru.peerCause) ∧
      ∀ z : ZoneId, (t.zone z).owner = if t.dru.yielding then some .yield else none := by
  have clear : a.YieldsOnly (a.setYielding false) := (State.YieldsOnly.refl free).setDru ⟨_, _, _, rfl⟩
  have caused : a.YieldsOnly (a.setYielding false).withPeerCause := clear.setDru ⟨_, _, _, rfl⟩
  have contact : (a.setYielding false).withPeerCause.dru.contact = a.dru.contact := rfl
  have still : ∀ z, ((a.setYielding false).withPeerCause.zone z).owner = none := free
  have unset : (a.setYielding false).withPeerCause.dru.yielding = false := rfl
  have cases := updateYield_cases (a.setYielding false) (clear.taking rest)
  rw [← show (a.setYielding false).withPeerCause.dru.yielding = (a.setYielding false).dru.yielding from rfl] at cases
  unfold yieldAtListening
  generalize (a.setYielding false).withPeerCause = p at *
  rcases cases with ⟨wanted, -, h⟩ | ⟨-, set, -⟩ | ⟨same, h⟩
  · obtain ⟨only, owners⟩ := yieldStart_of_rest rest caused
    obtain ⟨record, dru⟩ := yieldStart_dru p
    rw [h]
    refine ⟨only, ?_, fun z => ?_⟩
    · rw [dru, ← contact]
      exact wanted.symm
    · rw [owners z, dru]
      rfl
  · rw [unset] at set
    cases set
  · rw [h]
    refine ⟨caused, ?_, fun z => ?_⟩
    · rw [← contact]
      exact same
    · rw [still z, unset]
      rfl

/-! ## The end of the step -/

section
variable {a t : State} (rest : a.AtRest) (w : a.YieldsOnly t)
include rest w

/-- R88: no player of a station at rest is cancelled. -/
theorem stopEffects_of_rest (old : Option Owner) (z : ZoneId) : stopEffects old z t = t := by
  obtain ⟨-, -, -, sounder, page⟩ := w.bare rest z
  unfold stopEffects
  split
  · split
    · unfold cutBellPlayer cancelPlayer
      simp only [w.line, rest.silent]
    · rfl
  · unfold pageLineOff
    split
    · rfl
    · split
      · rw [if_neg (by simp [page])]
      · rfl
  · unfold sounderOff
    split
    · rw [if_neg (by simp [sounder])]
    · rfl
  · rfl
  · rfl

/-- R111 to R113: a zone of a station at rest has nothing to settle. -/
theorem settleZone_of_rest (old : Zone) (z : ZoneId) : settleZone old z t = t := by
  have deferred : examineDeferred z t = t := by
    unfold examineDeferred
    simp only [(w.bare rest z).2.1]
  unfold settleZone
  rw [deferred, ite_self]
  dsimp only
  split
  · rfl
  · rw [stopEffects_of_rest rest w, startEffects_of_idle (w.idle rest)]

theorem settleZones_of_rest (old : Vector Zone 8) : settleZones old t = syncTrunk t := by
  have each : ∀ zones : List ZoneId, forEach zones (fun z u => settleZone old[z] z u) t = t := fun zones => by
    induction zones with
    | nil => rfl
    | cons z zs ih => rw [forEach_cons, settleZone_of_rest rest w, ih]
  rw [settleZones, each]

/-- R83: with every line OFF the arbiter grants nothing. -/
theorem arbitrate_of_rest : arbitrate t = t := by
  have none : t.grantList = [] := by
    have stands (c : RequestClass) : t.waitsIn c = fun _ => false := by
      funext l
      simp [State.waitsIn, w.line, rest.off]
    simp [State.grantList, stands]
  unfold arbitrate
  split
  · unfold arbitrateUpTo
    rw [none]
  · rfl

omit rest in
theorem syncTrunk_of_rest : a.YieldsOnly (syncTrunk t) where
  sp := w.sp
  ds := w.ds
  dsq := w.dsq
  bs := w.bs
  zone := w.zone
  keys := w.keys
  readyWait := w.readyWait
  dru := w.dru

/-- What a step ends with selects a frame and sets TRUNK-SELECT. -/
theorem asOneChange_of_rest {f : State → State} {s : State} (eq : f s = t) :
    a.YieldsOnly (asOneChange f s) ∧ t.keepsAllBut [.ylc, .za] (asOneChange f s) ∧
      ∀ z : ZoneId, (asOneChange f s).zone z = t.zone z := by
  have synced := syncTrunk_of_rest w
  have selected := selectNext_frame (syncTrunk t)
  have e : asOneChange f s = selectNext (syncTrunk t) := by
    rw [asOneChange, eq, settleZones_of_rest rest w, arbitrate_of_rest rest synced]
  rw [e]
  refine ⟨synced.of_frame selected.within, ((syncTrunk_frame t).andThen selected).within, fun z => ?_⟩
  exact State.zone_of_za (t := selectNext (syncTrunk t)) (selected.part .za) z

end

/-! ## The settings taken -/

/-- R58: a bind with no line driven asks for none. -/
theorem recompute_of_off {i : SlotId} {s : State} (idle : s.running = false)
    (off : ∀ l : LineId, (s.line l).state = .off) : (recompute i s).dsq = s.dsq := by
  unfold recompute
  split
  · rfl
  · dsimp only
    split
    · rw [tryImpulse_of_idle]
      · rfl
      · exact idle
    · rfl
    · split
      · rfl
      · split <;> rename_i withdrawn <;> unfold withdrawRequest at withdrawn <;>
          simp [off] at withdrawn
        rw [← withdrawn]
        rfl

/-- R60: a recompute leaves the settings of the Dial Unit. -/
theorem recompute_dialSettings (i : SlotId) (s : State) :
    ∃ slots, (recompute i s).du = { s.du with slots } := by
  cases line : (s.slot i).line with
  | none => exact ⟨s.du.slots, by rw [recompute_of_unbound line]⟩
  | some l =>
    obtain ⟨impulse, du⟩ := recompute_du line
    exact ⟨_, du⟩

theorem recomputeAll_of_off {s : State} (idle : s.running = false) (off : ∀ l : LineId, (s.line l).state = .off) :
    (recomputeAll s).dsq = s.dsq ∧ ∃ slots, (recomputeAll s).du = { s.du with slots } := by
  unfold recomputeAll
  generalize allSlots = items
  induction items generalizing s with
  | nil => exact ⟨rfl, s.du.slots, rfl⟩
  | cons i rest ih =>
    have dsq := recompute_of_off (i := i) idle off
    have frame := recompute_frame i s
    obtain ⟨dsq', slots', du'⟩ := ih (s := recompute i s)
      ((State.running_of_sp_ds (frame.part .sp) (frame.part .ds)).trans idle)
      (fun l => by rw [State.line_of_dsq (t := recompute i s) dsq]; exact off l)
    obtain ⟨slots, du⟩ := recompute_dialSettings i s
    rw [forEach_cons]
    refine ⟨dsq'.trans dsq, slots', ?_⟩
    rw [du', du]

end Sys2Proof.Machine
end

section
/-! PROOF. CONFIG_IMAGE_READ settled: the settings of an image that passes, and CONFIG-FAULT after one that does not (R58,
R139, R199 to R205). -/

namespace Sys2Proof.Machine

-- one declaration at a time, as in the tests: the threads of a whole text's proofs do not fit the memory limit
set_option Elab.async false

/-! ## The entry to LISTENING up to the yield -/

/-- R101: the zones of an image hold their lines alone. -/
theorem settingsOf_zones (sections : List Section) :
    ∃ lines, (settingsOf sections).1.zones = zonesFrom lines := ⟨_, rfl⟩

theorem zonesFrom_zone (lines : List (Option LineId)) (z : ZoneId) :
    (zonesFrom lines)[z] =
      { Zone.afterReset with
        bellLine := lines.getD (3 * z.val) none
        pageLine := lines.getD (3 * z.val + 1) none
        sounderLine := lines.getD (3 * z.val + 2) none } := by
  simp [zonesFrom]

/-- R100: a line after the load. -/
theorem afterLoad_line {s : State} {x : Settings} {now : Nat} (dsq : s.dsq = Sequencer.afterLoad x now) (l : LineId) :
    s.line l = LineRecord.afterReset x.kinds[l] := by
  simp [State.line, dsq, Sequencer.afterLoad]

/-- R58, R140, R200: the station with its settings, its slots bound and its plan day taken up. -/
def loadedWith (i : CheckedImage) (s : State) : State :=
  let r := settingsOf i.sections
  bellsTakeUp (bindSlots r.1.clocks (applySettings i r.1 r.2 s))

theorem enterListening_eq (i : CheckedImage) (s : State) :
    enterListening i s = yieldAtListening (loadedWith i s) := rfl

/-- R58: the slots as they are bound, before their records are recomputed. -/
def State.withSlots (s : State) (clocks : List (LineId × Nat)) : State :=
  { s with du := { s.du with slots := s.du.slots.mapFinIdx fun i d _ => d.bind clocks[i]? } }

theorem bindSlots_eq (clocks : List (LineId × Nat)) (s : State) :
    bindSlots clocks s = recomputeAll (s.withSlots clocks) := rfl

theorem withSlots_slot (s : State) (clocks : List (LineId × Nat)) (i : SlotId) :
    (s.withSlots clocks).slot i = (s.slot i).bind clocks[i.val]? := by
  simp [State.withSlots, State.slot]

/-- R58: the binding of the slots in a station where nothing is driven. -/
theorem bindSlots_of_off (clocks : List (LineId × Nat)) {s : State} (idle : s.running = false)
    (off : ∀ l : LineId, (s.line l).state = .off) :
    (bindSlots clocks s).dsq = s.dsq ∧ (∃ slots, (bindSlots clocks s).du = { s.du with slots }) ∧
      ∀ i : SlotId, ((s.slot i).bind clocks[i.val]?).sameDial ((bindSlots clocks s).slot i) := by
  have idle' : (s.withSlots clocks).running = false := idle
  have off' : ∀ l : LineId, ((s.withSlots clocks).line l).state = .off := off
  obtain ⟨dsq, slots, du⟩ := recomputeAll_of_off idle' off'
  rw [bindSlots_eq]
  refine ⟨dsq, ⟨slots, du⟩, fun i => ?_⟩
  rw [← withSlots_slot]
  exact recomputeAll_sameDial _ i

/-- R140: the take-up of a plan day leaves the list, the plans and the late limit. -/
theorem bellsTakeUp_lists (s : State) :
    let b := (bellsTakeUp s).bs
    b.entries = s.bs.entries ∧ b.plans = s.bs.plans ∧ b.weekday = s.bs.weekday ∧ b.lateLimit = s.bs.lateLimit := by
  unfold bellsTakeUp
  split
  · exact ⟨rfl, rfl, rfl, rfl⟩
  · unfold adoptPlanDay
    dsimp only
    rw [State.setBs_bs_same, startDay_eq]
    exact ⟨rfl, rfl, rfl, rfl⟩
  · unfold newPlanDay
    split
    · exact ⟨rfl, rfl, rfl, rfl⟩
    · split
      · rw [State.setBs_bs_same, startDay_eq]
        exact ⟨rfl, rfl, rfl, rfl⟩
      · exact ⟨rfl, rfl, rfl, rfl⟩

theorem bellsTakeUp_of_unset {s : State} (unset : s.school = none) : bellsTakeUp s = s := by
  unfold bellsTakeUp
  rw [unset]

/-- R22, R200: what the load makes of the station, the binding of the slots and the plan day apart. -/
theorem loadedWith_spec (i : CheckedImage) (s : State) :
    let x := (settingsOf i.sections).1
    let a := loadedWith i s
    let b := applySettings i x (settingsOf i.sections).2 s
    b.keepsAllBut [.du, .bs] a ∧ (∃ slots, a.du = { b.du with slots }) ∧ a.bs = (bellsTakeUp (bindSlots x.clocks b)).bs ∧
      ∀ j : SlotId, ((s.slot j).bind x.clocks[j.val]?).sameDial (a.slot j) := by
  intro x a b
  have idle : b.running = false := rfl
  have dsq : b.dsq = Sequencer.afterLoad x s.now := rfl
  have slots : ∀ j, b.slot j = s.slot j := fun _ => rfl
  have eq : a = bellsTakeUp (bindSlots x.clocks b) := rfl
  clear_value a b x
  have off : ∀ l : LineId, (b.line l).state = .off := fun l => by
    rw [afterLoad_line dsq]
    rfl
  obtain ⟨dsq', ⟨slots', du⟩, dials⟩ := bindSlots_of_off x.clocks idle off
  have frame := (bindSlots_frame x.clocks b).andThen (bellsTakeUp_frame (bindSlots x.clocks b))
  have taken := bellsTakeUp_frame (bindSlots x.clocks b)
  have du' := taken.part .du
  have dsq'' := taken.part .dsq
  simp only [State.sameIn] at du' dsq''
  subst eq
  refine ⟨fun p h => ?_, ⟨slots', du'.trans du⟩, rfl, fun j => ?_⟩
  · by_cases e : p = .dsq
    · subst e
      exact dsq''.trans dsq'
    · refine frame p ?_
      simp only [List.mem_append, List.mem_cons, List.not_mem_nil, or_false, not_or] at h ⊢
      exact ⟨⟨e, h.1⟩, h.2⟩
  · rw [State.slot_of_du (taken.part .du), ← slots]
    exact dials j

/-- R58, R100, R101: the station so loaded is at rest. -/
theorem loadedWith_atRest (i : CheckedImage) {s : State} (run : s.ds.supply = .run) :
    (loadedWith i s).AtRest ∧ ∀ z : ZoneId, ((loadedWith i s).zone z).owner = none := by
  obtain ⟨frame, -, -, -⟩ := loadedWith_spec i s
  have sp := frame.part .sp
  have ds := frame.part .ds
  have dsq := (frame.part .dsq).trans (show _ = Sequencer.afterLoad (settingsOf i.sections).1 s.now from rfl)
  obtain ⟨lines, zones⟩ := settingsOf_zones i.sections
  have bare : ∀ z : ZoneId, ((loadedWith i s).zone z) = (zonesFrom lines)[z] := fun z => by
    rw [State.zone_of_za (frame.part .za), ← zones]
    rfl
  have line := fun l => afterLoad_line dsq l
  simp only [State.sameIn] at sp ds
  refine ⟨⟨?_, fun l => ?_, fun l => ?_, ?_, fun z => ?_⟩, fun z => ?_⟩
  · rw [State.listening, sp, ds]
    show (_ == _ && s.ds.supply == _) = _
    rw [run]
    rfl
  · rw [line]
    rfl
  · rw [line]
    rfl
  · rw [dsq]
    rfl
  · rw [bare, zonesFrom_zone]
    exact ⟨rfl, rfl, rfl, rfl, rfl⟩
  · rw [bare, zonesFrom_zone]
    rfl

/-! ## The step -/

/-- R198: the image is read in RUN. -/
theorem State.supply_of_reading {s : State} (reading : s.reading = true) : s.ds.supply = .run := by
  simp only [State.reading, State.loading, Bool.and_eq_true, beq_iff_eq] at reading
  exact reading.1.2

/-- R199, R200: CONFIG_IMAGE_READ is one change, by the image read. -/
theorem exec_configImageRead (memory : List Byte) {s : State} (up : s.up = true) (reading : s.reading = true) :
    ∃ f : State → State, exec (.configImageRead memory) s = .next (asOneChange f s) ∧ f s = imageRead memory s :=
  ⟨_, congrArg Host.Outcome.next (change_of_up up), if_pos reading⟩

/-- R58: the slots after the step are those of the load. -/
theorem bind_dial (d : DialSlot) (clock : Option (LineId × Nat)) :
    (∀ l m, clock = some (l, m) → (d.bind clock).line = some l ∧ (d.bind clock).modulus = m ∧
      (d.bind clock).dial = d.dial.map (· % m) ∧ (d.bind clock).polarity = d.polarity) ∧
    (clock = none → (d.bind clock).line = none ∧ (d.bind clock).dial = none ∧ (d.bind clock).polarity = .neg) := by
  constructor
  · rintro l m rfl
    exact ⟨rfl, rfl, rfl, rfl⟩
  · rintro rfl
    exact ⟨rfl, rfl, rfl⟩

/-- R139: what the Bell Scheduler keeps over an unset school time. -/
theorem afterLoad_kept (b : BellScheduler) (x : Settings) (held : Option Half) (crc : Half) :
    let c := b.afterLoad x (sameImage held crc)
    (held = some crc → c.planDay = b.planDay ∧ c.activePlan = b.activePlan ∧ c.overrides = b.overrides ∧
      c.shifts = b.shifts ∧ c.marks = b.marks ∧ c.taken = b.taken ∧ c.missed = b.missed) ∧
    (held ≠ some crc → c.planDay = none ∧ c.activePlan = none ∧ c.overrides = [] ∧ c.shifts = [] ∧
      c.marks = [] ∧ c.taken = [] ∧ c.missed = 0) := by
  intro c
  constructor <;> intro h
  · have same : sameImage held crc = true := by simp [sameImage, h]
    simp [c, BellScheduler.afterLoad, same]
  · have other : sameImage held crc = false := by simp [sameImage, h]
    simp [c, BellScheduler.afterLoad, other, BellScheduler.powerOn]

/-- R199, R200: an image that passes. -/
theorem imageRead_passes {i : CheckedImage} {s : State} {f : State → State} (run : s.ds.supply = .run)
    (eq : f s = enterListening i s) :
    let b := applySettings i (settingsOf i.sections).1 (settingsOf i.sections).2 s
    (loadedWith i s).YieldsOnly (asOneChange f s) ∧
      b.keepsAllBut [.ylc, .za, .bs, .dsq, .du, .fu, .dru] (asOneChange f s) ∧
      (∃ slots, (asOneChange f s).du = { b.du with slots }) ∧
      (∀ j : SlotId, ((s.slot j).bind (settingsOf i.sections).1.clocks[j.val]?).sameDial ((asOneChange f s).slot j)) ∧
      (asOneChange f s).dru.yielding = (s.dru.contact || (asOneChange f s).dru.peerCause) ∧
      ∀ z : ZoneId, ((asOneChange f s).zone z).owner =
        if (asOneChange f s).dru.yielding then some .yield else none := by
  obtain ⟨rest, free⟩ := loadedWith_atRest i run
  obtain ⟨only, yields, owners⟩ := yieldAtListening_of_rest rest free
  obtain ⟨loaded, du, -, dials⟩ := loadedWith_spec i s
  have yielded := yieldAtListening_frame (loadedWith i s)
  obtain ⟨ended, frame, zones⟩ := asOneChange_of_rest rest only (eq.trans (enterListening_eq i s))
  have whole := (loaded.andThen yielded).andThen frame
  have contact : (loadedWith i s).dru.contact = s.dru.contact := by
    have same := loaded.part .dru
    simp only [State.sameIn] at same
    rw [same]
    rfl
  have dru := frame.part .dru
  have duEnd := (frame.part .du).trans (yielded.part .du)
  generalize asOneChange f s = t at *
  intro b
  simp only [State.sameIn] at dru
  refine ⟨ended, whole.within, ?_, fun j => ?_, ?_, fun z => ?_⟩
  · obtain ⟨slots, du⟩ := du
    exact ⟨slots, duEnd.trans du⟩
  · rw [State.slot_of_du duEnd]
    exact dials j
  · rw [dru, yields, contact]
  · rw [zones, owners, dru]

/-- R101: the lines of the zones. -/
theorem loaded_zone (i : CheckedImage) {s t : State} (only : (loadedWith i s).YieldsOnly t) (z : ZoneId) :
    (t.zone z).bellLine = (settingsOf i.sections).1.zones[z].bellLine ∧
      (t.zone z).pageLine = (settingsOf i.sections).1.zones[z].pageLine ∧
      (t.zone z).sounderLine = (settingsOf i.sections).1.zones[z].sounderLine := by
  obtain ⟨loaded, -⟩ := loadedWith_spec i s
  obtain ⟨owner, e, -⟩ := only.zone z
  rw [e, State.zone_of_za (loaded.part .za)]
  exact ⟨rfl, rfl, rfl⟩

/-- R164, R181: the settings of the Drill Unit, and its contact. -/
theorem loaded_dru (i : CheckedImage) {s t : State} (only : (loadedWith i s).YieldsOnly t) :
    t.dru.evacuationLimit = (settingsOf i.sections).1.evacuationLimit ∧
      t.dru.soundLimit = (settingsOf i.sections).1.soundLimit ∧
      t.dru.schoolWide = (settingsOf i.sections).1.schoolWide ∧ t.dru.contact = s.dru.contact := by
  obtain ⟨loaded, -⟩ := loadedWith_spec i s
  obtain ⟨record, peerCause, yielding, e⟩ := only.dru
  have dru := loaded.part .dru
  simp only [State.sameIn] at dru
  rw [e, dru]
  exact ⟨rfl, rfl, rfl, rfl⟩

/-- R121 to R123, R139: the lists of the Bell Scheduler, and over an unset school time all of it. -/
theorem loaded_bs (i : CheckedImage) {s t : State} (only : (loadedWith i s).YieldsOnly t) :
    let x := (settingsOf i.sections).1
    t.bs.entries = x.entries ∧ t.bs.plans = x.plans ∧ t.bs.weekday = x.weekday ∧ t.bs.lateLimit = x.lateLimit ∧
      (s.school = none → t.bs = s.bs.afterLoad x (sameImage s.sp.imageCrc i.crc)) := by
  obtain ⟨-, -, bells, -⟩ := loadedWith_spec i s
  have bound := bindSlots_frame (settingsOf i.sections).1.clocks
    (applySettings i (settingsOf i.sections).1 (settingsOf i.sections).2 s)
  have bs := bound.part .bs
  have tb := bound.part .tb
  have lists := bellsTakeUp_lists (bindSlots (settingsOf i.sections).1.clocks
    (applySettings i (settingsOf i.sections).1 (settingsOf i.sections).2 s))
  simp only [State.sameIn] at bs tb
  rw [← bells, bs, ← only.bs] at lists
  obtain ⟨entries, plans, weekday, lateLimit⟩ := lists
  refine ⟨entries, plans, weekday, lateLimit, fun unset => ?_⟩
  rw [only.bs, bells, bellsTakeUp_of_unset, bs]
  · rfl
  · rw [State.school, tb]
    exact unset

/-- R21, R203: the entry to CONFIG-FAULT after a read, the beacon timer started with B at its default. -/
theorem imageRead_fails {s : State} {n : Station} (own : s.sp.number = some n) :
    enterConfigFault .configFault s =
      { s with
        sp := { s.sp with
          config := .configFault
          faultCode := some .configFault
          image := none
          imageCrc := none
          warnings := []
          warningTotal := 0
          csc := false
          displayDue := some (s.now + 1000) }
        tb := { TimeBase.powerOn with
          timer := s.tb.timer
          beaconDue := some (s.now + 10000 * stationNumber n / 32) }
        bs := BellScheduler.powerOn
        dru := { s.dru with yielding := false } } := by
  have default : 10 * 1000 = 10000 := rfl
  simp only [enterConfigFault, startBeaconTimer, State.own, own, State.now, State.beaconMs, TimeBase.fault,
    TimeBase.powerOn, firstBeacon, Config.displayMs, default]

/-- Settles O17. -/
theorem imageReadEntersListeningOrFault : Obligations.ImageReadEntersListeningOrFault := by
  intro memory n s up reading own
  obtain ⟨f, run, eq⟩ := exec_configImageRead memory up reading
  constructor
  · intro i passes x warnings
    unfold imageRead at eq
    rw [passes] at eq
    obtain ⟨only, frame, ⟨slots, du⟩, dials, yields, owners⟩ := imageRead_passes (State.supply_of_reading reading) eq
    obtain ⟨loaded, -, bells, -⟩ := loadedWith_spec i s
    have dsq : (asOneChange f s).dsq = Sequencer.afterLoad x s.now := only.dsq.trans (loaded.part .dsq)
    have zones := loaded_zone i only
    obtain ⟨evacuation, sound, wide, contact⟩ := loaded_dru i only
    obtain ⟨entries, plans, weekday, lateLimit, unset⟩ := loaded_bs i only
    obtain ⟨kept, cleared⟩ := afterLoad_kept s.bs x s.sp.imageCrc i.crc
    refine ⟨_, run, frame.part .sp, frame.part .tb, ?_⟩
    rw [du, dsq]
    refine ⟨rfl, rfl, rfl, rfl, rfl, rfl, rfl, rfl, rfl, rfl, rfl, fun l => ?_, fun z => ?_, fun j l m clock => ?_,
      fun j clock => ?_, entries, plans, weekday, lateLimit, only.keys.trans (congrArg FloorUnit.keys (loaded.part .fu)),
      only.readyWait.trans (congrArg FloorUnit.readyWait (loaded.part .fu)), evacuation, sound, wide, contact, yields,
      fun school held => ?_, fun school other => ?_, ?_⟩
    · rw [afterLoad_line dsq]
      exact ⟨rfl, rfl⟩
    · obtain ⟨bell, page, sounder⟩ := zones z
      exact ⟨bell, page, sounder, owners z⟩
    · obtain ⟨line, modulus, dial, polarity⟩ := dials j
      obtain ⟨line', modulus', dial', polarity'⟩ := (bind_dial (s.slot j) _).1 l m clock
      exact ⟨line.trans line', modulus.trans modulus', dial.trans dial', polarity.trans polarity'⟩
    · obtain ⟨line, -, dial, polarity⟩ := dials j
      obtain ⟨line', dial', polarity'⟩ := (bind_dial (s.slot j) _).2 clock
      exact ⟨line.trans line', dial.trans dial', polarity.trans polarity'⟩
    · rw [unset school]
      exact kept held
    · rw [unset school]
      exact cleared other
    · exact ((applySettings_frame i x warnings s).andThen frame).within
  · intro fails
    rw [imageRead, fails] at eq
    rw [run, asOneChange_of_za (by rw [eq, imageRead_fails own]), eq, imageRead_fails own]

end Sys2Proof.Machine
end

section
/-! PROOF. LISTENING_END: what the entry to RUNNING leaves of a zone and its sounder line that nothing else names (R113,
R118). -/

namespace Sys2Proof.Machine

-- one declaration at a time, as in the tests: the threads of a whole text's proofs do not fit the memory limit
set_option Elab.async false

/-! ## Operations away from a line and a zone -/

/-- The line, the owner and the sounder flag of the zone, and the lines that every zone names stand. -/
structure State.Spares (z : ZoneId) (l : LineId) (s t : State) : Prop where
  line : t.line l = s.line l
  owner : (t.zone z).owner = (s.zone z).owner
  sounderOn : (t.zone z).sounderOn = (s.zone z).sounderOn
  lines : ∀ y : ZoneId, (t.zone y).bellLine = (s.zone y).bellLine ∧ (t.zone y).pageLine = (s.zone y).pageLine ∧
    (t.zone y).sounderLine = (s.zone y).sounderLine

/-- R113: no zone names the line but `z`, for its sounder. -/
def State.namedBy (s : State) (z : ZoneId) (l : LineId) : Prop :=
  ∀ y : ZoneId, (s.zone y).bellLine ≠ some l ∧ (s.zone y).pageLine ≠ some l ∧ (y ≠ z → (s.zone y).sounderLine ≠ some l)

section
variable {z : ZoneId} {l : LineId} {s t u : State}

theorem State.Spares.refl (s : State) : s.Spares z l s := ⟨rfl, rfl, rfl, fun _ => ⟨rfl, rfl, rfl⟩⟩

theorem State.Spares.trans (h1 : s.Spares z l t) (h2 : t.Spares z l u) : s.Spares z l u where
  line := h2.line.trans h1.line
  owner := h2.owner.trans h1.owner
  sounderOn := h2.sounderOn.trans h1.sounderOn
  lines y := by
    obtain ⟨bell, page, sounder⟩ := h1.lines y
    obtain ⟨bell', page', sounder'⟩ := h2.lines y
    exact ⟨bell'.trans bell, page'.trans page, sounder'.trans sounder⟩

theorem State.Spares.of_zones (line : t.line l = s.line l) (za : t.za = s.za) : s.Spares z l t := by
  have zones : ∀ y, t.zone y = s.zone y := fun y => by simp [State.zone, za]
  exact ⟨line, by rw [zones], by rw [zones], fun y => by rw [zones]; exact ⟨rfl, rfl, rfl⟩⟩

theorem State.Spares.of_same (dsq : t.dsq = s.dsq) (za : t.za = s.za) : s.Spares z l t :=
  .of_zones (by simp [State.line, dsq]) za

theorem State.namedBy.spared (named : s.namedBy z l) (h : s.Spares z l t) : t.namedBy z l := fun y => by
  obtain ⟨bell, page, sounder⟩ := h.lines y
  rw [bell, page, sounder]
  exact named y

/-- A zone rewritten with its lines is spared where it is another, or keeps its owner and its sounder flag. -/
theorem setZone_spares {y : ZoneId} {r : Zone} (bell : r.bellLine = (s.zone y).bellLine)
    (page : r.pageLine = (s.zone y).pageLine) (sounder : r.sounderLine = (s.zone y).sounderLine)
    (own : y = z → r.owner = (s.zone z).owner ∧ r.sounderOn = (s.zone z).sounderOn) :
    s.Spares z l (s.setZone y r) := by
  refine ⟨rfl, ?_, ?_, fun x => ?_⟩
  · by_cases e : z = y
    · subst e
      rw [State.setZone_zone_same]
      exact (own rfl).1
    · rw [State.setZone_zone_ne _ _ _ _ e]
  · by_cases e : z = y
    · subst e
      rw [State.setZone_zone_same]
      exact (own rfl).2
    · rw [State.setZone_zone_ne _ _ _ _ e]
  · by_cases e : x = y
    · subst e
      rw [State.setZone_zone_same]
      exact ⟨bell, page, sounder⟩
    · rw [State.setZone_zone_ne _ _ _ _ e]
      exact ⟨rfl, rfl, rfl⟩

theorem setLine_spares {m : LineId} {r : LineRecord} (h : m ≠ l) : s.Spares z l (s.setLine m r) :=
  .of_zones (State.setLine_line_ne _ _ _ _ h.symm) rfl

theorem bellMissed_spares (b : Bell) : s.Spares z l (bellMissed b s) :=
  .of_same ((bellMissed_frame b s).part .dsq) ((bellMissed_frame b s).part .za)

theorem requestLine_spares {m : LineId} {q : EnergizeRequest} {b : Bool} (h : m ≠ l) (asked : requestLine m q s = (t, b)) :
    s.Spares z l t := by
  rcases requestLine_cases m q s with ⟨-, -, e⟩ | ⟨-, e⟩ <;> rw [e] at asked <;> cases asked
  · exact setLine_spares h
  · exact .refl s

theorem cancelPlayer_spares {m : LineId} (h : m ≠ l) : s.Spares z l (cancelPlayer m s).1 := by
  unfold cancelPlayer
  dsimp only
  split
  · exact .refl s
  · exact setLine_spares h
  · exact setLine_spares h
  · exact setLine_spares h

theorem requestPhase_spares {m : LineId} (h : m ≠ l) (age : Nat) : s.Spares z l (requestPhase m age s).1 := by
  unfold requestPhase
  dsimp only
  split <;> rename_i asked
  · exact (requestLine_spares h asked).trans (setLine_spares h)
  · exact (requestLine_spares h asked).trans (setLine_spares h)

/-- R87: a player started on another line. -/
theorem startPlayer_spares {m : LineId} (h : m ≠ l) (pattern : Option (Fin 8)) :
    s.Spares z l (startPlayer m pattern s).1 := by
  unfold startPlayer
  split
  · exact .refl s
  · exact ((cancelPlayer_spares h).trans (setLine_spares h)).trans (requestPhase_spares h s.now)

theorem pageSwitchOn_spares {m : LineId} (h : m ≠ l) : s.Spares z l (pageSwitchOn m s).1 := by
  unfold pageSwitchOn
  split
  · exact .refl s
  · split
    · exact setLine_spares h
    · exact .refl s

theorem pageSwitchOff_spares {m : LineId} (h : m ≠ l) : s.Spares z l (pageSwitchOff m s) := by
  unfold pageSwitchOff
  split
  · exact setLine_spares h
  · exact .refl s

/-! ## The effects of the other zones -/

variable {y : ZoneId} (named : s.namedBy z l) (other : y ≠ z)
include named other

theorem cutBellPlayer_spares {m : LineId} (bell : (s.zone y).bellLine = some m) :
    s.Spares z l (cutBellPlayer m y s) := by
  have h : m ≠ l := fun e => (named y).1 (e ▸ bell)
  unfold cutBellPlayer
  split <;> rename_i cancelled
  · have spared := cancelPlayer_spares (s := s) (z := z) h
    rw [cancelled] at spared
    exact spared.trans (setZone_spares rfl rfl rfl fun e => absurd e other)
  · have spared := cancelPlayer_spares (s := s) (z := z) h
    rw [cancelled] at spared
    exact spared

theorem pageLineOff_spares : s.Spares z l (pageLineOff y s) := by
  unfold pageLineOff
  split
  · rename_i m page
    have h : m ≠ l := fun e => (named y).2.1 (e ▸ page)
    split
    · exact (pageSwitchOff_spares h).trans (setZone_spares rfl rfl rfl fun e => absurd e other)
    · exact .refl s
  · exact .refl s

theorem pageLineOn_spares : s.Spares z l (pageLineOn y s) := by
  unfold pageLineOn
  split
  · rename_i m page
    have h : m ≠ l := fun e => (named y).2.1 (e ▸ page)
    exact (pageSwitchOn_spares h).trans (setZone_spares rfl rfl rfl fun e => absurd e other)
  · exact .refl s

theorem sounderOff_spares : s.Spares z l (sounderOff y s) := by
  unfold sounderOff
  split
  · rename_i m sounder
    have h : m ≠ l := fun e => (named y).2.2 other (e ▸ sounder)
    split
    · exact (cancelPlayer_spares h).trans (setZone_spares rfl rfl rfl fun e => absurd e other)
    · exact .refl s
  · exact .refl s

theorem sounderStart_spares : s.Spares z l (sounderStart y s) := by
  unfold sounderStart
  split
  · rename_i m sounder
    have h : m ≠ l := fun e => (named y).2.2 other (e ▸ sounder)
    exact (startPlayer_spares h none).trans (setZone_spares rfl rfl rfl fun e => absurd e other)
  · exact .refl s

/-- R113: the effects that start at another zone. -/
theorem startEffects_spares : s.Spares z l (startEffects y s) := by
  unfold startEffects
  split
  · exact .refl s
  · split
    · split
      · rename_i m bell
        have h : m ≠ l := fun e => (named y).1 (e ▸ bell)
        exact startPlayer_spares h _
      · exact .refl s
    · exact pageLineOn_spares named other
    · split
      · exact sounderStart_spares named other
      · exact .refl s
    · exact .refl s
    · exact .refl s

/-- R113: the effects that stop at another zone. -/
theorem stopEffects_spares (old : Option Owner) : s.Spares z l (stopEffects old y s) := by
  unfold stopEffects
  split
  · split
    · rename_i bell
      exact cutBellPlayer_spares named other bell
    · exact .refl s
  · split
    · exact .refl s
    · exact pageLineOff_spares named other
  · exact sounderOff_spares named other
  · exact .refl s
  · exact .refl s

omit named in
/-- R112: another zone that has become IDLE. -/
theorem examineDeferred_spares : s.Spares z l (examineDeferred y s) := by
  have cleared : ∀ r : Zone, r.bellLine = (s.zone y).bellLine → r.pageLine = (s.zone y).pageLine →
      r.sounderLine = (s.zone y).sounderLine → s.Spares z l (s.setZone y r) :=
    fun r bell page sounder => setZone_spares bell page sounder fun e => absurd e other
  have missed (b : Bell) := (cleared { s.zone y with deferred := none } rfl rfl rfl).trans (bellMissed_spares b)
  unfold examineDeferred
  dsimp only
  split
  · exact .refl s
  · rename_i b _
    split
    · exact missed b
    · split
      · exact missed b
      · split
        · refine (cleared { s.zone y with deferred := none } rfl rfl rfl).trans (setZone_spares ?_ ?_ ?_ fun e => absurd e other)
          all_goals rw [State.setZone_zone_same]
        · exact missed b

/-- R111 to R113: another zone settled. -/
theorem settleZone_spares (old : Zone) : s.Spares z l (settleZone old y s) := by
  unfold settleZone
  have examined : s.Spares z l (if (s.zone y).owner.isNone && old.owner.isSome then examineDeferred y s else s) := by
    split
    · exact examineDeferred_spares other
    · exact .refl s
  dsimp only
  generalize (if (s.zone y).owner.isNone && old.owner.isSome then examineDeferred y s else s) = v at *
  split
  · exact examined
  · have stopped := examined.trans (stopEffects_spares (named.spared examined) other old.owner)
    exact stopped.trans (startEffects_spares (named.spared stopped) other)

end

/-! ## The slots and the entries -/

/-- R64: an impulse on another line. -/
theorem tryImpulse_spares {z : ZoneId} {l : LineId} {s : State} {i : SlotId} (other : (s.slot i).line ≠ some l) :
    s.Spares z l (tryImpulse i s) := by
  unfold tryImpulse
  dsimp only
  split
  · exact .refl s
  · rename_i m bound
    have h : m ≠ l := fun e => other (e ▸ bound)
    split
    · split <;> rename_i asked
      · exact (requestLine_spares h asked).trans (.of_same rfl rfl)
      · exact requestLine_spares h asked
    · exact .refl s

/-- R64: impulses of slots that are not bound to the line. -/
theorem forEach_tryImpulse_spares {z : ZoneId} {l : LineId} (slots : List SlotId) {s : State}
    (other : ∀ i : SlotId, (s.slot i).line ≠ some l) : s.Spares z l (forEach slots tryImpulse s) := by
  induction slots generalizing s with
  | nil => exact .refl s
  | cons i rest ih =>
    rw [forEach_cons]
    refine (tryImpulse_spares (other i)).trans (ih fun j => ?_)
    obtain ⟨impulse, du⟩ := tryImpulse_du i s
    rw [State.slot_of_du (t := tryImpulse i s) du]
    by_cases e : j = i
    · subst e
      rw [State.setSlot_slot_same]
      exact other j
    · rw [State.setSlot_slot_ne _ _ _ _ e]
      exact other j

/-- R105: a bell asked of zones leaves a zone at DRILL, but for what it defers. -/
theorem bellRequest_spares {z : ZoneId} {l : LineId} {s : State} {i : Station} {n : Byte}
    (drill : (s.zone z).owner = some (.drill i n)) (b : Bell) (y : ZoneId) : s.Spares z l (bellRequest b y s) := by
  unfold bellRequest
  dsimp only
  split
  · exact bellMissed_spares b
  · split
    · exact bellMissed_spares b
    · split
      · exact bellMissed_spares b
      · split
        · exact bellMissed_spares b
        · rename_i idle
          refine setZone_spares rfl rfl rfl fun e => ?_
          subst e
          rw [Zone.level, drill] at idle
          cases idle
        · exact .refl s
        all_goals exact setZone_spares rfl rfl rfl fun e => by subst e; exact ⟨rfl, rfl⟩

theorem forEach_bellRequest_spares {z : ZoneId} {l : LineId} (zones : List ZoneId) {s : State} {i : Station} {n : Byte}
    (drill : (s.zone z).owner = some (.drill i n)) (b : Bell) : s.Spares z l (forEach zones (bellRequest b) s) := by
  induction zones generalizing s with
  | nil => exact .refl s
  | cons y rest ih =>
    rw [forEach_cons]
    have asked := bellRequest_spares (l := l) drill b y
    exact asked.trans (ih (asked.owner.trans drill))

theorem examineEntry_spares {z : ZoneId} {l : LineId} {s : State} {i : Station} {n : Byte}
    (drill : (s.zone z).owner = some (.drill i n)) (day j : Nat) (due : Int) :
    s.Spares z l (examineEntry day j due s) := by
  unfold examineEntry
  dsimp only
  split
  · have taken : s.Spares z l (s.setBs ((s.bs.setMark j .taken).take (s.bs.window.base + j))) := .of_same rfl rfl
    exact taken.trans (forEach_bellRequest_spares _ (taken.owner.trans drill) _)
  · exact .of_same rfl rfl

theorem examineDueUpTo_spares {z : ZoneId} {l : LineId} (k : Nat) {s : State} {i : Station} {n : Byte}
    (drill : (s.zone z).owner = some (.drill i n)) : s.Spares z l (examineDueUpTo k s) := by
  induction k generalizing s with
  | zero => exact .refl s
  | succ k ih =>
    unfold examineDueUpTo
    split
    · split
      · rename_i day j due _ _ _ _ _
        have entry := examineEntry_spares (l := l) drill day j due
        exact entry.trans (ih (entry.owner.trans drill))
      · exact .refl s
    · exact .refl s

/-- R131: the examination of entries leaves a zone at DRILL, but for what it defers. -/
theorem examineDue_spares {z : ZoneId} {l : LineId} {s : State} {i : Station} {n : Byte}
    (drill : (s.zone z).owner = some (.drill i n)) : s.Spares z l (examineDue s) := by
  unfold examineDue
  split
  · exact examineDueUpTo_spares _ drill
  · exact .refl s

/-! ## The zone and its sounder -/

/-- R113: the sounder of the zone at the line plays from its first on-phase, granted or waiting. -/
structure State.Sounds (z : ZoneId) (l : LineId) (owner : Option Owner) (s : State) : Prop where
  owner : (s.zone z).owner = owner
  sounderOn : (s.zone z).sounderOn = true
  pattern : (s.line l).player.pattern = none
  phase : (s.line l).player.phase = 0
  request : ∃ q, (s.line l).request = some q ∧ q.requester = .player
  state : (s.line l).state = .waiting ∧ (s.line l).player.state = .onWait ∨
    (s.line l).state = .energized ∧ (s.line l).player.state = .on

theorem State.Sounds.spared {z : ZoneId} {l : LineId} {owner : Option Owner} {s t : State} (sounds : s.Sounds z l owner)
    (h : s.Spares z l t) : t.Sounds z l owner where
  owner := h.owner.trans sounds.owner
  sounderOn := h.sounderOn.trans sounds.sounderOn
  pattern := by rw [h.line]; exact sounds.pattern
  phase := by rw [h.line]; exact sounds.phase
  request := by rw [h.line]; exact sounds.request
  state := by rw [h.line]; exact sounds.state

/-- R87: the sounder player of an OFF line starts in RUNNING. -/
theorem startPlayer_sounds {l : LineId} {s : State} (running : s.running = true) (off : (s.line l).state = .off) :
    let t := (startPlayer l none s).1
    (startPlayer l none s).2 = true ∧ t.za = s.za ∧ (t.line l).player.pattern = none ∧ (t.line l).player.phase = 0 ∧
      (∃ q, (t.line l).request = some q ∧ q.requester = .player) ∧ (t.line l).state = .waiting ∧
      (t.line l).player.state = .onWait := by
  have cancelled : ((cancelPlayer l s).1.line l).state = .off := by
    unfold cancelPlayer
    dsimp only
    split
    · exact off
    · rw [State.setLine_line_same]
      exact off
    all_goals rw [State.setLine_line_same]; rfl
  have frame := cancelPlayer_frame l s
  have running' := (State.running_of_sp_ds (frame.part .sp) (frame.part .ds)).trans running
  have za := frame.part .za
  simp only [State.sameIn] at za
  unfold startPlayer
  rw [if_neg (by simp [running, off])]
  dsimp only
  generalize (cancelPlayer l s).1 = c at *
  unfold requestPhase requestLine
  simp [running', cancelled, za]

/-- R113: the effects of a SOUNDING drill start at its zone. -/
theorem startEffects_sounds {z : ZoneId} {l : LineId} {s : State} {i : Station} {n : Byte}
    (running : s.running = true) (drill : (s.zone z).owner = some (.drill i n)) (sounding : s.drillSounding i n = true)
    (sounder : (s.zone z).sounderLine = some l) (off : (s.line l).state = .off) (named : s.namedBy z l) :
    (startEffects z s).Sounds z l (some (.drill i n)) ∧ (startEffects z s).namedBy z l := by
  obtain ⟨taken, za, pattern, phase, request, state⟩ := startPlayer_sounds running off
  have e : startEffects z s = sounderStart z s := by
    simp [startEffects, running, drill, sounding]
  have zone : (startPlayer l none s).1.zone z = s.zone z := by simp [State.zone, za]
  rw [e]
  unfold sounderStart
  rw [sounder]
  dsimp only
  rw [taken, zone]
  generalize (startPlayer l none s).1 = t at *
  refine ⟨⟨by rw [State.setZone_zone_same]; exact drill, by rw [State.setZone_zone_same], pattern, phase, request,
    .inl state⟩, fun y => ?_⟩
  by_cases e : y = z
  · subst e
    rw [State.setZone_zone_same]
    exact named y
  · rw [State.setZone_zone_ne _ _ _ _ e, State.zone, za]
    exact named y

/-- R113: a drill SOUNDING is a matter of the record. -/
theorem State.drillSounding_of_dru {s t : State} (h : s.sameIn t .dru) (i : Station) (n : Byte) :
    t.drillSounding i n = s.drillSounding i n := by
  simp only [State.sameIn] at h
  simp [State.drillSounding, h]

/-- R113: the effects start at every zone of a list, the sounder of a SOUNDING drill among them. -/
theorem forEach_startEffects_sounds {z : ZoneId} {l : LineId} {i : Station} {n : Byte} (zones : List ZoneId) {s : State}
    (nodup : zones.Nodup) (mem : z ∈ zones) (running : s.running = true) (named : s.namedBy z l)
    (drill : (s.zone z).owner = some (.drill i n)) (sounding : s.drillSounding i n = true)
    (sounder : (s.zone z).sounderLine = some l) (off : (s.line l).state = .off) :
    (forEach zones startEffects s).Sounds z l (some (.drill i n)) ∧ (forEach zones startEffects s).namedBy z l := by
  have away : ∀ (zs : List ZoneId) (t : State), z ∉ zs → t.namedBy z l → t.Spares z l (forEach zs startEffects t) := by
    intro zs
    induction zs with
    | nil => exact fun t _ _ => .refl t
    | cons y ys ih =>
      intro t absent named
      rw [List.mem_cons, not_or] at absent
      have first := startEffects_spares named (Ne.symm absent.1)
      exact first.trans (ih _ absent.2 (named.spared first))
  induction zones generalizing s with
  | nil => simp at mem
  | cons y ys ih =>
    rw [List.nodup_cons] at nodup
    rw [forEach_cons]
    by_cases e : y = z
    · subst e
      obtain ⟨sounds, named'⟩ := startEffects_sounds running drill sounding sounder off named
      have rest := away ys _ nodup.1 named'
      exact ⟨sounds.spared rest, named'.spared rest⟩
    · have first := startEffects_spares named e
      have frame := startEffects_frame y s
      exact ih nodup.2 ((List.mem_cons.mp mem).resolve_left (Ne.symm e))
        ((State.running_of_sp_ds (frame.part .sp) (frame.part .ds)).trans running) (named.spared first)
        (first.owner.trans drill) ((State.drillSounding_of_dru (frame.part .dru) i n).trans sounding)
        ((first.lines z).2.2.trans sounder) (by rw [first.line]; exact off)

/-! ## The end of the step -/

/-- R111 to R113: the zones settled, a zone at its old owner left alone. -/
theorem settleZones_sounds {z : ZoneId} {l : LineId} {old : Vector Zone 8} {s : State}
    (sounds : s.Sounds z l old[z].owner) (named : s.namedBy z l) :
    (settleZones old s).Sounds z l old[z].owner := by
  have each : ∀ zones : List ZoneId, ∀ t : State, t.Sounds z l old[z].owner → t.namedBy z l →
      (forEach zones (fun y u => settleZone old[y] y u) t).Sounds z l old[z].owner := by
    intro zones
    induction zones with
    | nil => exact fun t sounds _ => sounds
    | cons y ys ih =>
      intro t sounds named
      rw [forEach_cons]
      by_cases e : y = z
      · subst e
        rw [settleZone_same sounds.owner]
        exact ih t sounds named
      · have spared := settleZone_spares named e old[y]
        exact ih _ (sounds.spared spared) (named.spared spared)
  have settled := each allZones s sounds named
  unfold settleZones
  generalize forEach allZones (fun y u => settleZone old[y] y u) s = t at settled
  exact ⟨settled.owner, settled.sounderOn, settled.pattern, settled.phase, settled.request, settled.state⟩

/-- R114: a bell marked started at a zone. -/
theorem bellStarted_spares {z : ZoneId} {l m : LineId} {s : State} : s.Spares z l (bellStarted m s) := by
  unfold bellStarted
  split
  · exact .refl s
  · split
    · exact setZone_spares rfl rfl rfl fun e => by subst e; exact ⟨rfl, rfl⟩
    · exact .refl s

/-- R83, R84: a grant of another line. -/
theorem grant_spares {z : ZoneId} {l m : LineId} (h : m ≠ l) {s : State} : s.Spares z l (grant m s) := by
  unfold grant
  split
  · exact .refl s
  · rename_i q _
    have driven : s.Spares z l (s.setLine m { s.line m with state := .energized, energizeEnd := some (s.now + q.width) }) :=
      setLine_spares h
    dsimp only
    generalize s.setLine m { s.line m with state := .energized, energizeEnd := some (s.now + q.width) } = t at *
    have granted : s.Spares z l { t with dsq := { t.dsq with lastGrant := some s.now } } :=
      driven.trans (.of_zones rfl rfl)
    generalize ({ t with dsq := { t.dsq with lastGrant := some s.now } } : State) = u at *
    unfold reportStarted
    split
    · exact granted.trans (.of_same rfl rfl)
    · dsimp only
      split
      · exact (granted.trans (setLine_spares h)).trans bellStarted_spares
      · exact granted.trans (setLine_spares h)

/-- R84, R87: a grant to a sounder player. -/
theorem grant_of_player {l : LineId} {s : State} {q : EnergizeRequest} (request : (s.line l).request = some q)
    (player : q.requester = .player) (pattern : (s.line l).player.pattern = none) :
    (grant l s).line l = { s.line l with
      state := .energized, energizeEnd := some (s.now + q.width), player := { (s.line l).player with state := .on } } ∧
    (grant l s).za = s.za := by
  unfold grant
  rw [request]
  dsimp only
  have line := s.setLine_line_same l { s.line l with state := .energized, energizeEnd := some (s.now + q.width) }
  have za : (s.setLine l { s.line l with state := .energized, energizeEnd := some (s.now + q.width) }).za = s.za := rfl
  generalize s.setLine l { s.line l with state := .energized, energizeEnd := some (s.now + q.width) } = t at *
  have line' : ({ t with dsq := { t.dsq with lastGrant := some s.now } } : State).line l = t.line l := rfl
  have za' : ({ t with dsq := { t.dsq with lastGrant := some s.now } } : State).za = t.za := rfl
  generalize ({ t with dsq := { t.dsq with lastGrant := some s.now } } : State) = u at *
  rw [line] at line'
  unfold reportStarted
  rw [player, line']
  dsimp only
  rw [pattern, Option.isSome_none, Bool.and_false, if_neg Bool.false_ne_true, State.setLine_line_same]
  exact ⟨by rw [request], za'.trans za⟩

/-- R83, R84: a grant of the line itself starts its first on-phase. -/
theorem grant_sounds {z : ZoneId} {l : LineId} {owner : Option Owner} {s : State} (sounds : s.Sounds z l owner)
    (m : LineId) : (grant m s).Sounds z l owner := by
  by_cases e : m = l
  · subst e
    obtain ⟨hown, hon, pattern, phase, ⟨q, request, player⟩, -⟩ := sounds
    obtain ⟨line, za⟩ := grant_of_player request player pattern
    exact ⟨by rw [State.zone, za]; exact hown, by rw [State.zone, za]; exact hon, by rw [line]; exact pattern,
      by rw [line]; exact phase, ⟨q, by rw [line]; exact request, player⟩, .inr (by rw [line]; exact ⟨rfl, rfl⟩)⟩
  · exact sounds.spared (grant_spares e)

theorem arbitrateUpTo_sounds {z : ZoneId} {l : LineId} {owner : Option Owner} (n : Nat) {s : State}
    (sounds : s.Sounds z l owner) : (arbitrateUpTo n s).Sounds z l owner := by
  induction n generalizing s with
  | zero => exact sounds
  | succ n ih =>
    unfold arbitrateUpTo
    split
    · exact sounds
    · split
      · exact ih (grant_sounds sounds _)
      · exact sounds

theorem asOneChange_sounds {z : ZoneId} {l : LineId} {f : State → State} {s : State}
    (sounds : (f s).Sounds z l (s.zone z).owner) (named : (f s).namedBy z l) :
    (asOneChange f s).Sounds z l (s.zone z).owner := by
  have settled : (settleZones s.za.zones (f s)).Sounds z l (s.zone z).owner := settleZones_sounds sounds named
  have granted : (arbitrate (settleZones s.za.zones (f s))).Sounds z l (s.zone z).owner := by
    unfold arbitrate
    split
    · exact arbitrateUpTo_sounds _ settled
    · exact settled
  have selected := selectNext_frame (arbitrate (settleZones s.za.zones (f s)))
  exact granted.spared (.of_same (selected.part .dsq) (selected.part .za))

end Sys2Proof.Machine
end

section
/-! PROOF. LISTENING_END settled: RUNNING, the first BEACON, the entries due and YIELD (R5, R131, R137, R181, R204). -/

namespace Sys2Proof.Machine

-- one declaration at a time, as in the tests: the threads of a whole text's proofs do not fit the memory limit
set_option Elab.async false

/-! ## The entries due -/

/-- R131: an entry that has been examined keeps its mark, and what is taken stays taken, as further entries are
examined. -/
theorem examineDueUpTo_examinedEntry (n : Nat) {i : Nat} {s : State} (closed : s.bs.markAt i ≠ .opened) :
    (examineDueUpTo n s).bs.markAt i = s.bs.markAt i ∧ ∀ j ∈ s.bs.taken, j ∈ (examineDueUpTo n s).bs.taken := by
  induction n generalizing s with
  | zero => exact ⟨rfl, fun _ => id⟩
  | succ n ih =>
    unfold examineDueUpTo
    split
    · rename_i day j due t planDay next school
      split
      · obtain ⟨-, opened, -⟩ := next_spec planDay next
        have other : i ≠ j := by
          rintro rfl
          exact closed opened
        have mark := examineEntry_markAt (day := day) other due s
        obtain ⟨mark', kept⟩ := ih (s := examineEntry day j due s) (by rw [mark]; exact closed)
        refine ⟨mark'.trans mark, fun k mem => kept k ?_⟩
        rcases examineEntry_bs day j due s with ⟨-, taken, missed, -, stays, eq⟩ | ⟨-, missed, eq⟩
        · rw [eq]
          exact stays k mem
        · rw [eq]
          exact mem
      · exact ⟨rfl, fun _ => id⟩
    · exact ⟨rfl, fun _ => id⟩

/-- R131: a bell is in time within the late limit. -/
theorem State.inTime_iff {s : State} {x : Nat} (school : s.school = some x) (due : Int) :
    s.inTime due = true ↔ (x : Int) - due ≤ s.bs.lateLimit * 1000 := by
  simp [State.inTime, State.lateness, school]

/-- R131, R137: in RUNNING the next entry, when due, is TAKEN within the late limit and PASSED beyond it. -/
theorem examineDue_next {s : State} {day i x : Nat} {due : Int} (running : s.running = true)
    (planDay : s.bs.planDay = some day) (next : s.bs.next = some (i, due)) (school : s.school = some x)
    (reached : due ≤ (x : Int)) :
    ((x : Int) - due ≤ s.bs.lateLimit * 1000 →
      (examineDue s).bs.markAt i = .taken ∧ s.bs.window.base + i ∈ (examineDue s).bs.taken) ∧
    ((s.bs.lateLimit : Int) * 1000 < (x : Int) - due → (examineDue s).bs.markAt i = .passed) := by
  obtain ⟨inside, -, -⟩ := next_spec planDay next
  have examines : s.examines = true := by
    simp only [State.running, Bool.and_eq_true, beq_iff_eq] at running
    simp [State.examines, State.loaded, State.listening, running.1]
  obtain ⟨n, length⟩ := Nat.exists_eq_succ_of_ne_zero (Nat.ne_of_gt (Nat.lt_of_le_of_lt (Nat.zero_le i) inside))
  have first : examineDue s = examineDueUpTo n (examineEntry day i due s) := by
    rw [examineDue, if_pos examines, length, examineDueUpTo]
    simp only [planDay, next, school, if_pos reached]
  rw [first]
  rcases examineEntry_bs day i due s with ⟨inTime, taken, missed, mem, -, eq⟩ | ⟨late, missed, eq⟩
  · have mark : (examineEntry day i due s).bs.markAt i = .taken := by
      rw [eq]
      simp [BellScheduler.markAt, List.getD_eq_getElem?_getD, inside]
    obtain ⟨mark', kept⟩ := examineDueUpTo_examinedEntry n (i := i) (s := examineEntry day i due s) (by simp [mark])
    have within := (State.inTime_iff school due).mp inTime
    refine ⟨fun _ => ⟨mark'.trans mark, kept _ (by rw [eq]; exact mem)⟩, fun beyond => by omega⟩
  · have mark : (examineEntry day i due s).bs.markAt i = .passed := by
      rw [eq]
      simp [BellScheduler.markAt, List.getD_eq_getElem?_getD, inside]
    obtain ⟨mark', -⟩ := examineDueUpTo_examinedEntry n (i := i) (s := examineEntry day i due s) (by simp [mark])
    have beyond : ¬ (x : Int) - due ≤ s.bs.lateLimit * 1000 := fun within => by
      rw [(State.inTime_iff school due).mpr within] at late
      cases late
    exact ⟨fun within => absurd within beyond, fun _ => mark'.trans mark⟩

/-! ## The entry to RUNNING -/

/-- R5, R204: the station with its config state and its beacon timer at the entry to RUNNING. -/
def enteredRunning (n : Station) (s : State) : State :=
  { s with
    sp := { s.sp with config := .running, listeningEnd := none }
    tb := { s.tb with beaconDue := some (s.now + s.tb.beaconInterval * 1000 * stationNumber n / 32) } }

/-- R64, R113: the impulses asked for and the effects of the zones started. -/
def effectsStarted (s : State) : State := forEach allZones startEffects (forEach allSlots tryImpulse s)

/-- R181: YIELD asked for where the contact counts as asserted. -/
def yieldSaid (s : State) : State := if s.dru.contact then enqueue (.yield 1#8) s else s

theorem enterRunning_eq {n : Station} {s : State} (own : s.own = some n) :
    enterRunning s = yieldSaid (examineDue (effectsStarted (enteredRunning n s))) := by
  have entered : startBeaconTimer { s with sp := { s.sp with config := .running, listeningEnd := none } } =
      enteredRunning n s := by
    have number : (State.own { s with sp := { s.sp with config := .running, listeningEnd := none } }) = some n := own
    rw [startBeaconTimer, number]
    rfl
  unfold enterRunning
  extract_lets _ s1 s2
  have examined : s2 = examineDue (effectsStarted s1) := rfl
  have started : s1 = enteredRunning n s := entered
  rw [← started, ← examined]
  clear_value s2
  rfl

theorem effectsStarted_frame (s : State) : s.keepsAllBut [.dsq, .du, .za] (effectsStarted s) :=
  ((forEach_keepsAllBut tryImpulse_frame allSlots s).andThen
    (forEach_keepsAllBut startEffects_frame allZones _)).within

theorem yieldSaid_frame (s : State) : s.keepsAllBut [.ylc, .fu] (yieldSaid s) := by
  unfold yieldSaid
  split
  · exact enqueue_frame _ s
  · exact s.keepsAllBut_refl _

/-- R113, R118: the sounder of a SOUNDING drill at a zone whose sounder line nothing else names. -/
theorem effectsStarted_sounds {z : ZoneId} {l : LineId} {s : State} {r : DrillRecord} (running : s.running = true)
    (record : s.dru.record = some r) (sounding : r.phase = .sounding)
    (drill : (s.zone z).owner = some (.drill r.initiator r.number)) (sounder : (s.zone z).sounderLine = some l)
    (off : (s.line l).state = .off) (unbound : ∀ i : SlotId, (s.slot i).line ≠ some l) (named : s.namedBy z l) :
    (effectsStarted s).Sounds z l (some (.drill r.initiator r.number)) ∧ (effectsStarted s).namedBy z l := by
  have asked := forEach_tryImpulse_spares (z := z) (l := l) allSlots unbound
  have frame := forEach_keepsAllBut tryImpulse_frame allSlots s
  refine forEach_startEffects_sounds allZones nodup_allZones (mem_allZones z) ?_ (named.spared asked)
    (asked.owner.trans drill) ?_ ((asked.lines z).2.2.trans sounder) (by rw [asked.line]; exact off)
  · exact (State.running_of_sp_ds (frame.part .sp) (frame.part .ds)).trans running
  · rw [State.drillSounding_of_dru (frame.part .dru)]
    simp [State.drillSounding, record, sounding]

/-- R204: LISTENING_END at its time. -/
theorem exec_listeningEnd {s : State} (up : s.up = true) (listening : s.listening = true)
    (due : reached s.sp.listeningEnd s.now = true) :
    ∃ f : State → State, exec .listeningEnd s = .next (asOneChange f s) ∧ f s = enterRunning s :=
  ⟨_, congrArg Host.Outcome.next (change_of_up up), if_pos (by rw [listening, due]; rfl)⟩

/-- Settles O18. -/
theorem listeningEndsInRunning : Obligations.ListeningEndsInRunning := by
  intro n s up listening due own
  obtain ⟨f, run, eq⟩ := exec_listeningEnd up listening due
  have bound := asOneChange_within (f := f) (s := s) (eq ▸ enterRunning_frame s)
  have ended := asOneChange_frame f s
  rw [eq, enterRunning_eq own] at ended
  have running : (enteredRunning n s).running = true := by
    simp only [State.listening, Bool.and_eq_true, beq_iff_eq] at listening
    simp [State.running, enteredRunning, listening.2]
  have started := effectsStarted_frame (enteredRunning n s)
  have examined := examineDue_frame (effectsStarted (enteredRunning n s))
  have said := yieldSaid_frame (examineDue (effectsStarted (enteredRunning n s)))
  have whole := ((started.andThen examined).andThen said).andThen ended
  have sp := whole.part .sp
  have tb := whole.part .tb
  simp only [State.sameIn] at sp tb
  refine ⟨_, run, sp, tb, fun z l r record sounding drill sounder off unbound named => ?_,
    fun day i x due planDay next school reached => ?_, fun contact room => ?_, bound.within⟩
  · obtain ⟨sounds, names⟩ := effectsStarted_sounds running record sounding drill sounder off unbound named
    have entries := examineDue_spares (l := l) sounds.owner
    rw [enterRunning_eq own] at eq
    generalize examineDue (effectsStarted (enteredRunning n s)) = v at *
    have kept := entries.trans (.of_same (said.part .dsq) (said.part .za))
    have final := asOneChange_sounds (f := f) (s := s) (z := z) (l := l)
      (by rw [eq, drill]; exact sounds.spared kept) (by rw [eq]; exact names.spared kept)
    exact ⟨final.owner, final.sounderOn, final.pattern, final.phase, final.state⟩
  · obtain ⟨missed, misses⟩ := asOneChange_onlyMisses f s
    have bs := started.part .bs
    have tb := started.part .tb
    have bs' := said.part .bs
    simp only [State.sameIn] at bs tb bs'
    have running' := (State.running_of_sp_ds (started.part .sp) (started.part .ds)).trans running
    have entry := examineDue_next running' (by rw [bs]; exact planDay) (by rw [bs]; exact next)
      (by rw [State.school, tb]; exact school) reached
    rw [eq, enterRunning_eq own, bs'] at misses
    rw [bs] at entry
    generalize examineDue (effectsStarted (enteredRunning n s)) = v at *
    rw [misses]
    exact entry
  · have running' := (State.running_of_sp_ds ((started.andThen examined).part .sp)
      ((started.andThen examined).part .ds)).trans running
    have ylc := (started.andThen examined).part .ylc
    have dru := (started.andThen examined).part .dru
    have frames := asOneChange_sameFrames f s
    rw [eq, enterRunning_eq own] at frames
    simp only [State.sameIn] at ylc dru
    generalize examineDue (effectsStarted (enteredRunning n s)) = v at *
    have asserted : v.dru.contact = true := by rw [dru]; exact contact
    have free : v.ylc.queue.length < 8 := by rw [ylc]; exact room
    refine frames.queued ?_
    rw [yieldSaid, if_pos asserted, enqueue_of_room (takesFrame_of_running running') free]
    exact ⟨_, List.mem_append_right _ (List.mem_singleton_self _), rfl⟩

end Sys2Proof.Machine
end

section
/-! PROOF. What an operation may leave at the zones: an owner of a kind that stands at no zone comes to none but by a
request of its own (R109 to R113). -/

namespace Sys2Proof.Machine

-- one declaration at a time, as in the tests: the threads of a whole text's proofs do not fit the memory limit
set_option Elab.async false

/-! ## Owners and stacks that stand -/

/-- Every zone keeps its owner and its stack. -/
def State.sameOwners (s t : State) : Prop :=
  ∀ z : ZoneId, (t.zone z).owner = (s.zone z).owner ∧ (t.zone z).stack = (s.zone z).stack

theorem State.sameOwners_refl (s : State) : s.sameOwners s := fun _ => ⟨rfl, rfl⟩

theorem State.sameOwners.trans {s t u : State} (h1 : s.sameOwners t) (h2 : t.sameOwners u) : s.sameOwners u :=
  fun z => ⟨(h2 z).1.trans (h1 z).1, (h2 z).2.trans (h1 z).2⟩

theorem State.sameOwners_of_za {s t : State} (h : s.sameIn t .za) : s.sameOwners t := fun z => by
  rw [State.zone_of_za h]
  exact ⟨rfl, rfl⟩

theorem setZone_sameOwners {s : State} {z : ZoneId} {r : Zone} (owner : r.owner = (s.zone z).owner)
    (stack : r.stack = (s.zone z).stack) : s.sameOwners (s.setZone z r) := fun y => by
  by_cases e : y = z
  · subst e
    rw [State.setZone_zone_same]
    exact ⟨owner, stack⟩
  · rw [State.setZone_zone_ne _ _ _ _ e]
    exact ⟨rfl, rfl⟩

/-- A zone rewritten with its own owner and stack after an operation on the lines. -/
theorem setZone_after_lines {s t : State} (lines : s.keepsAllBut [.dsq] t) {z : ZoneId} {r : Zone}
    (owner : r.owner = (t.zone z).owner) (stack : r.stack = (t.zone z).stack) : s.sameOwners (t.setZone z r) :=
  (State.sameOwners_of_za (lines.part .za)).trans (setZone_sameOwners owner stack)

theorem cutBellPlayer_sameOwners (l : LineId) (z : ZoneId) (s : State) : s.sameOwners (cutBellPlayer l z s) := by
  have lines := cancelPlayer_frame l s
  unfold cutBellPlayer
  split <;> rename_i cancelled <;> rw [cancelled] at lines
  · exact setZone_after_lines lines rfl rfl
  · exact State.sameOwners_of_za (lines.part .za)

theorem pageLineOff_sameOwners (z : ZoneId) (s : State) : s.sameOwners (pageLineOff z s) := by
  unfold pageLineOff
  split
  · split
    · exact setZone_after_lines (pageSwitchOff_frame _ s) rfl rfl
    · exact s.sameOwners_refl
  · exact s.sameOwners_refl

theorem pageLineOn_sameOwners (z : ZoneId) (s : State) : s.sameOwners (pageLineOn z s) := by
  unfold pageLineOn
  split
  · exact setZone_after_lines (pageSwitchOn_frame _ s) rfl rfl
  · exact s.sameOwners_refl

theorem sounderOff_sameOwners (z : ZoneId) (s : State) : s.sameOwners (sounderOff z s) := by
  unfold sounderOff
  split
  · split
    · exact setZone_after_lines (cancelPlayer_frame _ s) rfl rfl
    · exact s.sameOwners_refl
  · exact s.sameOwners_refl

theorem sounderStart_sameOwners (z : ZoneId) (s : State) : s.sameOwners (sounderStart z s) := by
  unfold sounderStart
  split
  · exact setZone_after_lines (startPlayer_frame _ none s) rfl rfl
  · exact s.sameOwners_refl

/-- R113: effects that stop leave every owner. -/
theorem stopEffects_sameOwners (old : Option Owner) (z : ZoneId) (s : State) : s.sameOwners (stopEffects old z s) := by
  unfold stopEffects
  split
  · split
    · exact cutBellPlayer_sameOwners _ z s
    · exact s.sameOwners_refl
  · split
    · exact s.sameOwners_refl
    · exact pageLineOff_sameOwners z s
  · exact sounderOff_sameOwners z s
  · exact s.sameOwners_refl
  · exact s.sameOwners_refl

/-- R113: effects that start leave every owner. -/
theorem startEffects_sameOwners (z : ZoneId) (s : State) : s.sameOwners (startEffects z s) := by
  unfold startEffects
  split
  · exact s.sameOwners_refl
  · split
    · split
      · exact State.sameOwners_of_za ((startPlayer_frame _ _ s).part .za)
      · exact s.sameOwners_refl
    · exact pageLineOn_sameOwners z s
    · split
      · exact sounderStart_sameOwners z s
      · exact s.sameOwners_refl
    · exact s.sameOwners_refl
    · exact s.sameOwners_refl

theorem bellStarted_sameOwners (l : LineId) (s : State) : s.sameOwners (bellStarted l s) := by
  unfold bellStarted
  split
  · exact s.sameOwners_refl
  · split
    · exact setZone_sameOwners rfl rfl
    · exact s.sameOwners_refl

theorem reportStarted_sameOwners (l : LineId) (q : EnergizeRequest) (s : State) :
    s.sameOwners (reportStarted l q s) := by
  unfold reportStarted
  split
  · exact s.sameOwners_refl
  · dsimp only
    split
    · exact bellStarted_sameOwners l _
    · exact s.sameOwners_refl

theorem grant_sameOwners (l : LineId) (s : State) : s.sameOwners (grant l s) := by
  unfold grant
  split
  · exact s.sameOwners_refl
  · exact reportStarted_sameOwners l _ _

theorem arbitrateUpTo_sameOwners (n : Nat) (s : State) : s.sameOwners (arbitrateUpTo n s) := by
  induction n generalizing s with
  | zero => exact s.sameOwners_refl
  | succ n ih =>
    unfold arbitrateUpTo
    split
    · exact s.sameOwners_refl
    · split
      · exact State.sameOwners.trans (grant_sameOwners _ s) (ih _)
      · exact s.sameOwners_refl

/-- R83: the arbiter leaves every owner. -/
theorem arbitrate_sameOwners (s : State) : s.sameOwners (arbitrate s) := by
  unfold arbitrate
  split
  · exact arbitrateUpTo_sameOwners _ s
  · exact s.sameOwners_refl

/-! ## Owners that come to no zone -/

section
variable {is : Owner → Bool} {s t : State}

theorem State.nowhere.same (h : s.nowhere is) (same : s.sameOwners t) : t.nowhere is := fun z => by
  rw [(same z).1, (same z).2]
  exact h z

theorem State.nowhere.setZone (h : s.nowhere is) {z : ZoneId} {r : Zone} (owner : ∀ o, r.owner = some o → is o = false)
    (stack : ∀ o ∈ r.stack, is o = false) : (s.setZone z r).nowhere is := fun y => by
  by_cases e : y = z
  · subst e
    rw [State.setZone_zone_same]
    exact ⟨owner, stack⟩
  · rw [State.setZone_zone_ne _ _ _ _ e]
    exact h y

theorem State.nowhere.forEach {α : Type} {f : α → State → State}
    (step : ∀ (a : α) {u : State}, u.nowhere is → (f a u).nowhere is) (items : List α) (h : s.nowhere is) :
    (forEach items f s).nowhere is := by
  induction items generalizing s with
  | nil => exact h
  | cons a rest ih => exact ih (step a h)

/-- R111: what is popped was on the stack of the zone. -/
theorem State.nowhere.popZone (h : s.nowhere is) (z : ZoneId) : (popZone z s).nowhere is :=
  h.setZone (fun o top => (h z).2 o (popStack_mem (.inl top))) fun o rest => (h z).2 o (popStack_mem (.inr rest))

/-- R110, R111: a release brings back what the stack of the zone held. -/
theorem State.nowhere.releaseAt (h : s.nowhere is) (who : Owner → Bool) (z : ZoneId) : (releaseAt who z s).nowhere is := by
  obtain ⟨owner, stack⟩ := h z
  have filtered : ∀ o ∈ (s.zone z).stack.filter (fun o => !who o), is o = false :=
    fun o mem => stack o (List.mem_of_mem_filter mem)
  have unstacked := h.setZone (z := z) (r := { s.zone z with stack := (s.zone z).stack.filter fun o => !who o }) owner filtered
  unfold Machine.releaseAt
  dsimp only
  split
  · split
    · exact unstacked.popZone z
    · exact unstacked
  · exact unstacked

theorem State.nowhere.releaseEverywhere (h : s.nowhere is) (who : Owner → Bool) : (releaseEverywhere who s).nowhere is :=
  h.forEach (fun z _ u => u.releaseAt who z) allZones

theorem State.nowhere.bellMissed (h : s.nowhere is) (b : Bell) : (bellMissed b s).nowhere is :=
  h.same (State.sameOwners_of_za ((bellMissed_frame b s).part .za))

/-- R109: the newcomer owns the zone, and the old owner may go on the stack. -/
theorem State.nowhere.displace (h : s.nowhere is) {new : Owner} (other : is new = false) (toYield : Bool) (z : ZoneId) :
    (displace toYield new z s).nowhere is := by
  obtain ⟨owner, stack⟩ := h z
  have comes : ∀ o, some new = some o → is o = false := fun o e => by cases e; exact other
  unfold Machine.displace
  dsimp only
  split
  · exact h.setZone comes stack
  · split
    · refine State.nowhere.bellMissed ?_ _
      exact h.setZone comes stack
    · exact h.setZone comes stack
  · rename_i o _ old
    refine h.setZone comes fun p mem => ?_
    rcases List.mem_cons.mp mem with rfl | mem
    · exact owner _ old
    · exact stack p mem

/-- R107: a drill request brings its drill alone. -/
theorem State.nowhere.drillRequest (h : s.nowhere is) {i : Station} {m : Byte} (other : is (.drill i m) = false)
    (z : ZoneId) : (drillRequest i m z s).nowhere is := by
  unfold Machine.drillRequest
  split
  · exact h
  · have released := h.releaseAt (fun o => o.anyDrill && !o.isDrill i m) z
    dsimp only
    generalize Machine.releaseAt (fun o => o.anyDrill && !o.isDrill i m) z s = u at *
    split
    · exact released
    · split
      iterate 4 exact released.displace other false z
      all_goals
        split
        · refine released.setZone (released z).1 fun o mem => ?_
          simp only [insertDrill, List.mem_append, List.mem_cons, List.mem_filter] at mem
          rcases mem with ⟨mem, -⟩ | rfl | ⟨mem, -⟩
          · exact (released z).2 o mem
          · exact other
          · exact (released z).2 o mem
        · exact released

/-- R108: a yield request brings YIELD alone. -/
theorem State.nowhere.yieldRequest (h : s.nowhere is) (other : is .yield = false) (z : ZoneId) :
    (yieldRequest z s).nowhere is := by
  unfold Machine.yieldRequest
  split
  · exact h
  · have cleared : (s.setZone z { s.zone z with deferred := none }).nowhere is := h.setZone (h z).1 (h z).2
    dsimp only
    generalize s.setZone z { s.zone z with deferred := none } = u at *
    split
    · exact (cleared.bellMissed _).displace other true z
    · exact cleared.displace other true z

/-- R115: the sounders of a drill silenced leave every owner. -/
theorem State.nowhere.soundOff (h : s.nowhere is) (i : Station) (m : Byte) : (soundOff i m s).nowhere is := by
  refine h.forEach (fun z u hu => ?_) allZones
  split
  · exact hu.same (sounderOff_sameOwners z u)
  · exact hu

/-- R169: a change of the record releases owners at most. -/
theorem State.nowhere.changeRecord (h : s.nowhere is) (old new : DrillRecord) : (changeRecord old new s).nowhere is := by
  have written : (s.setRecord (some new)).nowhere is := h
  unfold Machine.changeRecord phaseEffects
  generalize s.setRecord (some new) = u at *
  split
  · exact written.releaseEverywhere _
  · split
    · exact written.soundOff _ _
    · exact written

theorem State.nowhere.joinDrill (h : s.nowhere is) (o : DrillOffer) (other : ∀ i m, is (.drill i m) = false) :
    (joinDrill o s).nowhere is := by
  unfold Machine.joinDrill
  dsimp only
  generalize s.joinedRecord o = r
  have written : (s.setRecord (some r)).nowhere is := h
  generalize s.setRecord (some r) = u at *
  split
  · exact written.forEach (fun z _ hv => hv.drillRequest (other _ _) z) allZones
  · exact written

/-- R170: a drill offer brings drills alone. -/
theorem State.nowhere.takeOffer (h : s.nowhere is) (o : DrillOffer) (other : ∀ i m, is (.drill i m) = false) :
    (takeOffer o s).nowhere is := by
  have competed (r : DrillRecord) : (competeDrill o r s).nowhere is := by
    unfold competeDrill
    split
    · have freed : (s.setRecord none).nowhere is := h
      exact (freed.releaseEverywhere _).joinDrill o other
    · exact h
  unfold Machine.takeOffer
  split
  · exact h
  · split
    · rename_i r _
      split
      · split
        · exact h.changeRecord _ _
        · exact h
      · split
        · exact h
        · split
          · exact competed r
          · exact h.joinDrill o other
    · split
      · exact h
      · exact h.joinDrill o other

theorem State.nowhere.drillFromBeacon (h : s.nowhere is) (n : Station) (b : BeaconBody)
    (other : ∀ i m, is (.drill i m) = false) : (drillFromBeacon n b s).nowhere is := by
  unfold Machine.drillFromBeacon
  split
  · exact h.takeOffer _ other
  · exact h

theorem State.nowhere.frame {parts : List Part} (h : s.nowhere is) (frame : s.keepsAllBut parts t)
    (out : Part.za ∉ parts := by decide) : t.nowhere is :=
  h.same (State.sameOwners_of_za (frame .za out))

/-- R160, R182: the yield brings YIELD alone. -/
theorem State.nowhere.yieldStart (h : s.nowhere is) (other : is .yield = false) : (yieldStart s).nowhere is := by
  have begun : (s.setYielding true).nowhere is := h
  have ended : (yieldEndsDrill (s.setYielding true)).nowhere is := by
    unfold yieldEndsDrill
    split
    · split
      · rename_i r _ _
        have changed := begun.changeRecord r (r.ended .yield (s.setYielding true).school)
        dsimp only
        split
        · exact changed.frame (enqueue_frame _ _)
        · exact changed
      · exact begun
    · exact begun
  have given : (floorYield (yieldEndsDrill (s.setYielding true))).nowhere is := by
    generalize yieldEndsDrill (s.setYielding true) = u at *
    have leaves (v : State) (hv : v.nowhere is) : (floorLeavesView v).nowhere is := by
      unfold floorLeavesView
      split
      · exact hv
      · exact State.nowhere.releaseEverywhere (s := v.setView none) hv _
    unfold floorYield
    dsimp only
    refine leaves _ ?_
    split
    · rename_i o _
      have closed := (((queueRelease_frame o.number .yield u).andThen (ownIdle_frame _)).andThen
        (lampOff_frame o.key _))
      split
      · exact ended.frame (closed.andThen (ownClaimLeaves_frame _))
      · exact ended.frame closed
    · exact ended
  exact given.forEach (fun z _ hv => hv.yieldRequest other z) allZones

/-- R181 to R183: the inputs to yield bring YIELD alone. -/
theorem State.nowhere.updateYield (h : s.nowhere is) (other : is .yield = false) : (updateYield s).nowhere is := by
  have caused : s.withPeerCause.nowhere is := h
  unfold Machine.updateYield
  split
  · exact h
  · dsimp only
    generalize s.withPeerCause = u at *
    split
    · exact caused.yieldStart other
    · split
      · have cleared : (u.setYielding false).nowhere is := caused
        exact cleared.releaseEverywhere _
      · exact caused

/-- R111 to R113: a zone settled takes a deferred bell at most. -/
theorem State.nowhere.settleZone (h : s.nowhere is) (bells : ∀ b, is (.bell b) = false) (old : Zone) (z : ZoneId) :
    (settleZone old z s).nowhere is := by
  have cleared (r : Zone) (owner : ∀ o, r.owner = some o → is o = false) (stack : r.stack = (s.zone z).stack) :
      (s.setZone z r).nowhere is := h.setZone owner (by rw [stack]; exact (h z).2)
  have examined : (examineDeferred z s).nowhere is := by
    unfold examineDeferred
    dsimp only
    split
    · exact h
    · rename_i b _
      have missed := (cleared { s.zone z with deferred := none } (h z).1 rfl).bellMissed b
      split
      · exact missed
      · split
        · exact missed
        · split
          · have undeferred := cleared { s.zone z with deferred := none } (h z).1 rfl
            refine undeferred.setZone (fun o e => ?_) (h z).2
            cases e
            exact bells b
          · exact missed
  have first : (if (s.zone z).owner.isNone && old.owner.isSome then examineDeferred z s else s).nowhere is := by
    split
    · exact examined
    · exact h
  unfold Machine.settleZone
  dsimp only
  generalize (if (s.zone z).owner.isNone && old.owner.isSome then examineDeferred z s else s) = u at *
  split
  · exact first
  · exact (first.same (stopEffects_sameOwners old.owner z u)).same (startEffects_sameOwners z _)

/-- R111: what a step ends with brings deferred bells alone. -/
theorem State.nowhere.asOneChange {f : State → State} (h : (f s).nowhere is) (bells : ∀ b, is (.bell b) = false) :
    (asOneChange f s).nowhere is := by
  have settled : (settleZones s.za.zones (f s)).nowhere is := by
    have each := h.forEach (f := fun z u => Machine.settleZone s.za.zones[z] z u)
      (fun z _ hu => hu.settleZone bells _ z) allZones
    unfold settleZones
    generalize Machine.forEach allZones (fun z u => Machine.settleZone s.za.zones[z] z u) (f s) = u at *
    exact each
  have granted := settled.same (arbitrate_sameOwners _)
  exact granted.frame (selectNext_frame _)

end

end Sys2Proof.Machine
end

section
/-! PROOF. Drill records and offers: what a summary of the record's own drill leaves of it, and the record that a joined
drill has (R168, R170, R171, R173, R175 to R177). -/

namespace Sys2Proof.Machine

-- one declaration at a time, as in the tests: the threads of a whole text's proofs do not fit the memory limit
set_option Elab.async false

/-! ## Records -/

/-- R168: the phase check does not bring a record back to SOUNDING. -/
theorem DrillRecord.checked_not_sounding {r : DrillRecord} (h : r.phase ≠ .sounding) (school : Option Nat) :
    (r.checked school).phase ≠ .sounding := by
  unfold checked leave
  split
  · exact h
  · split
    · simp
    · split
      · simp
      · split
        · simp
        · exact h

/-- R168: the phase check ends no record. -/
theorem DrillRecord.checked_not_ended {r : DrillRecord} (h : r.phase ≠ .ended) (school : Option Nat) :
    (r.checked school).phase ≠ .ended := by
  unfold checked leave
  split
  · exact h
  · split
    · simp
    · split
      · simp
      · split
        · simp
        · exact h

/-- R173: a silence writes the phase and the final elapsed alone. -/
theorem DrillRecord.silenced_keeps (r : DrillRecord) (school : Option Nat) :
    ∃ phase finalElapsed, r.silenced school = { r with phase, finalElapsed } := by
  unfold silenced
  split
  · rw [DrillRecord.checked_keeps]
    exact ⟨_, _, rfl⟩
  · exact ⟨_, _, rfl⟩

theorem DrillRecord.silenced_not_sounding (r : DrillRecord) (school : Option Nat) :
    (r.silenced school).phase ≠ .sounding := by
  unfold silenced
  split
  · refine checked_not_sounding (r := { r with phase := .evacuating }) ?_ school
    simp
  · assumption

theorem DrillRecord.silenced_not_ended {r : DrillRecord} (h : r.phase ≠ .ended) (school : Option Nat) :
    (r.silenced school).phase ≠ .ended := by
  unfold silenced
  split
  · refine checked_not_ended (r := { r with phase := .evacuating }) ?_ school
    simp
  · exact h

/-- R177: an end writes the phase, the final elapsed and the reason. -/
theorem DrillRecord.ended_keeps (r : DrillRecord) (why : EndReason) (school : Option Nat) :
    ∃ phase endReason finalElapsed, r.ended why school = { r with phase, endReason, finalElapsed } := by
  unfold ended leave
  split
  · exact ⟨_, _, _, rfl⟩
  · split <;> exact ⟨_, _, _, rfl⟩

/-- R177: a record that has not ended ends. -/
theorem DrillRecord.ended_spec {r : DrillRecord} (h : r.phase ≠ .ended) (why : EndReason) (school : Option Nat) :
    (r.ended why school).phase = .ended ∧ (r.ended why school).endReason = some why := by
  unfold ended leave
  cases phase : r.phase with
  | ended => exact absurd phase h
  | _ => exact ⟨rfl, rfl⟩

theorem DrillRecord.ended_not_sounding {r : DrillRecord} (h : r.phase ≠ .sounding) (why : EndReason)
    (school : Option Nat) : (r.ended why school).phase ≠ .sounding := by
  unfold ended leave
  split
  · simp
  · split
    · simp
    · exact h

/-- R176: a union writes the reported set and the muster table. -/
theorem DrillRecord.united_spec (r : DrillRecord) (p : OfferReport) :
    ∃ muster, r.united p = { r with reported := r.reported ||| (p.reported &&& r.expected), muster } ∧
      ∀ e, p.ownMuster = some e → inSet r.expected p.sender = true → inSet p.reported p.sender = true →
        r.muster[p.sender] = none → muster = r.muster.set p.sender (some e) := by
  unfold united
  dsimp only
  split
  · rename_i e own
    split
    · unfold storeMuster
      split
      · rename_i old held
        refine ⟨_, rfl, fun _ _ _ _ absent => ?_⟩
        have held' : r.muster[p.sender] = some old := held
        rw [absent] at held'
        cases held'
      · refine ⟨_, rfl, fun e' own' _ _ _ => ?_⟩
        rw [own] at own'
        cases own'
        rfl
    · rename_i refused
      refine ⟨_, rfl, fun _ _ expected reported _ => absurd ?_ refused⟩
      rw [expected, reported]
      rfl
  · rename_i own
    refine ⟨_, rfl, fun e own' => ?_⟩
    rw [own] at own'
    cases own'

/-- R173, R176: a summary of the record's own drill, before an end. -/
def DrillRecord.heardOf (r : DrillRecord) (p : OfferReport) (school : Option Nat) : DrillRecord :=
  ((if p.phase = .evacuating ∨ p.phase = .overdue then r.silenced school else r).united p).checked school

theorem DrillRecord.takeSummary_eq (r : DrillRecord) (p : OfferReport) (school : Option Nat) :
    r.takeSummary p school =
      if p.sender = r.initiator ∧ p.phase = .ended then
        (r.heardOf p school).ended (if p.yielding then .yield else .manual) school
      else r.heardOf p school := rfl

/-- R173, R176: what a summary of the record's own drill leaves of it. -/
theorem DrillRecord.heardOf_spec (r : DrillRecord) (p : OfferReport) (school : Option Nat) :
    (∃ phase finalElapsed muster, r.heardOf p school =
        { r with phase, finalElapsed, muster, reported := r.reported ||| (p.reported &&& r.expected) } ∧
      ∀ e, p.ownMuster = some e → inSet r.expected p.sender = true → inSet p.reported p.sender = true →
        r.muster[p.sender] = none → muster = r.muster.set p.sender (some e)) ∧
    (p.phase = .evacuating ∨ p.phase = .overdue → (r.heardOf p school).phase ≠ .sounding) ∧
    (r.phase ≠ .ended → (r.heardOf p school).phase ≠ .ended) := by
  have first : ∃ phase finalElapsed, (if p.phase = .evacuating ∨ p.phase = .overdue then r.silenced school else r) =
      { r with phase, finalElapsed } := by
    split
    · exact r.silenced_keeps school
    · exact ⟨_, _, rfl⟩
  have quiet : p.phase = .evacuating ∨ p.phase = .overdue →
      (if p.phase = .evacuating ∨ p.phase = .overdue then r.silenced school else r).phase ≠ .sounding := fun h => by
    rw [if_pos h]
    exact r.silenced_not_sounding school
  have goesOn : r.phase ≠ .ended →
      (if p.phase = .evacuating ∨ p.phase = .overdue then r.silenced school else r).phase ≠ .ended := fun h => by
    split
    · exact silenced_not_ended h school
    · exact h
  unfold heardOf
  generalize (if p.phase = .evacuating ∨ p.phase = .overdue then r.silenced school else r) = r1 at *
  obtain ⟨muster, united, stored⟩ := r1.united_spec p
  have phase : (r1.united p).phase = r1.phase := by rw [united]
  refine ⟨?_, fun h => checked_not_sounding (by rw [phase]; exact quiet h) school,
    fun h => checked_not_ended (by rw [phase]; exact goesOn h) school⟩
  obtain ⟨phase', finalElapsed, eq⟩ := first
  rw [DrillRecord.checked_keeps, united]
  subst eq
  exact ⟨_, _, muster, rfl, stored⟩

/-- R173, R176, R177: a summary of the record's own drill. -/
theorem DrillRecord.takeSummary_spec (r : DrillRecord) (p : OfferReport) (school : Option Nat) :
    let r' := r.takeSummary p school
    (r'.initiator = r.initiator ∧ r'.number = r.number ∧ r'.expected = r.expected ∧
      r'.reported = r.reported ||| (p.reported &&& r.expected)) ∧
    (∀ e, p.ownMuster = some e → inSet r.expected p.sender = true → inSet p.reported p.sender = true →
        r.muster[p.sender] = none → r'.muster = r.muster.set p.sender (some e)) ∧
    (p.phase = .evacuating ∨ p.phase = .overdue → r'.phase ≠ .sounding) ∧
    (p.sender = r.initiator → p.phase = .ended → r.phase ≠ .ended →
      r'.phase = .ended ∧ r'.endReason = some (if p.yielding then .yield else .manual)) := by
  obtain ⟨⟨phase, finalElapsed, muster, eq, stored⟩, quiet, goesOn⟩ := r.heardOf_spec p school
  intro r'
  have taken : r' = r.takeSummary p school := rfl
  clear_value r'
  rw [takeSummary_eq] at taken
  split at taken
  · rename_i ends
    obtain ⟨phase', endReason, finalElapsed', kept⟩ :=
      (r.heardOf p school).ended_keeps (if p.yielding then .yield else .manual) school
    refine ⟨?_, ?_, fun h => ?_, fun _ _ h => ?_⟩
    · rw [taken, kept, eq]
      exact ⟨rfl, rfl, rfl, rfl⟩
    · rw [taken, kept, eq]
      exact stored
    · rw [taken]
      exact ended_not_sounding (quiet h) _ school
    · rw [taken]
      exact ended_spec (goesOn h) _ school
  · rename_i stays
    refine ⟨?_, ?_, fun h => ?_, fun sender phase => absurd ⟨sender, phase⟩ stays⟩
    · rw [taken, eq]
      exact ⟨rfl, rfl, rfl, rfl⟩
    · rw [taken, eq]
      exact stored
    · rw [taken]
      exact quiet h

/-! ## Summaries -/

theorem legalSet_legalSet (set : StationSet) : legalSet (legalSet set) = legalSet set := by
  rw [legalSet, legalSet, BitVec.and_assoc, BitVec.and_self]

/-- R49, R170: the sets and the start of a summary are taken with the positions and the time of day they may have. -/
theorem drillSummaryOf_legal {b : BeaconBody} {d : DrillSummary} (h : drillSummaryOf b = some d) :
    legalSet d.reportedSet = d.reportedSet ∧ legalSet d.expectedSet = d.expectedSet ∧ legalMs d.startMs = d.startMs := by
  unfold drillSummaryOf at h
  split at h
  · cases h
    exact ⟨legalSet_legalSet _, legalSet_legalSet _, by simp [legalMs]⟩
  · cases h

/-- R170: the offer of a summary taken from a BEACON. -/
theorem offerOfSummary_eq {b : BeaconBody} {d : DrillSummary} (h : drillSummaryOf b = some d) (n : Station)
    (yielding : Bool) :
    offerOfSummary n d yielding =
      { initiator := d.initiator, number := d.number, start := d.startDay.toNat * 86400000 + d.startMs
        evacuationLimit := max 60 (min 1800 d.evacuationLimit.toNat)
        soundLimit := max 30 (min 600 d.soundLimit.toNat), expected := d.expectedSet
        report := some { sender := n, phase := d.phase, reported := d.reportedSet, ownMuster := d.ownMuster, yielding } } := by
  obtain ⟨reported, expected, start⟩ := drillSummaryOf_legal h
  rw [offerOfSummary, reported, expected, start]
  rfl

/-! ## Joining -/

/-- R169: joining writes the record of the Drill Unit. -/
theorem joinDrill_dru (o : DrillOffer) (s : State) :
    (joinDrill o s).dru = { s.dru with record := some (s.joinedRecord o) } := by
  unfold joinDrill
  dsimp only
  split
  · exact (askZones_frame _ (s.setRecord (some (s.joinedRecord o)))).part .dru
  · rfl

/-- R170 to R172: an offer writes the record of the Drill Unit alone. -/
theorem takeOffer_dru (o : DrillOffer) (s : State) : ∃ record, (takeOffer o s).dru = { s.dru with record } := by
  have competed (r : DrillRecord) : ∃ record, (competeDrill o r s).dru = { s.dru with record } := by
    unfold competeDrill
    split
    · have freed := (releaseDrill_frame r (s.setRecord none)).part .dru
      simp only [State.sameIn] at freed
      rw [joinDrill_dru, freed]
      exact ⟨_, rfl⟩
    · exact ⟨_, rfl⟩
  unfold takeOffer
  split
  · exact ⟨_, rfl⟩
  · split
    · rename_i r _
      split
      · split
        · exact ⟨_, changeRecord_dru _ _ s⟩
        · exact ⟨_, rfl⟩
      · split
        · exact ⟨_, rfl⟩
        · split
          · exact competed r
          · exact ⟨_, joinDrill_dru o s⟩
    · split
      · exact ⟨_, rfl⟩
      · exact ⟨_, joinDrill_dru o s⟩

theorem drillFromBeacon_dru (n : Station) (b : BeaconBody) (s : State) :
    ∃ record, (drillFromBeacon n b s).dru = { s.dru with record } := by
  unfold drillFromBeacon
  split
  · exact takeOffer_dru _ s
  · exact ⟨_, rfl⟩

/-- R168: the phase in which a joined record begins, before the summary's own phase is taken. -/
def joinedPhase (r : DrillRecord) (x : Nat) : DrillPhase :=
  if r.expected ≠ 0 ∧ r.reported = r.expected then .mustered
  else if r.evacuationLimit * 1000 ≤ x - r.start then .overdue
  else if r.soundLimit * 1000 ≤ x - r.start then .evacuating
  else .sounding

/-- R168: the phase check of a SOUNDING record. -/
theorem DrillRecord.checked_of_sounding {r : DrillRecord} (h : r.phase = .sounding) (x : Nat) :
    (r.checked (some x)).phase = joinedPhase r x := by
  unfold checked joinedPhase elapsedMs leave
  rw [if_neg (by simp [h, DrillPhase.running])]
  by_cases mustered : r.expected ≠ 0 ∧ r.reported = r.expected
  · rw [if_pos (by simpa using mustered), if_pos mustered]
  · rw [if_neg (by simpa using mustered), if_neg mustered]
    dsimp only
    split
    · rfl
    · split
      · rename_i past
        rw [if_pos (by simpa [h] using past)]
      · rename_i before
        rw [if_neg (by simpa [h] using before), h]

/-- R171 step 3: a running summary past SOUNDING takes a SOUNDING record to EVACUATING. -/
theorem DrillRecord.notBehind_spec (r : DrillRecord) {p : OfferReport} (running : p.phase.running = true) :
    r.notBehind (some p) =
      { r with phase := if r.phase = .sounding ∧ p.phase ≠ .sounding then .evacuating else r.phase } := by
  have past : p.phase = .evacuating ∨ p.phase = .overdue ↔ p.phase ≠ .sounding := by
    cases phase : p.phase with
    | mustered | ended =>
      rw [phase] at running
      cases running
    | _ => simp
  unfold notBehind
  simp only [past]
  split <;> rfl

/-- R171: the record that joining the drill of a running summary creates. -/
theorem joinedRecord_spec {o : DrillOffer} {p : OfferReport} {s : State} {x : Nat} (report : o.report = some p)
    (running : p.phase.running = true) (school : s.school = some x) :
    let r := s.joinedRecord o
    r.initiator = o.initiator ∧ r.number = o.number ∧ r.start = o.start ∧ r.evacuationLimit = o.evacuationLimit ∧
      r.soundLimit = o.soundLimit ∧ r.expected = o.expected ∧
      r.reported = (p.reported ||| s.peerReports o.initiator o.number) &&& o.expected ∧
      r.phase = if joinedPhase r x = .sounding ∧ p.phase ≠ .sounding then .evacuating else joinedPhase r x := by
  have joined : s.joinedReports o = (p.reported ||| s.peerReports o.initiator o.number) &&& o.expected := by
    rw [State.joinedReports, report]
  unfold State.joinedRecord
  dsimp only
  rw [report, DrillRecord.notBehind_spec _ running, school, ← joined]
  generalize begun :
    ({ initiator := o.initiator, number := o.number, start := o.start, evacuationLimit := o.evacuationLimit,
       soundLimit := o.soundLimit, expected := o.expected, reported := s.joinedReports o,
       muster := Vector.ofFn (s.joinedMuster o), phase := .sounding, endReason := none, finalElapsed := none } :
      DrillRecord) = r0
  have checked := r0.checked_keeps (some x)
  have phase : (r0.checked (some x)).phase = joinedPhase r0 x :=
    DrillRecord.checked_of_sounding (by rw [← begun]) x
  rw [phase] at checked ⊢
  have same (finalElapsed : Option Nat) (phase : DrillPhase) :
      joinedPhase { r0 with phase, finalElapsed } x = joinedPhase r0 x := rfl
  rw [checked]
  subst begun
  exact ⟨rfl, rfl, rfl, rfl, rfl, rfl, rfl, rfl⟩

/-! ## Offers taken -/

/-- R173, R176, R177: a summary of the record's own drill. -/
theorem takeOffer_of_own {o : DrillOffer} {p : OfferReport} {s : State} {r : DrillRecord} {x : Nat}
    (still : s.dru.yielding = false) (school : s.school = some x) (report : o.report = some p)
    (record : s.dru.record = some r) (initiator : r.initiator = o.initiator) (number : r.number = o.number) :
    takeOffer o s = changeRecord r (r.takeSummary p (some x)) s := by
  unfold takeOffer
  have takes : ¬ (s.dru.yielding || s.school.isNone) = true := by simp [still, school]
  have own : r.is o.initiator o.number = true := by simp [DrillRecord.is, initiator, number]
  rw [if_neg takes, record]
  dsimp only
  rw [if_pos own, report, school]

/-- R170 row 6: a summary of another drill that has left the running phases is ignored. -/
theorem takeOffer_of_left {o : DrillOffer} {p : OfferReport} {s : State} (report : o.report = some p)
    (left : p.phase.running = false)
    (other : ∀ r, s.dru.record = some r → ¬(r.initiator = o.initiator ∧ r.number = o.number)) : takeOffer o s = s := by
  have ignored : (o.report.any fun p => !p.phase.running) = true := by simp [report, left]
  unfold takeOffer
  split
  · rfl
  · split
    · rename_i r record
      have notOwn : ¬ r.is o.initiator o.number = true := by simpa [DrillRecord.is] using other r record
      rw [if_neg notOwn]
    · rfl

/-- R171: a running drill is joined where none runs. -/
theorem takeOffer_of_running {o : DrillOffer} {p : OfferReport} {s : State} {x : Nat} (still : s.dru.yielding = false)
    (school : s.school = some x) (report : o.report = some p) (running : p.phase.running = true)
    (other : ∀ r, s.dru.record = some r → ¬(r.initiator = o.initiator ∧ r.number = o.number))
    (free : s.drillRunning = false) : takeOffer o s = joinDrill o s := by
  have taken : ¬ (o.report.any fun p => !p.phase.running) = true := by simp [report, running]
  unfold takeOffer
  have takes : ¬ (s.dru.yielding || s.school.isNone) = true := by simp [still, school]
  rw [if_neg takes]
  split
  · rename_i r record
    have ended : ¬ r.phase.running = true := by
      simpa [State.drillRunning, record] using free
    have notOwn : ¬ r.is o.initiator o.number = true := by simpa [DrillRecord.is] using other r record
    rw [if_neg notOwn, if_neg taken, if_neg ended]
  · rw [if_neg taken]

end Sys2Proof.Machine
end

section
/-! PROOF. BEACON: the sender's entry, the adoption of school time, and the floor and drill summaries (R9 to R11, R48, R49,
R158, R170 to R177). -/

namespace Sys2Proof.Machine

-- one declaration at a time, as in the tests: the threads of a whole text's proofs do not fit the memory limit
set_option Elab.async false

/-! ## Good frames counted -/

/-- R45: the count of good frames stands. -/
def State.sameGood (s t : State) : Prop := t.ylc.counts.goodFrames = s.ylc.counts.goodFrames

theorem State.sameGood_of_ylc {s t : State} (h : s.sameIn t .ylc) : s.sameGood t := by
  simp only [State.sameIn] at h
  rw [State.sameGood, h]

theorem dropAtFull_sameGood (f : OutFrame) (s : State) : s.sameGood (dropAtFull f s) :=
  State.sameGood_of_ylc (s := s.setYlc s.ylc.countDrop) ((reportLost_frame f _).part .ylc)

/-- R26, R27, R30: a request to queue a frame counts no good frame. -/
theorem enqueue_sameGood (f : OutFrame) (s : State) : s.sameGood (enqueue f s) := by
  unfold enqueue
  split
  · exact State.sameGood_of_ylc ((reportLost_frame f s).part .ylc)
  · split
    · rfl
    · split
      · exact dropAtFull_sameGood f s
      · dsimp only
        split
        · exact dropAtFull_sameGood _ (s.setYlc _)
        · rfl

/-! ## The yield as a BEACON may bring it -/

/-- R160: a yielding station has no floor in its view. -/
theorem floorYield_view (s : State) : (floorYield s).fu.view = none := by
  have leaves (t : State) : (floorLeavesView t).fu.view = none := by
    cases view : t.fu.view with
    | none => rw [floorLeavesView, view]; exact view
    | some v => rw [(floorLeavesView_spec view).1]
  exact leaves _

theorem yieldStart_view (s : State) : (yieldStart s).fu.view = none := by
  have asked := (forEach_keepsAllBut yieldRequest_frame allZones
    (floorYield (yieldEndsDrill (s.setYielding true)))).part .fu
  simp only [State.sameIn] at asked
  rw [yieldStart, asked]
  exact floorYield_view _

theorem State.sameGood.trans {s t u : State} (h1 : s.sameGood t) (h2 : t.sameGood u) : s.sameGood u := Eq.trans h2 h1

theorem yieldEndsDrill_sameGood (s : State) : s.sameGood (yieldEndsDrill s) := by
  unfold yieldEndsDrill
  split
  · split
    · rename_i r _ _
      have changed : s.sameGood (changeRecord r (r.ended .yield s.school) s) :=
        State.sameGood_of_ylc ((changeRecord_frame r (r.ended .yield s.school) s).part .ylc)
      dsimp only
      split
      · exact changed.trans (enqueue_sameGood _ _)
      · exact changed
    · rfl
  · rfl

theorem floorYield_sameGood (s : State) : s.sameGood (floorYield s) := by
  unfold floorYield
  dsimp only
  refine State.sameGood.trans ?_ (State.sameGood_of_ylc ((floorLeavesView_frame _).part .ylc))
  split
  · rename_i o _
    have released : s.sameGood (queueRelease o.number .yield s) := enqueue_sameGood _ s
    have closed := (ownIdle_frame (queueRelease o.number .yield s)).andThen (lampOff_frame o.key _)
    split
    · exact released.trans (State.sameGood_of_ylc ((closed.andThen (ownClaimLeaves_frame _)).part .ylc))
    · exact released.trans (State.sameGood_of_ylc (closed.part .ylc))
  · rfl

theorem yieldStart_sameGood (s : State) : s.sameGood (yieldStart s) := by
  have ended := yieldEndsDrill_sameGood (s.setYielding true)
  have given := floorYield_sameGood (yieldEndsDrill (s.setYielding true))
  have asked := (forEach_keepsAllBut yieldRequest_frame allZones
    (floorYield (yieldEndsDrill (s.setYielding true)))).part .ylc
  have begun : s.sameGood (s.setYielding true) := rfl
  exact ((begun.trans ended).trans given).trans (State.sameGood_of_ylc asked)

theorem yieldEnd_kept (s : State) :
    (yieldEnd s).fu = s.fu ∧ s.sameGood (yieldEnd s) ∧ (yieldEnd s).dru.record = s.dru.record := by
  have frame := yieldEnd_frame s
  have released := (releaseEverywhere_frame (fun o => o == .yield) (s.setYielding false)).part .dru
  simp only [State.sameIn] at released
  refine ⟨frame.part .fu, State.sameGood_of_ylc (frame.part .ylc), ?_⟩
  rw [yieldEnd, released]
  rfl

/-- R181 to R183: what the inputs to yield leave of the floor, the record and the count of good frames. -/
theorem updateYield_spec {s : State} (taking : s.taking = true) :
    (s.fu.view = none → (updateYield s).fu.view = none) ∧ s.sameGood (updateYield s) ∧
      (((updateYield s).dru.yielding = true → s.dru.yielding = true) →
        (updateYield s).fu = s.fu ∧ (updateYield s).dru.record = s.dru.record) := by
  have fu : s.withPeerCause.fu = s.fu := rfl
  have record : s.withPeerCause.dru.record = s.dru.record := rfl
  have good : s.sameGood s.withPeerCause := rfl
  have cases := updateYield_cases s taking
  generalize s.withPeerCause = p at *
  rcases cases with ⟨-, clear, h⟩ | ⟨-, -, h⟩ | ⟨-, h⟩ <;> rw [h]
  · refine ⟨fun _ => yieldStart_view p, good.trans (yieldStart_sameGood p), fun still => ?_⟩
    obtain ⟨record', dru⟩ := yieldStart_dru p
    rw [dru, clear] at still
    exact absurd (still rfl) Bool.false_ne_true
  · obtain ⟨fu', good', record'⟩ := yieldEnd_kept p
    exact ⟨fun none => by rw [fu', fu]; exact none, good.trans good', fun _ => ⟨fu'.trans fu, record'.trans record⟩⟩
  · exact ⟨fun none => by rw [fu]; exact none, good, fun _ => ⟨fu, record⟩⟩

/-! ## The steps of a BEACON -/

/-- R9, R11, R49: the sender's entry taken, and school time. -/
def beaconTimed (n : Station) (b : BeaconBody) (r : ReceiveStamp) (s : State) : State :=
  timeFromBeacon b r (s.setPeer n ((s.peer n).afterBeacon b (s.stampTaken r) s.now))

/-- R158, R170: the two summaries taken. -/
def summariesTaken (n : Station) (b : BeaconBody) (delimiter : Nat) (s : State) : State :=
  drillFromBeacon n b (hearFloorSummary n (floorSummaryOf b) delimiter s)

theorem beaconFrom_eq (n : Station) (b : BeaconBody) (r : ReceiveStamp) (s : State) :
    beaconFrom n b r s =
      if (beaconTimed n b r s).taking then updateYield (summariesTaken n b r.timer (beaconTimed n b r s))
      else beaconTimed n b r s := rfl

theorem summariesTaken_frame (n : Station) (b : BeaconBody) (delimiter : Nat) (s : State) :
    s.keepsAllBut [.fu, .za, .bs, .dru, .dsq] (summariesTaken n b delimiter s) :=
  ((hearFloorSummary_frame n (floorSummaryOf b) delimiter s).andThen (drillFromBeacon_frame n b _)).within

/-- R168: the phase check writes the record of the Drill Unit alone. -/
theorem checkPhase_dru (s : State) : ∃ record, (checkPhase s).dru = { s.dru with record } := by
  unfold checkPhase
  split
  · exact ⟨_, rfl⟩
  · exact ⟨_, changeRecord_dru _ _ s⟩

/-- R18: a movement notice writes the record of the Drill Unit alone. -/
theorem notifyMovement_dru (m : Movement) (s : State) : ∃ record, (notifyMovement m s).dru = { s.dru with record } := by
  have moved := ((bellsMovement_frame m s).andThen (recomputeAll_frame _)).part .dru
  simp only [State.sameIn] at moved
  have checked : ∃ record, (if (recomputeAll (bellsMovement m s)).taking then checkPhase (recomputeAll (bellsMovement m s))
      else recomputeAll (bellsMovement m s)).dru = { s.dru with record } := by
    split
    · rw [← moved]
      exact checkPhase_dru _
    · exact ⟨_, moved⟩
  unfold notifyMovement
  dsimp only
  generalize (if (recomputeAll (bellsMovement m s)).taking then checkPhase (recomputeAll (bellsMovement m s))
    else recomputeAll (bellsMovement m s)) = u at *
  split
  · have hour := (hourByMovement_frame u).part .dru
    simp only [State.sameIn] at hour
    rw [hour]
    exact checked
  · exact checked

theorem limitFullTime_nat (t : Nat) : limitFullTime (t : Int) = min t 5662310399999 := by
  have eq := limitFullTime_eq t
  omega

theorem adopt_tb (peerFull elapsed : Nat) (s : State) :
    (adopt peerFull elapsed s).tb =
      { s.tb with fullTime := some (min (peerFull + elapsed) 5662310399999), standing := .free } := by
  unfold adopt
  dsimp only
  rw [limitFullTime_nat]
  generalize min (peerFull + elapsed) 5662310399999 = after
  exact (notifyMovement_frame (adoptionOf after) (s.setSchool (some after) .free)).part .tb

/-- R11: with a time to adopt, the time of the sender and the time since the delimiter. -/
theorem timeFromBeacon_of_adopting {b : BeaconBody} {r : ReceiveStamp} {s : State} (adopts : s.adoptsFrom b r = true) :
    (timeFromBeacon b r s).tb = { s.tb with
      fullTime := some (min (stampOf b + (s.tb.timer - r.timer)) 5662310399999)
      standing := .free } := by
  rw [timeFromBeacon, if_pos adopts, adopt_tb]
  rfl

/-- R9, R11: school time taken from a BEACON leaves the supply state and the yielding state. -/
theorem timeFromBeacon_kept (b : BeaconBody) (r : ReceiveStamp) (s : State) :
    (timeFromBeacon b r s).ds.supply = s.ds.supply ∧ (timeFromBeacon b r s).dru.yielding = s.dru.yielding := by
  unfold timeFromBeacon adopt
  split
  · dsimp only
    obtain ⟨record, dru⟩ := notifyMovement_dru (adoptionOf (limitFullTime ((stampOf b + (s.now - r.timer) : Nat) : Int)))
      (s.setSchool (some (limitFullTime ((stampOf b + (s.now - r.timer) : Nat) : Int))) .free)
    rw [dru]
    exact ⟨notifyMovement_supply _ _, rfl⟩
  · exact ⟨rfl, rfl⟩

/-- R9: with school time set there is none to adopt. -/
theorem timeFromBeacon_of_school {b : BeaconBody} {r : ReceiveStamp} {s : State} {x : Nat} (school : s.school = some x) :
    timeFromBeacon b r s = s := by
  have stays : ¬ s.adoptsFrom b r = true := by simp [State.adoptsFrom, school]
  rw [timeFromBeacon, if_neg stays]

theorem beaconTimed_frame (n : Station) (b : BeaconBody) (r : ReceiveStamp) (s : State) :
    s.keepsAllBut [.pt, .tb, .za, .bs, .dsq, .du, .dru, .ds] (beaconTimed n b r s) :=
  ((s.setPeer_frame n _).andThen (timeFromBeacon_frame b r _)).within

theorem beaconTimed_kept (n : Station) (b : BeaconBody) (r : ReceiveStamp) (s : State) :
    (beaconTimed n b r s).taking = s.taking ∧ (beaconTimed n b r s).dru.yielding = s.dru.yielding := by
  obtain ⟨supply, yielding⟩ := timeFromBeacon_kept b r (s.setPeer n ((s.peer n).afterBeacon b (s.stampTaken r) s.now))
  have sp := (beaconTimed_frame n b r s).part .sp
  simp only [State.sameIn] at sp
  refine ⟨?_, yielding⟩
  have supply' : (beaconTimed n b r s).ds.supply = s.ds.supply := supply
  rw [State.taking, State.listening, State.running, sp, supply']
  rfl

theorem summariesTaken_yielding (n : Station) (b : BeaconBody) (delimiter : Nat) (s : State) :
    (summariesTaken n b delimiter s).dru.yielding = s.dru.yielding := by
  obtain ⟨record, dru⟩ := drillFromBeacon_dru n b (hearFloorSummary n (floorSummaryOf b) delimiter s)
  have floor := (hearFloorSummary_frame n (floorSummaryOf b) delimiter s).part .dru
  simp only [State.sameIn] at floor
  rw [summariesTaken, dru, floor]

end Sys2Proof.Machine
end

section
/-! PROOF. BEACON settled (R9 to R11, R48, R49, R158, R170 to R177). -/

namespace Sys2Proof.Machine

-- one declaration at a time, as in the tests: the threads of a whole text's proofs do not fit the memory limit
set_option Elab.async false

/-! ## The sender's entry and school time -/

/-- The summaries taken leave the config state and the supply state. -/
theorem summariesTaken_taking (n : Station) (b : BeaconBody) (delimiter : Nat) {s : State} (taking : s.taking = true) :
    (summariesTaken n b delimiter s).taking = true := by
  have told := summariesTaken_frame n b delimiter s
  have sp := told.part .sp
  have ds := told.part .ds
  simp only [State.sameIn] at sp ds
  rw [State.taking, State.listening, State.running, sp, ds]
  exact taking

/-- R9, R49: the entry and the time that a BEACON leaves, the floor, the drill and the yield being told after. -/
theorem beaconFrom_kept (n : Station) (b : BeaconBody) (r : ReceiveStamp) (s : State) :
    (beaconFrom n b r s).pt = (s.setPeer n ((s.peer n).afterBeacon b (s.stampTaken r) s.now)).pt ∧
      (beaconFrom n b r s).tb = (beaconTimed n b r s).tb ∧ s.sameGood (beaconFrom n b r s) := by
  have timed : (beaconTimed n b r s).pt = (s.setPeer n ((s.peer n).afterBeacon b (s.stampTaken r) s.now)).pt :=
    (timeFromBeacon_frame b r (s.setPeer n ((s.peer n).afterBeacon b (s.stampTaken r) s.now))).part .pt
  have good : s.sameGood (beaconTimed n b r s) := State.sameGood_of_ylc ((beaconTimed_frame n b r s).part .ylc)
  rw [beaconFrom_eq]
  generalize beaconTimed n b r s = u at *
  have told := summariesTaken_frame n b r.timer u
  have yielded := updateYield_frame (summariesTaken n b r.timer u)
  split
  · rename_i taking
    have taking' := summariesTaken_taking n b r.timer taking
    have whole := told.andThen yielded
    refine ⟨(whole.part .pt).trans timed, whole.part .tb, ?_⟩
    exact (good.trans (State.sameGood_of_ylc (told.part .ylc))).trans (updateYield_spec taking').2.1
  · exact ⟨timed, rfl, good⟩

/-- R9, R10: the sample of an entry after a BEACON. -/
theorem sampleAfter_spec (b : BeaconBody) (r : ReceiveStamp) (old : Option Sample) :
    (standingOfByte b.standing = .unset → sampleAfter b r old = none) ∧
    (standingOfByte b.standing ≠ .unset → r.fullTime = none → sampleAfter b r old = old) ∧
    ∀ x, standingOfByte b.standing ≠ .unset → r.fullTime = some x → sampleAfter b r old = some
      { offset := saturateSample ((stampOf b : Int) - x), standing := standingOfByte b.standing, takenAt := r.timer } := by
  unfold sampleAfter
  cases standingOfByte b.standing with
  | unset => exact ⟨fun _ => rfl, fun h => absurd rfl h, fun _ h => absurd rfl h⟩
  | _ =>
    refine ⟨nofun, fun _ h => ?_, fun x _ h => ?_⟩ <;> rw [h]

/-! ## The floor summary -/

/-- R158: a summary, or its absence, that contradicts the floor of its sender. -/
theorem contradicts_iff (v : FloorView) (n : Station) (b : BeaconBody) :
    contradicts v n (floorSummaryOf b) = true ↔
      v.holder = n ∧ ¬(stationOfByte b.floorHolder = some n ∧ b.floorNumber = v.number) := by
  unfold contradicts floorSummaryOf
  cases stationOfByte b.floorHolder with
  | none => simp
  | some h => simp [imp_iff_not_or]

/-- R158: the view after a floor summary. -/
theorem hearFloorSummary_spec (n : Station) (b : BeaconBody) (delimiter : Nat) (s : State) :
    (∀ v, s.fu.view = some v →
      (contradicts v n (floorSummaryOf b) = true → v.heldSince + 100 ≤ delimiter →
        (hearFloorSummary n (floorSummaryOf b) delimiter s).fu.view = none ∧
        (hearFloorSummary n (floorSummaryOf b) delimiter s).nowhere (Owner.isFloor v.holder v.number)) ∧
      (¬(contradicts v n (floorSummaryOf b) = true ∧ v.heldSince + 100 ≤ delimiter) →
        (hearFloorSummary n (floorSummaryOf b) delimiter s).fu.view = some v)) ∧
    (s.fu.view = none →
      (∀ h, stationOfByte b.floorHolder = some h → s.own ≠ some h →
        (∀ e ∈ s.fu.claims, ¬(e.claimant = h ∧ e.number = b.floorNumber)) →
        (hearFloorSummary n (floorSummaryOf b) delimiter s).fu.view = some
          { holder := h
            number := b.floorNumber
            cls := if b.floorClass = 0#8 then .general else .urgent
            holdEnd := s.now + b.holdRemaining.toNat * 1000
            heldSince := s.now
            accepted := 0 }) ∧
      (∀ h, stationOfByte b.floorHolder = some h →
        s.own = some h ∨ (∃ e ∈ s.fu.claims, e.claimant = h ∧ e.number = b.floorNumber) →
        (hearFloorSummary n (floorSummaryOf b) delimiter s).fu.view = none) ∧
      (stationOfByte b.floorHolder = none → (hearFloorSummary n (floorSummaryOf b) delimiter s).fu.view = none)) := by
  unfold hearFloorSummary
  refine ⟨fun v view => ?_, fun free => ?_⟩
  · rw [view]
    dsimp only
    refine ⟨fun against held => ?_, fun stands => ?_⟩
    · have ends : (contradicts v n (floorSummaryOf b) && decide (v.heldSince + Config.contradictionMs ≤ delimiter)) = true := by
        rw [against]
        exact decide_eq_true held
      obtain ⟨fu, nowhere⟩ := floorLeavesView_spec view
      rw [if_pos ends, fu]
      exact ⟨rfl, nowhere⟩
    · have stays : ¬(contradicts v n (floorSummaryOf b) && decide (v.heldSince + Config.contradictionMs ≤ delimiter)) = true := by
        rw [Bool.and_eq_true, decide_eq_true_eq]
        exact stands
      rw [if_neg stays]
      exact view
  · rw [free]
    dsimp only
    refine ⟨fun h holder foreign unclaimed => ?_, fun h holder known => ?_, fun none => ?_⟩
    · rw [floorSummaryOf, holder]
      dsimp only [Option.map_some]
      rw [if_neg]
      · rw [State.setView]
        simp only [FloorSummary.view, classOfByte, beq_iff_eq]
      · simpa [foreign] using unclaimed
    · rw [floorSummaryOf, holder]
      dsimp only [Option.map_some]
      rw [if_pos (by simpa using known)]
      exact free
    · rw [floorSummaryOf, none]
      exact free

/-- R158: what a BEACON leaves of the floor, unless the station comes to yield. -/
theorem beaconFrom_floor (n : Station) (b : BeaconBody) (r : ReceiveStamp) {s : State} (taking : s.taking = true) :
    (∀ v, s.fu.view = some v → contradicts v n (floorSummaryOf b) = true → v.heldSince + 100 ≤ r.timer →
      (beaconFrom n b r s).fu.view = none ∧ (beaconFrom n b r s).nowhere (Owner.isFloor v.holder v.number)) ∧
    (((beaconFrom n b r s).dru.yielding = true → s.dru.yielding = true) →
      (beaconFrom n b r s).fu.view =
        (hearFloorSummary n (floorSummaryOf b) r.timer (beaconTimed n b r s)).fu.view) := by
  obtain ⟨taking', yielding⟩ := beaconTimed_kept n b r s
  have fu := (beaconTimed_frame n b r s).part .fu
  rw [taking] at taking'
  rw [beaconFrom_eq, if_pos taking']
  generalize beaconTimed n b r s = u at *
  have drill := drillFromBeacon_frame n b (hearFloorSummary n (floorSummaryOf b) r.timer u)
  have view : (summariesTaken n b r.timer u).fu.view = (hearFloorSummary n (floorSummaryOf b) r.timer u).fu.view :=
    congrArg FloorUnit.view (drill.part .fu)
  have takes := summariesTaken_taking n b r.timer taking'
  obtain ⟨gone, -, still⟩ := updateYield_spec takes
  simp only [State.sameIn] at fu
  refine ⟨fun v held against long => ?_, fun quiet => ?_⟩
  · obtain ⟨left, nowhere⟩ := ((hearFloorSummary_spec n b r.timer u).1 v (by rw [fu]; exact held)).1 against long
    exact ⟨gone (view.trans left), (nowhere.drillFromBeacon n b fun _ _ => rfl).updateYield rfl⟩
  · rw [← view, (still fun set => ?_).1]
    rw [summariesTaken_yielding, yielding]
    exact quiet set

/-- R11, R158: the floor summary is heard by the floor as it stood, at the station time that stands. -/
theorem beaconTimed_floor (n : Station) (b : BeaconBody) (r : ReceiveStamp) (s : State) :
    (beaconTimed n b r s).fu = s.fu ∧ (beaconTimed n b r s).own = s.own ∧ (beaconTimed n b r s).now = s.now := by
  have frame := beaconTimed_frame n b r s
  have sp := frame.part .sp
  simp only [State.sameIn] at sp
  refine ⟨frame.part .fu, congrArg SettingsPort.number sp, ?_⟩
  unfold beaconTimed timeFromBeacon
  split
  · rw [State.now, adopt_tb]
    rfl
  · rfl

/-! ## The drill summary -/

/-- R169: a record that leaves the running phases is released at every zone. -/
theorem changeRecord_nowhere {old new : DrillRecord} (was : old.phase.running = true) (left : new.phase.running = false)
    (s : State) : (changeRecord old new s).nowhere (Owner.isDrill new.initiator new.number) := by
  unfold changeRecord phaseEffects
  generalize s.setRecord (some new) = u
  have leaves : (old.phase.running && !new.phase.running) = true := by rw [was, left]; rfl
  rw [if_pos leaves, releaseDrill]
  exact releaseEverywhere_nowhere _ u

/-- R170: the drill summary of a BEACON, with school time set. -/
theorem beaconFrom_drill {n : Station} {b : BeaconBody} {r : ReceiveStamp} {s : State} {d : DrillSummary} {x : Nat}
    (taking : s.taking = true) (summary : drillSummaryOf b = some d) (school : s.school = some x)
    (quiet : (beaconFrom n b r s).dru.yielding = false) :
    ∃ q : State, q.dru = s.dru ∧ q.school = some x ∧ q.pt = (beaconFrom n b r s).pt ∧
      (beaconFrom n b r s).dru.record = (takeOffer (offerOfSummary n d (b.flags.getLsbD 0)) q).dru.record ∧
      ∀ is : Owner → Bool, is .yield = false →
        (takeOffer (offerOfSummary n d (b.flags.getLsbD 0)) q).nowhere is → (beaconFrom n b r s).nowhere is := by
  obtain ⟨taking', yielding⟩ := beaconTimed_kept n b r s
  obtain ⟨pt, -, -⟩ := beaconFrom_kept n b r s
  have timed : beaconTimed n b r s = s.setPeer n ((s.peer n).afterBeacon b (s.stampTaken r) s.now) :=
    timeFromBeacon_of_school school
  rw [taking] at taking'
  rw [pt]
  rw [beaconFrom_eq, if_pos taking'] at quiet ⊢
  rw [timed] at taking' yielding quiet ⊢
  have dru : (s.setPeer n ((s.peer n).afterBeacon b (s.stampTaken r) s.now)).dru = s.dru := rfl
  have school' : (s.setPeer n ((s.peer n).afterBeacon b (s.stampTaken r) s.now)).school = some x := school
  generalize s.setPeer n ((s.peer n).afterBeacon b (s.stampTaken r) s.now) = u at *
  have floor := hearFloorSummary_frame n (floorSummaryOf b) r.timer u
  have offered : summariesTaken n b r.timer u =
      takeOffer (offerOfSummary n d (b.flags.getLsbD 0)) (hearFloorSummary n (floorSummaryOf b) r.timer u) := by
    rw [summariesTaken, drillFromBeacon, summary]
  have takes := summariesTaken_taking n b r.timer taking'
  obtain ⟨-, -, record⟩ := updateYield_spec takes
  have tb := floor.part .tb
  simp only [State.sameIn] at tb
  refine ⟨hearFloorSummary n (floorSummaryOf b) r.timer u, (floor.part .dru).trans dru, ?_, floor.part .pt, ?_,
    fun is other nowhere => ?_⟩
  · rw [State.school, tb]
    exact school'
  · rw [(record fun set => ?_).2, offered]
    rw [quiet] at set
    cases set
  · rw [← offered] at nowhere
    exact nowhere.updateYield other

/-- R56: what the peers report is read from the Peer Table. -/
theorem peerReports_of_pt {s t : State} (pt : s.pt = t.pt) (initiator : Station) (number : Byte) :
    s.peerReports initiator number = t.peerReports initiator number := by
  have summary : s.summaryOf initiator number = t.summaryOf initiator number := by
    funext m
    have peer : s.peer m = t.peer m := by rw [State.peer, State.peer, pt]
    unfold State.summaryOf
    rw [peer]
  unfold State.peerReports
  rw [summary]

/-- R170 to R177: what a BEACON leaves of the record, in a station that does not yield. -/
theorem beaconFrom_record {n : Station} {b : BeaconBody} {r : ReceiveStamp} {s : State} {d : DrillSummary} {x : Nat}
    (taking : s.taking = true) (summary : drillSummaryOf b = some d) (school : s.school = some x)
    (still : s.dru.yielding = false) (quiet : (beaconFrom n b r s).dru.yielding = false) :
    let w := beaconFrom n b r s
    (∀ r, s.dru.record = some r → r.initiator = d.initiator → r.number = d.number →
      ∃ r', w.dru.record = some r' ∧
        r'.reported = r.reported ||| (d.reportedSet &&& r.expected) ∧ r'.expected = r.expected ∧
        (∀ e, d.ownMuster = some e → inSet r.expected n = true → inSet d.reportedSet n = true →
          r.muster[n] = none → r'.muster = r.muster.set n (some e)) ∧
        (r.phase = .sounding → d.phase = .evacuating ∨ d.phase = .overdue → r'.phase ≠ .sounding) ∧
        (n = r.initiator → d.phase = .ended → r.phase ≠ .ended →
          r'.phase = .ended ∧ r'.endReason = some (if b.flags.getLsbD 0 then .yield else .manual)) ∧
        (r.phase.running = true → r'.phase.running = false → w.nowhere (Owner.isDrill r.initiator r.number))) ∧
    ((∀ r, s.dru.record = some r → ¬(r.initiator = d.initiator ∧ r.number = d.number)) →
      (d.phase.running = false → w.dru.record = s.dru.record) ∧
      (d.phase.running = true → s.drillRunning = false →
        ∃ r, w.dru.record = some r ∧ r.initiator = d.initiator ∧ r.number = d.number ∧
          r.start = d.startDay.toNat * 86400000 + d.startMs ∧
          r.evacuationLimit = max 60 (min 1800 d.evacuationLimit.toNat) ∧
          r.soundLimit = max 30 (min 600 d.soundLimit.toNat) ∧ r.expected = d.expectedSet ∧
          r.reported = (d.reportedSet ||| w.peerReports d.initiator d.number) &&& r.expected ∧
          r.phase = if joinedPhase r x = .sounding ∧ d.phase ≠ .sounding then .evacuating else joinedPhase r x)) := by
  obtain ⟨q, dru, school', pt, record, zones⟩ := beaconFrom_drill taking summary school quiet
  have eq := offerOfSummary_eq summary n (b.flags.getLsbD 0)
  have reports := peerReports_of_pt pt
  intro w
  have hw : w = beaconFrom n b r s := rfl
  clear_value w
  rw [← hw] at quiet pt record zones reports
  have still' : q.dru.yielding = false := by rw [dru]; exact still
  generalize offerOfSummary n d (b.flags.getLsbD 0) = o at *
  have report := congrArg DrillOffer.report eq
  refine ⟨fun r held initiator number => ?_, fun other => ⟨fun left => ?_, fun running free => ?_⟩⟩
  · have own := takeOffer_of_own still' school' report (by rw [dru]; exact held)
      (initiator.trans (congrArg DrillOffer.initiator eq).symm) (number.trans (congrArg DrillOffer.number eq).symm)
    obtain ⟨⟨initiator', number', expected, reported⟩, muster, silenced, ends⟩ := r.takeSummary_spec
      { sender := n, phase := d.phase, reported := d.reportedSet, ownMuster := d.ownMuster,
        yielding := b.flags.getLsbD 0 } (some x)
    rw [own, changeRecord_dru] at record
    refine ⟨_, record, reported, expected, muster, fun _ => silenced, ends, fun was left => zones _ rfl ?_⟩
    rw [own, ← initiator', ← number']
    exact changeRecord_nowhere was left q
  · rw [record, takeOffer_of_left report left fun r held => ?_, dru]
    rw [dru] at held
    rw [eq]
    exact other r held
  · have joined := takeOffer_of_running still' school' report running
      (fun r held => by
        rw [dru] at held
        rw [eq]
        exact other r held)
      (by rw [State.drillRunning, dru]; exact free)
    obtain ⟨initiator, number, start, evacuation, sound, expected, reported, phase⟩ :=
      joinedRecord_spec (s := q) report running school'
    rw [joined, joinDrill_dru] at record
    have initiator' := congrArg DrillOffer.initiator eq
    have number' := congrArg DrillOffer.number eq
    rw [reports, ← expected, initiator', number'] at reported
    exact ⟨_, record, initiator.trans initiator', number.trans number', start.trans (congrArg DrillOffer.start eq),
      evacuation.trans (congrArg DrillOffer.evacuationLimit eq), sound.trans (congrArg DrillOffer.soundLimit eq),
      expected.trans (congrArg DrillOffer.expected eq), reported, phase⟩

/-! ## The step -/

/-- R9, R48, R49: the entries after a BEACON heard. -/
theorem beaconHeard_peers {n : Station} {b : BeaconBody} {r : ReceiveStamp} {s t : State}
    (pt : t.pt = ((s.heardFrom n).setPeer n
      (((s.heardFrom n).peer n).afterBeacon b ((s.heardFrom n).stampTaken r) (s.heardFrom n).now)).pt) :
    (∀ m, m ≠ n → t.peer m = s.peer m) ∧
      t.peer n = (s.peer n).afterBeacon b (s.stampTaken r) s.now := by
  refine ⟨fun m other => ?_, ?_⟩
  · have apart : n.val ≠ m.val := fun e => other (Fin.ext e.symm)
    simp [State.peer, pt, State.setPeer, apart]
  · simp only [State.peer, pt, State.setPeer, State.heardFrom_now]
    rw [show ((s.heardFrom n).pt.set n _)[n] = _ from Vector.getElem_set_self _]
    have stamp : (s.heardFrom n).stampTaken r = s.stampTaken r := rfl
    have sample : ((s.heardFrom n).pt[n]).sample = (s.pt[n]).sample := by
      rw [State.heardFrom_pt]
      rw [show (s.pt.set n _)[n] = _ from Vector.getElem_set_self _]
      rfl
    rw [stamp, PeerEntry.afterBeacon, PeerEntry.afterBeacon, sample]

/-- R9: the stamp with which the entry is taken. -/
theorem stampTaken_of_loaded {s : State} (loaded : s.loaded = true) (r : ReceiveStamp) : s.stampTaken r = r :=
  if_pos loaded

theorem stampTaken_none {s : State} {r : ReceiveStamp} (h : r.fullTime = none ∨ s.loaded = false) :
    (s.stampTaken r).fullTime = none := by
  unfold State.stampTaken
  split
  · rename_i loaded
    rcases h with h | h
    · exact h
    · rw [loaded] at h
      cases h
  · rfl

/-- R9, R11: school time after a BEACON heard. -/
theorem beaconTimed_tb {n : Station} {b : BeaconBody} {r : ReceiveStamp} {s : State} :
    (∀ x, r.fullTime = some x → (beaconTimed n b r s).tb = s.tb) ∧
    (s.loaded = true → standingOfByte b.standing ≠ .unset → r.fullTime = none → s.school = none →
      (beaconTimed n b r s).tb =
        { s.tb with
          fullTime := some (min (stampOf b + (s.tb.timer - r.timer)) 5662310399999)
          standing := .free }) := by
  unfold beaconTimed
  refine ⟨fun x known => ?_, fun loaded set unknown unset => ?_⟩
  · have stays : ¬ (s.setPeer n ((s.peer n).afterBeacon b (s.stampTaken r) s.now)).adoptsFrom b r = true := by
      simp [State.adoptsFrom, known]
    rw [timeFromBeacon, if_neg stays]
    rfl
  · have adopts : (s.setPeer n ((s.peer n).afterBeacon b (s.stampTaken r) s.now)).adoptsFrom b r = true := by
      simp [State.adoptsFrom, set, unknown, unset, loaded]
    exact timeFromBeacon_of_adopting adopts

/-- Settles O33. -/
theorem beaconRefreshesItsSendersEntry : Obligations.BeaconRefreshesItsSendersEntry := by
  intro sender b n s hears full
  have run : exec (.beacon sender b) s =
      .next (asOneChange (accept sender fun n r => beaconFrom n b r) s) :=
    congrArg Host.Outcome.next (change_of_up hears.1)
  have eq := accept_hears hears fun n r => beaconFrom n b r
  have ended := asOneChange_frame (accept sender fun n r => beaconFrom n b r) s
  have zones (is : Owner → Bool) (bells : ∀ b, is (.bell b) = false)
      (h : (accept sender (fun n r => beaconFrom n b r) s).nowhere is) :=
    h.asOneChange bells
  have good := asOneChange_sameFrames (accept sender fun n r => beaconFrom n b r) s
  rw [eq] at ended good
  rw [eq] at zones
  obtain ⟨pt, tb, counted⟩ := beaconFrom_kept n b s.receiveStamp (s.heardFrom n)
  obtain ⟨known, adopted⟩ := beaconTimed_tb (n := n) (b := b) (r := s.receiveStamp) (s := s.heardFrom n)
  obtain ⟨fu, own, now⟩ := beaconTimed_floor n b s.receiveStamp (s.heardFrom n)
  have frame := (beaconFrom_frame n b s.receiveStamp (s.heardFrom n)).andThen ended
  have floor := fun taking => beaconFrom_floor n b s.receiveStamp (s := s.heardFrom n) taking
  have record := fun d x taking => beaconFrom_record (n := n) (b := b) (r := s.receiveStamp) (s := s.heardFrom n)
    (d := d) (x := x) taking
  refine ⟨_, run, ?_⟩
  generalize asOneChange (accept sender fun n r => beaconFrom n b r) s = t at *
  obtain ⟨others, entry⟩ := beaconHeard_peers ((ended.part .pt).trans pt)
  obtain ⟨unset, old, sampled⟩ := sampleAfter_spec b (s.stampTaken s.receiveStamp) (s.peer n).sample
  have tb' : t.tb = (beaconTimed n b s.receiveStamp (s.heardFrom n)).tb := (ended.part .tb).trans tb
  have sp : t.sp = s.sp := frame.part .sp
  have pending : t.pending = s.pending := frame.part .pending
  have sample : (t.peer n).sample = sampleAfter b (s.stampTaken s.receiveStamp) (s.peer n).sample := by
    rw [entry]
    rfl
  rw [entry]
  refine ⟨others, rfl, rfl, rfl, rfl, ?_, rfl, unset, fun set unknown => old set (stampTaken_none unknown),
    fun x loaded set stamped => ⟨?_, ?_⟩, fun loaded set unknown unset => ?_, ?_, sp, pending, fun taking => ?_⟩
  · show floorSummaryOf b = _
    simp only [floorSummaryOf, classOfByte, beq_iff_eq]
  · have taken := stampTaken_of_loaded loaded s.receiveStamp
    have known := sampled x set (by rw [taken]; exact stamped)
    rw [taken] at known
    show sampleAfter b (s.stampTaken s.receiveStamp) (s.peer n).sample = _
    rw [taken]
    exact known
  · exact tb'.trans (known x stamped)
  · exact tb'.trans (adopted loaded set unknown unset)
  · rw [good.2]
    exact counted
  · have dru : t.dru = (beaconFrom n b s.receiveStamp (s.heardFrom n)).dru := ended.part .dru
    have fu' : t.fu = (beaconFrom n b s.receiveStamp (s.heardFrom n)).fu := ended.part .fu
    have reports := peerReports_of_pt (s := t) (ended.part .pt)
    obtain ⟨gone, stays⟩ := floor taking
    obtain ⟨held, free⟩ := hearFloorSummary_spec n b s.receiveStamp.timer
      (beaconTimed n b s.receiveStamp (s.heardFrom n))
    rw [fu, own, now] at free
    rw [fu] at held
    rw [dru, fu']
    refine ⟨fun v view => ⟨fun holder other long => ?_, fun stands quiet => ?_⟩, fun view quiet => ?_,
      fun d x summary school still calm => ?_⟩
    · obtain ⟨left, nowhere⟩ := gone v view ((contradicts_iff v n b).mpr ⟨holder, other⟩) long
      exact ⟨left, zones _ (fun _ => rfl) nowhere⟩
    · rw [stays quiet]
      refine (held v view).2 fun ⟨against, long⟩ => ?_
      obtain ⟨holder, other⟩ := (contradicts_iff v n b).mp against
      rcases stands with h | h | h
      · exact h holder
      · exact other h
      · omega
    · rw [stays quiet]
      exact free view
    · obtain ⟨own, other⟩ := record d x taking summary school still calm
      refine ⟨fun r held initiator number => ?_, fun apart => ⟨(other apart).1, fun running idle => ?_⟩⟩
      · obtain ⟨r', taken, reported, expected, muster, silenced, ends, released⟩ := own r held initiator number
        exact ⟨r', taken, reported, expected, muster, silenced, ends,
          fun was left => zones _ (fun _ => rfl) (released was left)⟩
      · rw [reports]
        exact (other apart).2 running idle

end Sys2Proof.Machine
end

section
/-! PROOF. What a request to queue a frame leaves of the Yard Line Controller (R26, R27, R30), and the frame that is
given up at a full queue. -/

namespace Sys2Proof.Machine

-- one declaration at a time, as in the tests: the threads of a whole text's proofs do not fit the memory limit
set_option Elab.async false

/-! ## The pick of a fold -/

/-- A fold that keeps the better of the eligible items answers none where no item is eligible, and else an eligible item
that none is better than. -/
theorem foldl_pick {α : Type} {f : Option α → α → Option α} {eligible : α → Prop} {atMost : α → α → Prop}
    (skip : ∀ best x, ¬ eligible x → f best x = best) (first : ∀ x, eligible x → f none x = some x)
    (next : ∀ y x, eligible x →
      f (some y) x = some x ∧ atMost y x ∨ f (some y) x = some y ∧ atMost x y)
    (refl : ∀ x, atMost x x) (trans : ∀ x y z, atMost x y → atMost y z → atMost x z) (list : List α) :
    list.foldl f none = none ∧ (∀ x ∈ list, ¬ eligible x) ∨
    ∃ y ∈ list, list.foldl f none = some y ∧ eligible y ∧ ∀ x ∈ list, eligible x → atMost x y := by
  induction list using List.reverseRecOn with
  | nil => exact .inl ⟨rfl, by simp⟩
  | append_singleton list x ih =>
    rw [List.foldl_append, List.foldl_cons, List.foldl_nil]
    by_cases able : eligible x
    · rcases ih with ⟨h, ne⟩ | ⟨y, hy, h, able', best⟩ <;> rw [h]
      · refine .inr ⟨x, by simp, first x able, able, fun z hz ez => ?_⟩
        rcases List.mem_append.mp hz with hz | hz
        · exact absurd ez (ne z hz)
        · rw [List.mem_singleton.mp hz]
          exact refl x
      · rcases next y x able with ⟨h', le⟩ | ⟨h', le⟩
        · refine .inr ⟨x, by simp, h', able, fun z hz ez => ?_⟩
          rcases List.mem_append.mp hz with hz | hz
          · exact trans _ _ _ (best z hz ez) le
          · rw [List.mem_singleton.mp hz]
            exact refl x
        · refine .inr ⟨y, by simp [hy], h', able', fun z hz ez => ?_⟩
          rcases List.mem_append.mp hz with hz | hz
          · exact best z hz ez
          · rwa [List.mem_singleton.mp hz]
    · rcases ih with ⟨h, ne⟩ | ⟨y, hy, h, able', best⟩ <;> rw [h, skip _ x able]
      · exact .inl ⟨rfl, by simpa [or_imp, forall_and] using ⟨ne, able⟩⟩
      · refine .inr ⟨y, by simp [hy], rfl, able', fun z hz ez => ?_⟩
        rcases List.mem_append.mp hz with hz | hz
        · exact best z hz ez
        · exact absurd (List.mem_singleton.mp hz ▸ ez) able

/-! ## The victim of a full queue -/

/-- R30: `b` is of a lower class than `a`, or as young as `a` in the same class. -/
def QueuedFrame.yields (a b : QueuedFrame) : Prop :=
  a.frame.classRank < b.frame.classRank ∨ a.frame.classRank = b.frame.classRank ∧ a.age ≤ b.age

theorem QueuedFrame.before_iff (a b : QueuedFrame) : a.before b = true ↔ b.yields a := by
  simp [QueuedFrame.before, QueuedFrame.yields]

theorem QueuedFrame.yields_total (a b : QueuedFrame) : a.yields b ∨ b.yields a := by
  unfold QueuedFrame.yields
  omega

theorem QueuedFrame.yields_trans {a b c : QueuedFrame} (h1 : a.yields b) (h2 : b.yields c) : a.yields c := by
  unfold QueuedFrame.yields at *
  omega

/-- A frame of a queue stands at some place of it. -/
theorem mem_zipIdx_of_mem {queue : List QueuedFrame} {x : QueuedFrame} (hx : x ∈ queue) :
    ∃ i, (x, i) ∈ queue.zipIdx := by
  obtain ⟨i, inside, rfl⟩ := List.mem_iff_getElem.mp hx
  exact ⟨i, List.mk_mem_zipIdx_iff_getElem?.mpr (List.getElem?_eq_getElem inside)⟩

/-- R30: one step of the search for the frame to give up. -/
def victimStep (rank : Nat) (best : Option (QueuedFrame × Nat)) (x : QueuedFrame × Nat) :
    Option (QueuedFrame × Nat) :=
  if x.1.selected || x.1.frame.classRank ≤ rank then best
  else match best with
    | none => some x
    | some y => if x.1.before y.1 then some x else best

theorem victimIndex_eq (queue : List QueuedFrame) (rank : Nat) :
    victimIndex queue rank = (queue.zipIdx.foldl (victimStep rank) none).map Prod.snd := rfl

/-- R30: no frame is given up where none that is not selected is of a class below `rank`; else the frame given up is one
of them, and the youngest of the lowest class among all that are not selected. -/
theorem victimIndex_cases (queue : List QueuedFrame) (rank : Nat) :
    (victimIndex queue rank = none ∧ ∀ x ∈ queue, x.selected = true ∨ x.frame.classRank ≤ rank) ∨
    ∃ i v, victimIndex queue rank = some i ∧ queue[i]? = some v ∧ v.selected = false ∧
      rank < v.frame.classRank ∧ ∀ x ∈ queue, x.selected = false → x.yields v := by
  have picked := foldl_pick (f := victimStep rank)
    (eligible := fun x => x.1.selected = false ∧ rank < x.1.frame.classRank)
    (atMost := fun x y => x.1.yields y.1)
    (fun best x h => if_pos (by simpa [imp_iff_not_or] using h))
    (fun x h => by simp [victimStep, h])
    (fun y x h => by
      by_cases older : x.1.before y.1 = true
      · exact .inl ⟨by simp [victimStep, h, older], (QueuedFrame.before_iff _ _).mp older⟩
      · refine .inr ⟨by simp [victimStep, h, older], ?_⟩
        exact (QueuedFrame.yields_total x.1 y.1).resolve_right fun k => older ((QueuedFrame.before_iff _ _).mpr k))
    (fun x => .inr ⟨rfl, Nat.le_refl _⟩) (fun _ _ _ => QueuedFrame.yields_trans) queue.zipIdx
  rw [victimIndex_eq]
  rcases picked with ⟨h, ne⟩ | ⟨⟨v, i⟩, hv, h, ⟨free, below⟩, best⟩ <;> rw [h]
  · refine .inl ⟨rfl, fun x hx => ?_⟩
    obtain ⟨i, hi⟩ := mem_zipIdx_of_mem hx
    simpa [imp_iff_not_or] using ne _ hi
  · refine .inr ⟨i, v, rfl, List.mk_mem_zipIdx_iff_getElem?.mp hv, free, below, fun x hx unselected => ?_⟩
    obtain ⟨j, hj⟩ := mem_zipIdx_of_mem hx
    by_cases low : rank < x.frame.classRank
    · exact best _ hj ⟨unselected, low⟩
    · exact .inl (show x.frame.classRank < v.frame.classRank from Nat.lt_of_le_of_lt (Nat.not_lt.mp low) below)

/-! ## The queue after a request -/

theorem reportLost_ylc (f : OutFrame) (s : State) : (reportLost f s).ylc = s.ylc :=
  (reportLost_frame f s).part .ylc

theorem reportLost_now (f : OutFrame) (s : State) : (reportLost f s).now = s.now :=
  congrArg TimeBase.timer ((reportLost_frame f s).part .tb)

/-- R26, R27, R30: what a request to queue a frame can do to the Yard Line Controller: nothing in a state that takes no
such frame; the frame joins a queue with room; at a full queue it is dropped, or joins in the place of another. -/
theorem enqueue_ylc_cases (f : OutFrame) (s : State) :
    (s.takesFrame f = false ∧ (enqueue f s).ylc = s.ylc) ∨
    (s.takesFrame f = true ∧ s.ylc.queue.length < 8 ∧
      (enqueue f s).ylc = { s.ylc with queue := s.ylc.queue ++ [QueuedFrame.new f s.now] }) ∨
    (s.takesFrame f = true ∧ 8 ≤ s.ylc.queue.length ∧ victimIndex s.ylc.queue f.classRank = none ∧
      (enqueue f s).ylc = s.ylc.countDrop) ∨
    (s.takesFrame f = true ∧ 8 ≤ s.ylc.queue.length ∧ ∃ i v, victimIndex s.ylc.queue f.classRank = some i ∧
      s.ylc.queue[i]? = some v ∧
      (enqueue f s).ylc =
        { s.ylc.countDrop with queue := s.ylc.queue.eraseIdx i ++ [QueuedFrame.new f s.now] }) := by
  cases takes : s.takesFrame f with
  | false => exact .inl ⟨rfl, by rw [enqueue_of_refused takes, reportLost_ylc]⟩
  | true =>
    by_cases room : s.ylc.queue.length < 8
    · exact .inr (.inl ⟨rfl, room, by rw [enqueue_of_room takes room]; rfl⟩)
    · have full : 8 ≤ s.ylc.queue.length := by omega
      refine .inr (.inr ?_)
      have noRoom : ¬ s.ylc.queue.length < Config.queueLimit := room
      rcases victimIndex_cases s.ylc.queue f.classRank with ⟨none_, -⟩ | ⟨i, v, some_, at_, -⟩
      · refine .inl ⟨rfl, full, none_, ?_⟩
        simp only [enqueue, takes, noRoom, none_]
        exact reportLost_ylc f _
      · refine .inr ⟨rfl, full, i, v, some_, at_, ?_⟩
        simp only [enqueue, takes, noRoom, some_, at_]
        simp [joinQueue, dropAtFull, reportLost_ylc, reportLost_now, YardLine.countDrop, State.setYlc]
        rfl

/-- Settles O29: the newcomer is dropped, or the frame that the pick gives up leaves. -/
theorem fullQueueGivesUpTheLowestClass : Obligations.FullQueueGivesUpTheLowestClass := by
  intro f s takes full
  have picked := victimIndex_cases s.ylc.queue f.classRank
  rcases enqueue_ylc_cases f s with ⟨refused, -⟩ | ⟨-, room, -⟩ | ⟨-, -, none_, ylc⟩ | ⟨-, -, i, v, some_, at_, ylc⟩
  · simp [takes] at refused
  · omega
  · rw [ylc]
    refine ⟨rfl, fun _ => rfl, fun q hq unselected lower => ?_⟩
    rcases picked with ⟨-, none_'⟩ | ⟨j, w, some_, -⟩
    · rcases none_' q hq with h | h
      · simp [unselected] at h
      · omega
    · simp [none_] at some_
  · rcases picked with ⟨none_, -⟩ | ⟨j, w, some_', at_', free, below, best⟩
    · simp [none_] at some_
    · obtain rfl : j = i := by simpa [some_] using some_'.symm
      obtain rfl : w = v := by simpa [at_] using at_'.symm
      rw [ylc]
      refine ⟨rfl, fun none_ => ?_, fun _ _ _ _ => ⟨j, w, at_, free, best, rfl⟩⟩
      rcases none_ w (List.mem_of_getElem? at_) with h | h
      · simp [free] at h
      · omega

end Sys2Proof.Machine
end

section
/-! PROOF. R27, R45: every request, report and reset keeps the transmit queue within 8 frames and one BEACON, and the six
link counts within 16 bits. -/

namespace Sys2Proof.Machine

-- one declaration at a time, as in the tests: the threads of a whole text's proofs do not fit the memory limit
set_option Elab.async false

/-! ## The law of the transmit queue -/

/-- The law speaks of the frames of the queue and of the counts alone. -/
theorem YardLine.lawful_iff (y : YardLine) :
    y.lawful = true ↔ (y.queue.map QueuedFrame.frame).length ≤ 8 ∧
      (y.queue.map QueuedFrame.frame).count .beacon ≤ 1 ∧ y.counts.lawful = true := by
  have beacons : (y.queue.map QueuedFrame.frame).count .beacon =
      (y.queue.filter fun q => q.frame == .beacon).length := by
    rw [List.count_eq_countP, List.countP_map, List.countP_eq_length_filter]
    rfl
  rw [beacons]
  simp only [YardLine.lawful, Bool.and_eq_true, decide_eq_true_eq, and_assoc, List.length_map]
  exact Iff.rfl

theorem LinkCounts.lawful_iff (c : LinkCounts) :
    c.lawful = true ↔ c.goodFrames ≤ 65535 ∧ c.crcErrors ≤ 65535 ∧ c.unknownKinds ≤ 65535 ∧
      c.queueDrops ≤ 65535 ∧ c.giveUps ≤ 65535 ∧ c.clashes ≤ 65535 := by
  simp [LinkCounts.lawful, and_assoc]

/-- R45: a count that goes up holds at 65,535. -/
theorem countUp_le (n k : Nat) : countUp n k ≤ 65535 := Nat.min_le_left _ _

/-- A part of a lawful queue is lawful with lawful counts. -/
theorem YardLine.lawful_of_sublist {y z : YardLine} (h : y.lawful = true) (part : z.queue.Sublist y.queue)
    (counts : z.counts.lawful = true) : z.lawful = true := by
  rw [YardLine.lawful_iff] at *
  obtain ⟨bound, beacons, -⟩ := h
  have frames := part.map QueuedFrame.frame
  exact ⟨frames.length_le.trans bound, (frames.count_le _).trans beacons, counts⟩

/-- An emptied queue is lawful. -/
theorem YardLine.lawful_of_empty {y : YardLine} (queue : y.queue = []) (counts : y.counts.lawful = true) :
    y.lawful = true := by
  simp [YardLine.lawful_iff, queue, counts]

theorem YardLine.counts_lawful {y : YardLine} (h : y.lawful = true) : y.counts.lawful = true :=
  (y.lawful_iff.mp h).2.2

/-- A frame joins a lawful queue with room, a BEACON only where there is none. -/
theorem YardLine.lawful_of_join {y z : YardLine} {q : QueuedFrame} (h : y.lawful = true)
    (queue : z.queue = y.queue ++ [q]) (counts : z.counts.lawful = true) (room : y.queue.length < 8)
    (one : q.frame = .beacon → ∀ x ∈ y.queue, x.frame ≠ .beacon) : z.lawful = true := by
  rw [YardLine.lawful_iff] at *
  obtain ⟨-, beacons, -⟩ := h
  refine ⟨by simpa [queue] using room, ?_, counts⟩
  rw [queue, List.map_append, List.count_append]
  by_cases beacon : q.frame = .beacon
  · have absent : (y.queue.map QueuedFrame.frame).count .beacon = 0 := by
      rw [List.count_eq_zero]
      simpa using one beacon
    simp [absent, beacon]
  · simpa [beacon] using beacons

theorem YardLine.countDrop_lawful {y : YardLine} (h : y.lawful = true) : y.countDrop.lawful = true := by
  refine YardLine.lawful_of_sublist h (List.Sublist.refl _) ?_
  have counts := y.counts_lawful h
  rw [LinkCounts.lawful_iff] at *
  simp [YardLine.countDrop, countUp_le, counts]

/-! ## What keeps the law -/

/-- What made `t` of `s` keeps the law of the transmit queue. -/
def State.keepsQueueLaw (s t : State) : Prop := s.ylc.lawful = true → t.ylc.lawful = true

theorem State.keepsQueueLaw_refl (s : State) : s.keepsQueueLaw s := id

section
variable {s t u : State} {parts : List Part}

theorem State.keepsQueueLaw.trans (h1 : s.keepsQueueLaw t) (h2 : t.keepsQueueLaw u) : s.keepsQueueLaw u :=
  fun h => h2 (h1 h)

/-- What leaves the Yard Line Controller keeps its law. -/
theorem State.keepsAllBut.queueLaw (h : s.keepsAllBut parts t) (out : Part.ylc ∉ parts := by decide) :
    s.keepsQueueLaw t := fun hs => by
  have same : t.ylc = s.ylc := h .ylc out
  rwa [same]

theorem State.keepsQueueLaw.thenFrame (h : s.keepsQueueLaw t) (frame : t.keepsAllBut parts u)
    (out : Part.ylc ∉ parts := by decide) : s.keepsQueueLaw u :=
  h.trans (frame.queueLaw out)

theorem State.keepsAllBut.thenQueue (frame : s.keepsAllBut parts t) (h : t.keepsQueueLaw u)
    (out : Part.ylc ∉ parts := by decide) : s.keepsQueueLaw u :=
  (frame.queueLaw out).trans h

/-- A write of the Yard Line Controller that leaves the queue and the counts. -/
theorem State.setYlc_queueLaw (s : State) {y : YardLine} (queue : y.queue = s.ylc.queue)
    (counts : y.counts = s.ylc.counts) : s.keepsQueueLaw (s.setYlc y) := fun hs => by
  show y.lawful = true
  rw [YardLine.lawful_iff] at *
  rwa [queue, counts]

/-- The same frames with the same counts are as lawful. -/
theorem State.sameFrames.queueLaw (h : s.sameFrames t) : s.keepsQueueLaw t := fun hs => by
  rw [YardLine.lawful_iff] at *
  rwa [h.1, h.2]

end

theorem ite_queueLaw {f : State → State} (c : State → Bool) (keeps : ∀ t : State, t.keepsQueueLaw (f t)) (t : State) :
    t.keepsQueueLaw (if c t then f t else t) := by
  split
  · exact keeps t
  · exact t.keepsQueueLaw_refl

theorem ifTaking_queueLaw {f : State → State} (keeps : ∀ t : State, t.keepsQueueLaw (f t)) (t : State) :
    t.keepsQueueLaw (ifTaking f t) :=
  ite_queueLaw State.taking keeps t

theorem ifTargeted_queueLaw {f : State → State} (target : Byte) (keeps : ∀ t : State, t.keepsQueueLaw (f t))
    (t : State) : t.keepsQueueLaw (ifTargeted target f t) :=
  ite_queueLaw (fun u => targetsOwn u.own target) keeps t

theorem forStation_queueLaw {b : Byte} {f : Station → State → State}
    (keeps : ∀ n (t : State), t.keepsQueueLaw (f n t)) (t : State) : t.keepsQueueLaw (forStation b f t) := by
  unfold forStation
  split
  · exact keeps _ t
  · exact t.keepsQueueLaw_refl

/-! ## Requests to queue a frame -/

/-- R26, R27, R30: a request keeps the law, one for a BEACON where none is queued. -/
theorem enqueue_queueLaw_of (f : OutFrame) (s : State) (one : f = .beacon → ∀ x ∈ s.ylc.queue, x.frame ≠ .beacon) :
    s.keepsQueueLaw (enqueue f s) := fun hs => by
  rcases enqueue_ylc_cases f s with ⟨-, ylc⟩ | ⟨-, room, ylc⟩ | ⟨-, -, -, ylc⟩ | ⟨-, -, i, v, -, at_, ylc⟩ <;> rw [ylc]
  · exact hs
  · exact YardLine.lawful_of_join hs rfl (s.ylc.counts_lawful hs) room one
  · exact YardLine.countDrop_lawful hs
  · obtain ⟨inside, -⟩ := List.getElem?_eq_some_iff.mp at_
    have bound : s.ylc.queue.length ≤ 8 := by simpa using (s.ylc.lawful_iff.mp hs).1
    have counts := YardLine.counts_lawful (YardLine.countDrop_lawful hs)
    have fewer : ({ s.ylc.countDrop with queue := s.ylc.queue.eraseIdx i } : YardLine).lawful = true :=
      YardLine.lawful_of_sublist hs (List.eraseIdx_sublist _ _) counts
    refine YardLine.lawful_of_join fewer rfl counts ?_ fun beacon x hx => one beacon x (List.mem_of_mem_eraseIdx hx)
    rw [List.length_eraseIdx_of_lt inside]
    omega

theorem enqueue_queueLaw (f : OutFrame) (s : State) (other : f ≠ .beacon := by simp) :
    s.keepsQueueLaw (enqueue f s) :=
  enqueue_queueLaw_of f s fun beacon => absurd beacon other

/-- R5, R28: a BEACON is asked for only where none is queued. -/
theorem requestBeacon_queueLaw (s : State) : s.keepsQueueLaw (requestBeacon s) := by
  unfold requestBeacon
  split
  · rename_i none_
    refine enqueue_queueLaw_of _ s fun _ x hx => ?_
    simpa using List.find?_eq_none.mp none_ x hx
  · split
    · exact (setTb_frame s _).queueLaw
    · exact s.keepsQueueLaw_refl

theorem requestReply_queueLaw (asker : Station) (page : Byte) (s : State) :
    s.keepsQueueLaw (requestReply asker page s) := by
  unfold requestReply
  split
  · exact enqueue_queueLaw _ s
  · split
    · exact s.setYlc_queueLaw rfl rfl
    · exact s.keepsQueueLaw_refl

theorem releaseHeld_queueLaw (f : OutFrame) (s : State) : s.keepsQueueLaw (releaseHeld f s) := by
  unfold releaseHeld releaseHeldBeacon releaseHeldAsk
  split
  · split
    · exact (setTb_frame s _).thenQueue (requestBeacon_queueLaw _)
    · exact s.keepsQueueLaw_refl
  · split
    · refine State.keepsQueueLaw.trans ?_ (requestReply_queueLaw _ _ _)
      exact s.setYlc_queueLaw rfl rfl
    · exact s.keepsQueueLaw_refl
  · exact s.keepsQueueLaw_refl

theorem queueRelease_queueLaw (number : Byte) (why : ReleaseReason) (s : State) :
    s.keepsQueueLaw (queueRelease number why s) :=
  enqueue_queueLaw _ s

/-! ## The Floor Unit -/

theorem ownClaimWithdrawn_queueLaw (number : Byte) (s : State) : s.keepsQueueLaw (ownClaimWithdrawn number s) := by
  unfold ownClaimWithdrawn
  split
  · split
    · exact ((s.setOwn_frame none).andThen (showRefusal_frame _ _)).thenQueue (queueRelease_queueLaw _ _ _)
    · exact s.keepsQueueLaw_refl
  · exact s.keepsQueueLaw_refl

theorem joinClaim_queueLaw (c : ClaimEntry) (s : State) : s.keepsQueueLaw (joinClaim c s) := by
  have listed (l : List ClaimEntry) : s.keepsQueueLaw (s.setClaims l) := (s.setClaims_frame l).queueLaw
  unfold joinClaim
  split
  dsimp only
  refine State.keepsQueueLaw.trans ?_ (ite_queueLaw (fun _ => _) (ownClaimWithdrawn_queueLaw _) _)
  split
  · split
    · exact (listed _).trans (ownClaimWithdrawn_queueLaw _ _)
    · exact listed _
  · exact listed _

theorem pressKey_queueLaw (key : KeyId) (s : State) : s.keepsQueueLaw (pressKey key s) := by
  unfold pressKey
  dsimp only
  split
  · exact (showRefusal_frame key s).queueLaw
  · split
    · exact (showRefusal_frame key s).queueLaw
    · exact (setFu_frame s _).thenQueue (enqueue_queueLaw _ _)

theorem claimSent_queueLaw (number : Byte) (s : State) : s.keepsQueueLaw (claimSent number s) := by
  unfold claimSent
  split
  · split
    · exact joinClaim_queueLaw _ s
    · exact s.keepsQueueLaw_refl
  · exact s.keepsQueueLaw_refl

theorem closeGathering_queueLaw (o : OwnClaim) (s : State) : s.keepsQueueLaw (closeGathering o s) := by
  unfold closeGathering
  split
  · exact ((s.setOwn_frame none).thenQueue (queueRelease_queueLaw _ _ _)).thenFrame
      ((showRefusal_frame _ _).andThen (ownFloorLeaves_frame _ _))
  · exact (enterChiming_frame o s).queueLaw

theorem ownWin_queueLaw (number : Byte) (s : State) : s.keepsQueueLaw (ownWin number s) := by
  unfold ownWin
  split
  · split
    · dsimp only
      split
      · exact (s.setOwn_frame _).thenQueue (closeGathering_queueLaw _ _)
      · exact (s.setOwn_frame _).queueLaw
    · exact s.keepsQueueLaw_refl
  · exact s.keepsQueueLaw_refl

theorem ownHoldEnds_queueLaw (o : OwnClaim) (s : State) : s.keepsQueueLaw (ownHoldEnds o s) :=
  (queueRelease_queueLaw _ _ s).thenFrame
    (((ownIdle_frame _).andThen (lampOff_frame _ _)).andThen (ownFloorLeaves_frame _ _))

theorem hearClaim_queueLaw (sender : Station) (b : ClaimBody) (s : State) :
    s.keepsQueueLaw (hearClaim sender b s) := by
  unfold hearClaim
  extract_lets c s1 s2
  have left : s.keepsQueueLaw s1 := by
    unfold s1
    split
    · split
      · exact (floorLeavesView_frame s).queueLaw
      · exact s.keepsQueueLaw_refl
    · exact s.keepsQueueLaw_refl
  have joined : s.keepsQueueLaw s2 := left.trans (joinClaim_queueLaw c s1)
  split
  · split
    · exact joined.trans (enqueue_queueLaw _ _)
    · exact joined
  · exact joined

theorem hearObject_queueLaw (claimant : Station) (number : Byte) (s : State) :
    s.keepsQueueLaw (hearObject claimant number s) := by
  unfold hearObject
  split
  · exact (s.setClaims_frame _).queueLaw
  · split
    · split
      · exact (((ownIdle_frame s).andThen (showRefusal_frame _ _)).andThen (ownFloorLeaves_frame _ _)).thenQueue
          (queueRelease_queueLaw _ _ _)
      · exact s.keepsQueueLaw_refl
    · exact s.keepsQueueLaw_refl

theorem hearReady_queueLaw (sender holder : Station) (number : Byte) (mask : ZoneMask) (s : State) :
    s.keepsQueueLaw (hearReady sender holder number mask s) := by
  unfold hearReady
  split
  · split
    · dsimp only
      split
      · exact (s.setOwn_frame _).thenQueue (closeGathering_queueLaw _ _)
      · exact (s.setOwn_frame _).queueLaw
    · exact s.keepsQueueLaw_refl
  · exact s.keepsQueueLaw_refl

theorem claimWon_queueLaw (x : ClaimEntry) (s : State) : s.keepsQueueLaw (claimWon x s) := by
  have offered (v : Option FloorView) := (((displaceFloor_frame x s).andThen
    (State.setView_frame _ (some (x.view s.now)))).andThen
    (offerZones_frame x (zonesOf (zonesTargeted s.own x.targets)) _)).andThen (State.setView_frame _ v)
  unfold claimWon
  dsimp only
  split
  · exact (offered _).thenQueue (ownWin_queueLaw _ _)
  · split
    · exact (offered _).queueLaw
    · exact (offered _).thenQueue (enqueue_queueLaw _ _)

theorem closeWindow_queueLaw (x : ClaimEntry) (s : State) : s.keepsQueueLaw (closeWindow x s) := by
  have gone := claimLeaves_frame x.claimant s
  unfold closeWindow
  dsimp only
  split
  · exact (gone.andThen (claimLoses_frame _ _)).queueLaw
  · split
    · exact gone.thenQueue (claimWon_queueLaw _ _)
    · exact (gone.andThen ((displaceFloor_frame x _).andThen (State.setView_frame _ _))).queueLaw

theorem releaseOwnKey_queueLaw (o : OwnClaim) (s : State) : s.keepsQueueLaw (releaseOwnKey o s) := by
  have ended (why : ReleaseReason) := (queueRelease_queueLaw o.number why s).thenFrame
    ((ownIdle_frame _).andThen (lampOff_frame o.key _))
  unfold releaseOwnKey
  split
  · exact (ended _).thenFrame (ownClaimLeaves_frame _)
  all_goals exact (ended _).thenFrame (ownFloorLeaves_frame _ _)

theorem floorYield_queueLaw (s : State) : s.keepsQueueLaw (floorYield s) := by
  unfold floorYield
  refine State.keepsQueueLaw.thenFrame ?_ (floorLeavesView_frame _)
  split
  · rename_i o _
    have given := (queueRelease_queueLaw o.number .yield s).thenFrame
      ((ownIdle_frame _).andThen (lampOff_frame o.key _))
    dsimp only
    split
    · exact given.thenFrame (ownClaimLeaves_frame _)
    · exact given
  · exact s.keepsQueueLaw_refl

theorem keyHeld_queueLaw (k : KeyId) (s : State) : s.keepsQueueLaw (keyHeld k s) := by
  unfold keyHeld
  split
  · exact s.keepsQueueLaw_refl
  · dsimp only
    split
    · exact (s.setKey_frame _ _).thenQueue (pressKey_queueLaw _ _)
    · exact (s.setKey_frame _ _).queueLaw

theorem keyReleased_queueLaw (k : KeyId) (s : State) : s.keepsQueueLaw (keyReleased k s) := by
  unfold keyReleased
  dsimp only
  split
  · split
    · exact (s.setKey_frame _ _).thenQueue (releaseOwnKey_queueLaw _ _)
    · exact (s.setKey_frame _ _).queueLaw
  · exact (s.setKey_frame _ _).queueLaw

theorem windowCloses_queueLaw (claimant : Station) (s : State) : s.keepsQueueLaw (windowCloses claimant s) := by
  unfold windowCloses
  split
  · exact ite_queueLaw State.taking (closeWindow_queueLaw _) s
  · exact s.keepsQueueLaw_refl

theorem readyWaitEnds_queueLaw (s : State) : s.keepsQueueLaw (readyWaitEnds s) := by
  unfold readyWaitEnds
  split
  · split
    · exact closeGathering_queueLaw _ s
    · exact s.keepsQueueLaw_refl
  · exact s.keepsQueueLaw_refl

theorem holdEnds_queueLaw (s : State) : s.keepsQueueLaw (holdEnds s) := by
  unfold holdEnds
  split
  · split
    · exact ownHoldEnds_queueLaw _ s
    · exact s.keepsQueueLaw_refl
  · exact s.keepsQueueLaw_refl

/-! ## The Drill Unit -/

theorem startDrill_queueLaw (own : Station) (t : Nat) (s : State) : s.keepsQueueLaw (startDrill own t s) :=
  (((setDru_frame s _).andThen (checkPhase_frame _)).andThen (askZones_frame _ _)).thenQueue (enqueue_queueLaw _ _)

theorem pressDrillKey_queueLaw (s : State) : s.keepsQueueLaw (pressDrillKey s) := by
  unfold pressDrillKey
  split
  · split
    · exact s.keepsQueueLaw_refl
    · split
      · split
        · unfold pressOnDrill
          split <;> exact (changeRecord_frame _ _ s).thenQueue (enqueue_queueLaw _ _)
        · exact startDrill_queueLaw _ _ s
      · exact startDrill_queueLaw _ _ s
  · exact s.keepsQueueLaw_refl

theorem pressMusterKey_queueLaw (s : State) : s.keepsQueueLaw (pressMusterKey s) := by
  unfold pressMusterKey
  split
  · split
    · exact (enqueue_queueLaw _ s).thenFrame (changeRecord_frame _ _ _)
    · exact s.keepsQueueLaw_refl
  · exact s.keepsQueueLaw_refl

theorem yieldEndsDrill_queueLaw (s : State) : s.keepsQueueLaw (yieldEndsDrill s) := by
  unfold yieldEndsDrill
  split
  · split
    · dsimp only
      split
      · exact (changeRecord_frame _ _ s).thenQueue (enqueue_queueLaw _ _)
      · exact (changeRecord_frame _ _ s).queueLaw
    · exact s.keepsQueueLaw_refl
  · exact s.keepsQueueLaw_refl

theorem yieldStart_queueLaw (s : State) : s.keepsQueueLaw (yieldStart s) :=
  (((s.setYielding_frame true).thenQueue (yieldEndsDrill_queueLaw _)).trans (floorYield_queueLaw _)).thenFrame
    (forEach_keepsAllBut yieldRequest_frame allZones _)

theorem updateYield_queueLaw (s : State) : s.keepsQueueLaw (updateYield s) := by
  cases taking : s.taking with
  | false => simpa [updateYield, taking] using s.keepsQueueLaw_refl
  | true =>
    rcases updateYield_cases s taking with ⟨-, -, h⟩ | ⟨-, -, h⟩ | ⟨-, h⟩ <;> rw [h]
    · exact s.withPeerCause_frame.thenQueue (yieldStart_queueLaw _)
    · exact (s.withPeerCause_frame.andThen (yieldEnd_frame _)).queueLaw
    · exact s.withPeerCause_frame.queueLaw

theorem contactToYield_queueLaw (s : State) : s.keepsQueueLaw (contactToYield s) := by
  unfold contactToYield
  split
  · exact (s.setYielding_frame _).queueLaw
  · exact updateYield_queueLaw s

theorem contactChanges_queueLaw (on : Bool) (s : State) : s.keepsQueueLaw (contactChanges on s) := by
  unfold contactChanges
  refine State.keepsQueueLaw.trans ?_ (contactToYield_queueLaw _)
  split
  · exact (setDru_frame s _).thenQueue (enqueue_queueLaw _ _)
  · exact (setDru_frame s _).queueLaw

/-! ## The Peer Table -/

theorem beaconFrom_queueLaw (n : Station) (b : BeaconBody) (r : ReceiveStamp) (s : State) :
    s.keepsQueueLaw (beaconFrom n b r s) := by
  have timed := (s.setPeer_frame n ((s.peer n).afterBeacon b (s.stampTaken r) s.now)).andThen
    (timeFromBeacon_frame b r _)
  unfold beaconFrom
  dsimp only
  split
  · exact (timed.andThen ((hearFloorSummary_frame _ _ _ _).andThen (drillFromBeacon_frame _ _ _))).thenQueue
      (updateYield_queueLaw _)
  · exact timed.queueLaw

theorem peerLost_queueLaw (n : Station) (s : State) : s.keepsQueueLaw (peerLost n s) := by
  unfold peerLost
  dsimp only
  split
  · exact ((s.setPeer_frame _ _).andThen (floorPeerLost_frame _ _)).thenQueue (updateYield_queueLaw _)
  · exact (s.setPeer_frame _ _).queueLaw

/-! ## The end of an attempt -/

theorem reportSent_queueLaw (f : OutFrame) (s : State) : s.keepsQueueLaw (reportSent f s) := by
  unfold reportSent
  split
  · obtain ⟨queue, counts, -, -⟩ := agreementRound_keepsSending s
    exact State.sameFrames.queueLaw ⟨congrArg _ queue, counts⟩
  · exact claimSent_queueLaw _ s
  · exact s.keepsQueueLaw_refl

theorem giveUp_lawful {c : LinkCounts} (h : c.lawful = true) :
    ({ c with giveUps := min 65535 (c.giveUps + 1) } : LinkCounts).lawful = true := by
  rw [LinkCounts.lawful_iff] at *
  simp [h]

/-- R33: the frame sent leaves the queue before anything else joins it. -/
theorem frameSent_queueLaw (i : Nat) (q : QueuedFrame) (s : State) : s.keepsQueueLaw (frameSent i q s) := by
  rw [frameSent_eq]
  refine State.keepsQueueLaw.trans (fun hs => ?_) ((reportSent_queueLaw _ _).trans (releaseHeld_queueLaw _ _))
  exact YardLine.lawful_of_sublist hs (List.eraseIdx_sublist _ _) (s.ylc.counts_lawful hs)

/-- R34: after a collision the frame stands at its place or has left the queue. -/
theorem frameCollided_queueLaw {i : Nat} {q : QueuedFrame} {s : State} (at_ : s.ylc.queue[i]? = some q) :
    s.keepsQueueLaw (frameCollided i q s) := by
  by_cases early : q.attempts + 1 < 8
  · rw [frameCollided_of_early i s early]
    refine State.keepsQueueLaw.trans (State.sameFrames.queueLaw ?_) (releaseHeld_queueLaw _ _)
    exact ⟨(State.setQueued_sameFrames (r := { q with attempts := q.attempts + 1, selected := false }) at_ rfl).1, rfl⟩
  · rw [frameCollided_of_last i s (Nat.not_lt.mp early)]
    refine (State.keepsQueueLaw.trans (fun hs => ?_) ((reportLost_frame _ _).queueLaw)).trans
      (releaseHeld_queueLaw _ _)
    exact YardLine.lawful_of_sublist hs (List.eraseIdx_sublist _ _) (giveUp_lawful (s.ylc.counts_lawful hs))

theorem whileSending_queueLaw {f : Nat → QueuedFrame → State → State}
    (keeps : ∀ {i q} {s : State}, s.ylc.queue[i]? = some q → s.keepsQueueLaw (f i q s)) (s : State) :
    s.keepsQueueLaw (whileSending f s) := by
  unfold whileSending
  split
  · split
    · exact s.keepsQueueLaw_refl
    · split
      · exact s.keepsQueueLaw_refl
      · rename_i at_
        exact keeps at_
  · exact s.keepsQueueLaw_refl

/-! ## Access to the line, and the receiver -/

theorem lineQuiet_queueLaw (s : State) : s.keepsQueueLaw (lineQuiet s) := by
  unfold lineQuiet
  dsimp only
  split
  · refine State.keepsQueueLaw.trans ?_ (beginTransmission_sameFrames _).queueLaw
    exact s.setYlc_queueLaw rfl rfl
  · exact s.setYlc_queueLaw rfl rfl

/-- The receiver raises a count within its 16 bits and leaves the queue. -/
theorem receiverCounts_lawful {y : YardLine} (hy : y.lawful = true) :
    y.hunt.lawful = true ∧ y.hunt.countCrcError.lawful = true ∧ y.hunt.countUnknown.lawful = true ∧
    y.hunt.noteClash.lawful = true ∧ y.hunt.countGood.lawful = true := by
  have counts := y.counts_lawful hy
  rw [LinkCounts.lawful_iff] at counts
  refine ⟨hy, ?_, ?_, ?_, ?_⟩ <;> refine YardLine.lawful_of_sublist hy (List.Sublist.refl _) ?_ <;>
    rw [LinkCounts.lawful_iff] <;>
    simp [YardLine.hunt, YardLine.countCrcError, YardLine.countUnknown, YardLine.noteClash, YardLine.countGood,
      countUp_le, counts]

theorem receiveAbort_queueLaw (s : State) : s.keepsQueueLaw (receiveAbort s) := fun hs => by
  obtain ⟨hunt, crcError, -⟩ := receiverCounts_lawful hs
  unfold receiveAbort
  split
  · exact hs
  · split
    · exact hunt
    · exact crcError

theorem startBit_queueLaw (bit : StartBit) (s : State) : s.keepsQueueLaw (startBit bit s) := by
  have busy : s.keepsQueueLaw (setBusy bit.counted s) := by
    rw [setBusy_eq]
    exact s.setYlc_queueLaw rfl rfl
  refine busy.trans ?_
  unfold startBit takeCharacter
  split
  · exact receiveAbort_queueLaw _
  · exact State.setYlc_queueLaw _ rfl rfl

theorem delimiter_queueLaw (s : State) : s.keepsQueueLaw (delimiter s) := by
  unfold delimiter
  split
  · exact s.setYlc_queueLaw rfl rfl
  · exact s.keepsQueueLaw_refl

theorem frameRejected_queueLaw (frame : List Byte) (s : State) : s.keepsQueueLaw (frameRejected frame s) := fun hs => by
  obtain ⟨hunt, crcError, unknown, clash, -⟩ := receiverCounts_lawful hs
  unfold frameRejected
  split
  · exact hunt
  · split
    · exact crcError
    · exact unknown
    · exact clash
    · exact hs

/-- R37 to R40: a frame heard is counted, and what its block does with it keeps the law. -/
theorem accept_queueLaw {sender : Byte} {deliver : Station → ReceiveStamp → State → State}
    (keeps : ∀ n r (t : State), t.keepsQueueLaw (deliver n r t)) (s : State) :
    s.keepsQueueLaw (accept sender deliver s) := fun hs => by
  obtain ⟨hunt, -, -, clash, good⟩ := receiverCounts_lawful hs
  unfold accept
  dsimp only
  split
  · exact hunt
  · split
    · exact clash
    · split
      · exact good
      · split
        · exact ((peerHeard_frame _ _).thenQueue (keeps _ _ _)) good
        · exact good

/-! ## Start-up and supply -/

theorem startBeaconTimer_queueLaw (s : State) : s.keepsQueueLaw (startBeaconTimer s) :=
  (startBeaconTimer_frame s).queueLaw

/-- R203: CONFIG-FAULT is entered with the queue as it stands. -/
theorem enterConfigFault_queueLaw (code : FaultCode) (s : State) : s.keepsQueueLaw (enterConfigFault code s) :=
  State.keepsQueueLaw.trans (t := { s with
    tb := s.tb.fault
    bs := BellScheduler.powerOn
    dru := { s.dru with yielding := false }
    sp := { s.sp with
      config := .configFault, faultCode := some code, image := none, imageCrc := none, warnings := [],
      warningTotal := 0, csc := false, displayDue := some (s.now + Config.displayMs) } })
    (fun hs => hs) (startBeaconTimer_queueLaw _)

/-- R26, R193: HOLD-UP empties the queue. -/
theorem enterHoldUp_queueLaw (s : State) : s.keepsQueueLaw (enterHoldUp s) := by
  rw [enterHoldUp_eq]
  refine State.keepsQueueLaw.thenFrame (t := holdUpCut s) (fun hs => ?_)
    ((forEach_keepsAllBut dialCut_frame allSlots _).andThen (examineDue_frame _))
  have before : (emptyZones { holdUpSnapshot s with dsq := (holdUpSnapshot s).dsq.cut }).ylc = s.ylc :=
    (((holdUpSnapshot_frame s).andThen (setDsq_frame _ _)).andThen (emptyZones_frame _)).part .ylc
  have cut : (holdUpCut s).ylc = s.ylc.cut := congrArg YardLine.cut before
  rw [cut]
  exact YardLine.lawful_of_empty rfl (s.ylc.counts_lawful hs)

theorem warningAsserts_queueLaw (s : State) : s.keepsQueueLaw (warningAsserts s) := by
  unfold warningAsserts
  dsimp only
  split
  · exact (setDs_frame s _).queueLaw
  · split
    · exact (setDs_frame s _).thenQueue (enterHoldUp_queueLaw _)
    · exact ((setDs_frame s _).andThen (setDs_frame _ _)).queueLaw

theorem startLoading_queueLaw (straps : BitVec 5) (s : State) : s.keepsQueueLaw (startLoading straps s) := by
  unfold startLoading
  split
  · exact (setSp_frame s _).queueLaw
  · exact enterConfigFault_queueLaw _ s

theorem endOfReset_queueLaw (straps : BitVec 5) (s : State) : s.keepsQueueLaw (endOfReset straps s) :=
  ((eraseIfFull_frame s).thenQueue (startLoading_queueLaw straps _)).trans
    (ite_queueLaw (fun t => t.ds.warning) warningAsserts_queueLaw _)

/-- R46: after a reset the queue is empty and every count 0. -/
theorem afterReset_lawful (seed sendIndex : Nat) : (YardLine.afterReset seed sendIndex).lawful = true := rfl

theorem warmReset_queueLaw (cause : ResetCause) (s : State) : s.keepsQueueLaw (warmReset cause s) :=
  fun _ => afterReset_lawful _ _

theorem collapse_queueLaw (s : State) : s.keepsQueueLaw (collapse s) :=
  fun _ => afterReset_lawful _ _

theorem powerOnReset_queueLaw (straps : BitVec 5) (warning : Bool) (s : State) :
    s.keepsQueueLaw (powerOnReset straps warning s) := by
  have supplied : s.keepsQueueLaw { collapse s with powered := true } := fun _ => afterReset_lawful _ _
  have scanned := (supplied.thenFrame (recoveryScan_frame _)).thenFrame (eraseIfFull_frame _)
  unfold powerOnReset
  dsimp only
  split
  · exact scanned.thenFrame (setDs_frame _ _)
  · exact (scanned.thenFrame (setDs_frame _ _)).trans (endOfReset_queueLaw _ _)

theorem imageRead_queueLaw (memory : List Byte) (s : State) : s.keepsQueueLaw (imageRead memory s) := by
  unfold imageRead
  split
  · rename_i i _
    have loaded := ((applySettings_frame i (settingsOf i.sections).1 (settingsOf i.sections).2 s).andThen
      (bindSlots_frame (settingsOf i.sections).1.clocks _)).andThen (bellsTakeUp_frame _)
    exact (loaded.andThen (State.setYielding_frame _ false)).thenQueue (updateYield_queueLaw _)
  · exact enterConfigFault_queueLaw _ s

theorem enterRunning_queueLaw (s : State) : s.keepsQueueLaw (enterRunning s) := by
  have examined := ((((setSp_frame s { s.sp with config := .running, listeningEnd := none }).andThen
    (startBeaconTimer_frame _)).andThen (forEach_keepsAllBut tryImpulse_frame allSlots _)).andThen
    (forEach_keepsAllBut startEffects_frame allZones _)).andThen (examineDue_frame _)
  unfold enterRunning
  dsimp only
  split
  · exact examined.thenQueue (enqueue_queueLaw _ _)
  · exact examined.queueLaw

/-! ## The step -/

theorem change_queueLaw {f : State → State} (keeps : ∀ t : State, t.keepsQueueLaw (f t)) (s : State) :
    s.keepsQueueLaw (change f s) := by
  unfold change whenUp
  split
  · exact (keeps s).trans (asOneChange_sameFrames f s).queueLaw
  · exact s.keepsQueueLaw_refl

theorem change_queueLaw_of_frame {f : State → State} {parts : List Part} (frame : ∀ t : State, t.keepsAllBut parts (f t))
    (s : State) (out : Part.ylc ∉ parts := by decide) : s.keepsQueueLaw (change f s) :=
  change_queueLaw (fun t => (frame t).queueLaw out) s

theorem heard_queueLaw {sender : Byte} {deliver : Station → ReceiveStamp → State → State}
    (keeps : ∀ n r (t : State), t.keepsQueueLaw (deliver n r t)) (s : State) :
    s.keepsQueueLaw (change (accept sender deliver) s) :=
  change_queueLaw (accept_queueLaw keeps) s

theorem heard_queueLaw_of_frame {sender : Byte} {deliver : Station → ReceiveStamp → State → State} {parts : List Part}
    (frame : ∀ n r (t : State), t.keepsAllBut parts (deliver n r t)) (s : State) (out : Part.ylc ∉ parts := by decide) :
    s.keepsQueueLaw (change (accept sender deliver) s) :=
  heard_queueLaw (fun n r t => (frame n r t).queueLaw out) s

end Sys2Proof.Machine
end

section
/-! PROOF. R27, R45: the law of the transmit queue through every command and every step. -/

namespace Sys2Proof.Machine

-- one declaration at a time, as in the tests: the threads of a whole text's proofs do not fit the memory limit
set_option Elab.async false

/-- R27, R45: no command takes the transmit queue and the counts out of their law. -/
theorem exec_keeps_queue_law (c : Instr) (s : State) : ∃ t, exec c s = .next t ∧ s.keepsQueueLaw t := by
  cases c with
  | powerOn straps warning =>
    refine ⟨_, rfl, ?_⟩
    split
    · exact s.keepsQueueLaw_refl
    · exact powerOnReset_queueLaw _ _ s
  | rstAssert =>
    refine ⟨_, rfl, ?_⟩
    split
    · exact warmReset_queueLaw .resetInput { s with rst := true }
    · exact fun hs => hs
  | rstRelease straps =>
    refine ⟨_, rfl, ?_⟩
    split
    · exact endOfReset_queueLaw straps { s with rst := false }
    · exact fun hs => hs
  | configImageRead memory => exact ⟨_, rfl, change_queueLaw (ite_queueLaw _ (imageRead_queueLaw memory)) s⟩
  | listeningEnd => exact ⟨_, rfl, change_queueLaw (ite_queueLaw _ enterRunning_queueLaw) s⟩
  | supplyWarning => exact ⟨_, rfl, ite_queueLaw State.powered warningAsserts_queueLaw s⟩
  | warningClears =>
    refine ⟨_, rfl, ?_⟩
    unfold warningClears
    dsimp only
    split
    · split <;> exact fun hs => hs
    · exact s.keepsQueueLaw_refl
  | warningReasserts => exact ⟨_, rfl, ite_queueLaw State.powered warningAsserts_queueLaw s⟩
  | clearTimerExpiry straps =>
    refine ⟨_, rfl, ?_⟩
    split
    · exact (warmReset_queueLaw _ s).trans (endOfReset_queueLaw _ _)
    · exact s.keepsQueueLaw_refl
  | supplyCollapse => exact ⟨_, rfl, ite_queueLaw State.powered collapse_queueLaw s⟩
  | displayWord => exact ⟨_, rfl, (whenUp_frame (ite_frame _ fun t => setSp_frame t _) s).queueLaw⟩
  | beaconTimerExpiry =>
    exact ⟨_, rfl, change_queueLaw (ite_queueLaw _ fun t =>
      (setTb_frame t _).thenQueue (requestBeacon_queueLaw _)) s⟩
  | schoolTimeBoundary =>
    refine ⟨_, rfl, change_queueLaw (fun t => ?_) s⟩
    split
    · exact (boundaryReached_frame _ t).queueLaw
    · exact t.keepsQueueLaw_refl
  | idleGapExpiry => exact ⟨_, rfl, change_queueLaw (ite_queueLaw _ lineQuiet_queueLaw) s⟩
  | backOffEnd =>
    exact ⟨_, rfl, change_queueLaw (ite_queueLaw _ fun t => (beginTransmission_sameFrames t).queueLaw) s⟩
  | transmitComplete =>
    exact ⟨_, rfl, change_queueLaw (whileSending_queueLaw fun _ => frameSent_queueLaw _ _ _) s⟩
  | collision => exact ⟨_, rfl, change_queueLaw (whileSending_queueLaw frameCollided_queueLaw) s⟩
  | receiveAbort => exact ⟨_, rfl, change_queueLaw receiveAbort_queueLaw s⟩
  | frameRejected frame => exact ⟨_, rfl, change_queueLaw (frameRejected_queueLaw frame) s⟩
  | beacon sender body => exact ⟨_, rfl, heard_queueLaw (fun n r => beaconFrom_queueLaw n body r) s⟩
  | dayplan sender day code =>
    refine ⟨_, rfl, heard_queueLaw_of_frame (parts := [.bs]) (fun _ _ => ifLoaded_frame fun t => ?_) s⟩
    split
    · exact takeDayplan_frame _ _ t
    · exact t.keepsAllBut_refl _
  | removeOverride sender day =>
    exact ⟨_, rfl, heard_queueLaw_of_frame (fun _ _ => ifLoaded_frame (takeDayplan_frame _ _)) s⟩
  | shift sender day kind first last delta =>
    refine ⟨_, rfl, heard_queueLaw_of_frame (parts := [.bs]) (fun _ _ => ifLoaded_frame fun t => ?_) s⟩
    split
    · exact takeShift_frame _ _ _ _ _ t
    · exact t.keepsAllBut_refl _
  | cancel sender day first last =>
    exact ⟨_, rfl, heard_queueLaw_of_frame (fun _ _ => ifLoaded_frame (takeShift_frame _ _ _ _ _)) s⟩
  | clearAll sender day =>
    exact ⟨_, rfl, heard_queueLaw_of_frame (fun _ _ => ifLoaded_frame (takeShift_frame _ _ _ _ _)) s⟩
  | claim sender body => exact ⟨_, rfl, heard_queueLaw (fun n _ => ifTaking_queueLaw (hearClaim_queueLaw n body)) s⟩
  | object sender claimant number reason =>
    exact ⟨_, rfl, heard_queueLaw (fun _ _ =>
      ifTaking_queueLaw (forStation_queueLaw fun c => hearObject_queueLaw c number)) s⟩
  | ready sender holder number readyMask refusedMask =>
    exact ⟨_, rfl, heard_queueLaw (fun n _ =>
      ifTaking_queueLaw (forStation_queueLaw fun h => hearReady_queueLaw n h number readyMask)) s⟩
  | release sender number reason =>
    exact ⟨_, rfl, heard_queueLaw_of_frame (fun n _ => ifTaking_frame (hearRelease_frame n number)) s⟩
  | drillStart sender body =>
    exact ⟨_, rfl, heard_queueLaw_of_frame (fun _ _ => ifTaking_frame (takeOffer_frame _)) s⟩
  | silence sender initiator number =>
    exact ⟨_, rfl, heard_queueLaw_of_frame (fun _ _ =>
      ifTaking_frame (forStation_frame fun i => hearSilence_frame i number)) s⟩
  | muster sender initiator number elapsed =>
    exact ⟨_, rfl, heard_queueLaw_of_frame (fun n _ =>
      ifTaking_frame (forStation_frame fun i => hearMuster_frame n i number elapsed)) s⟩
  | drillEnd sender initiator number reason =>
    exact ⟨_, rfl, heard_queueLaw_of_frame (fun _ _ =>
      ifTaking_frame (forStation_frame fun i => hearDrillEnd_frame i number _)) s⟩
  | yield sender state =>
    exact ⟨_, rfl, heard_queueLaw (fun n _ t =>
      (peerYields_frame n state t).thenQueue (ifTaking_queueLaw updateYield_queueLaw _)) s⟩
  | dialSet sender target line position =>
    exact ⟨_, rfl, heard_queueLaw_of_frame (fun _ _ =>
      ifTargeted_frame target (ifLoaded_frame (dialSet_frame line position))) s⟩
  | statusAsk sender target page =>
    exact ⟨_, rfl, heard_queueLaw (fun n _ =>
      ifTargeted_queueLaw target (ite_queueLaw _ (requestReply_queueLaw n page))) s⟩
  | statusReply sender asker page content =>
    exact ⟨_, rfl, heard_queueLaw (fun _ _ t => t.keepsQueueLaw_refl) s⟩
  | invertNextReply sender target action line =>
    refine ⟨_, rfl, heard_queueLaw (fun _ _ => ifTargeted_queueLaw target fun t => ?_) s⟩
    split
    · exact t.setYlc_queueLaw rfl rfl
    · exact t.keepsQueueLaw_refl
  | lockSupervision sender target line =>
    refine ⟨_, rfl, heard_queueLaw_of_frame (parts := [.dsq]) (fun _ _ =>
      ifTargeted_frame target (ifTaking_frame fun t => ?_)) s⟩
    split
    · exact lockLine_frame _ t
    · exact t.keepsAllBut_refl _
  | unlock sender target line =>
    exact ⟨_, rfl, heard_queueLaw_of_frame (fun _ _ =>
      ifTargeted_frame target (ifTaking_frame unlockLine_frame)) s⟩
  | agingExpiry peer => exact ⟨_, rfl, change_queueLaw (ite_queueLaw _ (peerLost_queueLaw peer)) s⟩
  | spacingExpiry slot => exact ⟨_, rfl, change_queueLaw_of_frame (ite_frame _ (tryImpulse_frame slot)) s⟩
  | staggerExpiry => exact ⟨_, rfl, change_queueLaw State.keepsQueueLaw_refl s⟩
  | widthExpiry line => exact ⟨_, rfl, change_queueLaw_of_frame (widthExpires_frame line) s⟩
  | gapExpiry line => exact ⟨_, rfl, change_queueLaw_of_frame (gapEnds_frame line) s⟩
  | chimeWidthExpiry => exact ⟨_, rfl, change_queueLaw_of_frame chimeWidthEnds_frame s⟩
  | chimeGapExpiry => exact ⟨_, rfl, change_queueLaw_of_frame chimeGapEnds_frame s⟩
  | overcurrent line => exact ⟨_, rfl, change_queueLaw_of_frame (overcurrentAt_frame line) s⟩
  | supervisionSlot reading =>
    exact ⟨_, rfl, change_queueLaw_of_frame (ite_frame _ (supervise_frame reading)) s⟩
  | entryDue => exact ⟨_, rfl, change_queueLaw_of_frame examineDue_frame s⟩
  | pageKeyPress key =>
    refine ⟨_, rfl, ?_⟩
    split
    · exact change_queueLaw (keyHeld_queueLaw key) s
    · exact (s.setKey_frame _ _).queueLaw
  | pageKeyRelease key =>
    refine ⟨_, rfl, ?_⟩
    split
    · exact change_queueLaw (keyReleased_queueLaw key) s
    · exact (s.setKey_frame _ _).queueLaw
  | refusalEnd key => exact ⟨_, rfl, (whenUp_frame (ite_frame _ (lampOff_frame key)) s).queueLaw⟩
  | windowClose claimant => exact ⟨_, rfl, change_queueLaw (windowCloses_queueLaw claimant) s⟩
  | readyWaitEnd => exact ⟨_, rfl, change_queueLaw readyWaitEnds_queueLaw s⟩
  | holdEnd => exact ⟨_, rfl, change_queueLaw holdEnds_queueLaw s⟩
  | targetGraceExpiry => exact ⟨_, rfl, change_queueLaw_of_frame graceExpires_frame s⟩
  | drillKeyPress => exact ⟨_, rfl, change_queueLaw (ite_queueLaw _ pressDrillKey_queueLaw) s⟩
  | musterKeyPress => exact ⟨_, rfl, change_queueLaw (ite_queueLaw _ pressMusterKey_queueLaw) s⟩
  | keyArmed key => exact ⟨_, rfl, (whenUp_frame (armKey_frame key) s).queueLaw⟩
  | drillDeadline => exact ⟨_, rfl, change_queueLaw_of_frame (ite_frame _ checkPhase_frame) s⟩
  | firePanelChange asserted =>
    refine ⟨_, rfl, change_queueLaw (fun t => ?_) s⟩
    split
    · exact t.keepsQueueLaw_refl
    · exact contactChanges_queueLaw asserted t
  | writeComplete => exact ⟨_, rfl, (whenUp_frame writeEnds_frame s).queueLaw⟩
  | eraseComplete => exact ⟨_, rfl, (whenUp_frame eraseEnds_frame s).queueLaw⟩
  | startBitSeen bit => exact ⟨_, rfl, change_queueLaw (startBit_queueLaw bit) s⟩
  | delimiterRecognised => exact ⟨_, rfl, change_queueLaw delimiter_queueLaw s⟩

theorem tick_frame (s : State) : s.keepsAllBut [.tb, .pending] (tick s) :=
  (passMs_frame s).andThen (setPending_frame _ _)

/-- Settles O6: a step is one millisecond or one command, and each keeps the law of the queue. -/
theorem stepKeepsTransmitQueueBounds : Obligations.StepKeepsTransmitQueueBounds := by
  intro s t hs h
  unfold step at h
  split at h
  · cases h
    exact ((tick_frame s).queueLaw) hs
  · rename_i c rest _
    obtain ⟨u, ran, keeps⟩ := exec_keeps_queue_law c { s with pending := rest }
    rw [ran] at h
    cases h
    exact keeps hs

end Sys2Proof.Machine
end

section
/-! PROOF. What a step ends with (R27, R31, R83, R117): the grants of the arbiter, and the selection of the frame that is
served first. -/

namespace Sys2Proof.Machine

-- one declaration at a time, as in the tests: the threads of a whole text's proofs do not fit the memory limit
set_option Elab.async false

/-! ## Grants -/

/-- A line record as it stood, or granted: the kind and the class stand, and the state, but for a grant. -/
def LineRecord.upToGrant (a b : LineRecord) : Prop :=
  b.kind = a.kind ∧ b.cls = a.cls ∧ (b.state = a.state ∨ a.state = .waiting ∧ b.state = .energized)

/-- What grants do: the zones keep what a bell's start does not mark, the lines what a grant does not change, and the
energized count passes the budget no further than it did. -/
structure State.Grants (s t : State) : Prop where
  trunk : t.za.trunkSelect = s.za.trunkSelect
  zones : ∀ z : ZoneId, ∃ b, t.zone z = { s.zone z with bellStarted := b }
  lines : ∀ l : LineId, (s.line l).upToGrant (t.line l)
  budget : t.dsq.budget = s.dsq.budget
  count : t.energizedCount ≤ max s.energizedCount s.dsq.budget

theorem LineRecord.upToGrant_refl (a : LineRecord) : a.upToGrant a := ⟨rfl, rfl, .inl rfl⟩

theorem State.Grants.refl (s : State) : s.Grants s :=
  ⟨rfl, fun _ => ⟨_, rfl⟩, fun l => (s.line l).upToGrant_refl, rfl, Nat.le_max_left _ _⟩

theorem LineRecord.upToGrant.trans {a b c : LineRecord} (h1 : a.upToGrant b) (h2 : b.upToGrant c) : a.upToGrant c := by
  obtain ⟨kind, cls, state⟩ := h1
  obtain ⟨kind', cls', state'⟩ := h2
  refine ⟨kind'.trans kind, cls'.trans cls, ?_⟩
  rcases state with same | ⟨was, is⟩ <;> rcases state' with same' | ⟨was', is'⟩
  · exact .inl (same'.trans same)
  · exact .inr ⟨same ▸ was', is'⟩
  · exact .inr ⟨was, same'.trans is⟩
  · exact .inr ⟨was, is'⟩

theorem State.Grants.trans {s t u : State} (h1 : s.Grants t) (h2 : t.Grants u) : s.Grants u where
  trunk := h2.trunk.trans h1.trunk
  zones z := by
    obtain ⟨b, hb⟩ := h1.zones z
    obtain ⟨c, hc⟩ := h2.zones z
    exact ⟨c, by rw [hc, hb]⟩
  lines l := (h1.lines l).trans (h2.lines l)
  budget := h2.budget.trans h1.budget
  count := by
    have first := h1.count
    have second := h2.count
    rw [h1.budget] at second
    omega

/-- R84: a line as a grant leaves it, its player aside. -/
theorem reportStarted_line (l : LineId) (q : EnergizeRequest) (s : State) :
    (∀ m, m ≠ l → (reportStarted l q s).line m = s.line m) ∧
    ∃ p, (reportStarted l q s).line l = { s.line l with player := p } := by
  unfold reportStarted
  split
  · exact ⟨fun _ _ => rfl, _, rfl⟩
  · dsimp only
    split
    · refine ⟨fun m h => ?_, { (s.line l).player with state := .on }, ?_⟩ <;> rw [State.line_of_dsq ((bellStarted_frame l _).part .dsq)]
      · exact State.setLine_line_ne _ _ _ _ h
      · exact State.setLine_line_same _ _ _
    · exact ⟨fun m h => State.setLine_line_ne _ _ _ _ h, _, State.setLine_line_same _ _ _⟩

/-- R84: the start of a bell marks its zone and nothing else. -/
theorem bellStarted_za (l : LineId) (s : State) :
    (bellStarted l s).za.trunkSelect = s.za.trunkSelect ∧
    ∀ z : ZoneId, ∃ b, (bellStarted l s).zone z = { s.zone z with bellStarted := b } := by
  unfold bellStarted
  split
  · exact ⟨rfl, fun _ => ⟨_, rfl⟩⟩
  · rename_i y _
    split
    · refine ⟨rfl, fun z => ?_⟩
      by_cases e : z = y
      · subst e
        exact ⟨true, State.setZone_zone_same _ _ _⟩
      · exact ⟨_, State.setZone_zone_ne _ _ _ _ e⟩
    · exact ⟨rfl, fun _ => ⟨_, rfl⟩⟩

theorem reportStarted_za (l : LineId) (q : EnergizeRequest) (s : State) :
    (reportStarted l q s).za.trunkSelect = s.za.trunkSelect ∧
    ∀ z : ZoneId, ∃ b, (reportStarted l q s).zone z = { s.zone z with bellStarted := b } := by
  unfold reportStarted
  split
  · exact ⟨rfl, fun _ => ⟨_, rfl⟩⟩
  · dsimp only
    split
    · exact bellStarted_za l (s.setLine l _)
    · exact ⟨rfl, fun _ => ⟨_, rfl⟩⟩

theorem reportStarted_budget (l : LineId) (q : EnergizeRequest) (s : State) :
    (reportStarted l q s).dsq.budget = s.dsq.budget := by
  unfold reportStarted
  split
  · rfl
  · dsimp only
    split
    · have dsq := (bellStarted_frame l (s.setLine l { s.line l with
        player := { (s.line l).player with state := .on } })).part .dsq
      simp only [State.sameIn] at dsq
      rw [dsq]
      rfl
    · rfl

/-- A property that comes to hold of one item of a list without doubles holds of one more item at most. -/
theorem length_filter_le_succ {α : Type} [DecidableEq α] {list : List α} (nodup : list.Nodup) {p q : α → Bool} (a : α)
    (same : ∀ b, b ≠ a → q b = p b) : (list.filter q).length ≤ (list.filter p).length + 1 := by
  induction list with
  | nil => simp
  | cons b rest ih =>
    obtain ⟨fresh, nodup⟩ := List.nodup_cons.mp nodup
    by_cases e : b = a
    · subst e
      have rest_eq : rest.filter q = rest.filter p :=
        List.filter_congr fun c hc => same c fun k => fresh (k ▸ hc)
      rw [List.filter_cons, List.filter_cons, rest_eq]
      split <;> split <;> simp
      omega
    · rw [List.filter_cons, List.filter_cons, same b e]
      split
      · simpa using ih nodup
      · exact ih nodup

/-- R83: a line that changes raises the energized count by one at most. -/
theorem energizedCount_le_succ {s t : State} (l : LineId) (others : ∀ m, m ≠ l → t.line m = s.line m) :
    t.energizedCount ≤ s.energizedCount + 1 :=
  length_filter_le_succ (List.nodup_finRange 16) l fun m h => by rw [others m h]

/-- R83, R84: the station in which STARTED is reported: the line is on, and the grant is of this moment. -/
def State.switchedOn (s : State) (l : LineId) (q : EnergizeRequest) : State :=
  let s1 := s.setLine l { s.line l with state := .energized, energizeEnd := some (s.now + q.width) }
  { s1 with dsq := { s1.dsq with lastGrant := some s.now } }

theorem grant_of_request {l : LineId} {s : State} {q : EnergizeRequest} (request : (s.line l).request = some q) :
    grant l s = reportStarted l q (s.switchedOn l q) := by
  unfold grant
  rw [request]
  rfl

/-- R83, R84: a grant of a WAITING line with room in the budget. -/
theorem grant_grants {l : LineId} {s : State} (waiting : (s.line l).state = .waiting)
    (room : s.energizedCount < s.dsq.budget) : s.Grants (grant l s) := by
  cases request : (s.line l).request with
  | none => simpa [grant, request] using State.Grants.refl s
  | some q =>
    rw [grant_of_request request]
    have on : (s.switchedOn l q).line l =
        { s.line l with state := .energized, energizeEnd := some (s.now + q.width) } :=
      State.setLine_line_same _ _ _
    obtain ⟨others, p, started⟩ := reportStarted_line l q (s.switchedOn l q)
    have others' (m : LineId) (h : m ≠ l) : (reportStarted l q (s.switchedOn l q)).line m = s.line m :=
      (others m h).trans (State.setLine_line_ne _ _ _ _ h)
    obtain ⟨trunk, zones⟩ := reportStarted_za l q (s.switchedOn l q)
    refine ⟨trunk, zones, fun m => ?_, reportStarted_budget l q _, ?_⟩
    · by_cases e : m = l
      · subst e
        rw [started, on]
        exact ⟨rfl, rfl, .inr ⟨waiting, rfl⟩⟩
      · rw [others' m e]
        exact LineRecord.upToGrant_refl _
    · have once := energizedCount_le_succ l others'
      omega

/-- R82: the lines of the grant list are WAITING. -/
theorem waiting_of_mem_grantList {s : State} {l : LineId} (h : l ∈ s.grantList) : (s.line l).state = .waiting := by
  have waits (c : RequestClass) (k : s.waitsIn c l = true) : (s.line l).state = .waiting := by
    simp only [State.waitsIn, Bool.and_eq_true, beq_iff_eq] at k
    exact k.1
  simp only [State.grantList, List.mem_append, List.mem_filter] at h
  rcases h with (⟨-, k⟩ | ⟨-, k⟩) | ⟨-, k⟩ <;> exact waits _ k

theorem arbitrateUpTo_grants (n : Nat) (s : State) : s.Grants (arbitrateUpTo n s) := by
  induction n generalizing s with
  | zero => exact State.Grants.refl s
  | succ n ih =>
    unfold arbitrateUpTo
    split
    · exact State.Grants.refl s
    · rename_i l rest list
      split
      · rename_i may
        simp only [State.mayGrant, Bool.and_eq_true, decide_eq_true_eq] at may
        exact (grant_grants (waiting_of_mem_grantList (by simp [list])) may.1).trans (ih _)
      · exact State.Grants.refl s

/-- R83: the arbiter's check grants, and does nothing else. -/
theorem arbitrate_grants (s : State) : s.Grants (arbitrate s) := by
  unfold arbitrate
  split
  · exact arbitrateUpTo_grants 16 s
  · exact State.Grants.refl s

/-! ## The frame that is served first -/

/-- R27: `b` is served no later than `a` by its class and its age. -/
def QueuedFrame.follows (a b : QueuedFrame) : Prop :=
  b.frame.classRank < a.frame.classRank ∨ b.frame.classRank = a.frame.classRank ∧ b.age ≤ a.age

theorem QueuedFrame.follows_trans {a b c : QueuedFrame} (h1 : a.follows b) (h2 : b.follows c) : a.follows c := by
  unfold QueuedFrame.follows at *
  omega

theorem QueuedFrame.follows_of_ahead {a b : QueuedFrame} (h : b.ahead a = true) : a.follows b := by
  simp only [QueuedFrame.ahead, Bool.or_eq_true, decide_eq_true_eq, Bool.and_eq_true, beq_iff_eq] at h
  unfold QueuedFrame.follows
  omega

theorem QueuedFrame.follows_of_not_ahead {a b : QueuedFrame} (h : ¬ a.ahead b = true) : a.follows b := by
  simp only [QueuedFrame.ahead, Bool.or_eq_true, decide_eq_true_eq, Bool.and_eq_true, beq_iff_eq, not_or,
    not_and] at h
  unfold QueuedFrame.follows
  omega

/-- R27: one step of the search for the head. -/
def headStep (best : Option (QueuedFrame × Nat)) (x : QueuedFrame × Nat) : Option (QueuedFrame × Nat) :=
  match best with
  | none => some x
  | some y => if x.1.ahead y.1 then some x else best

theorem headIndex_eq (queue : List QueuedFrame) :
    headIndex queue = (queue.zipIdx.foldl headStep none).map Prod.snd := rfl

/-- R27: a queue with a frame has a head, of the highest class present and of the earliest age in it. -/
theorem headIndex_cases (queue : List QueuedFrame) :
    (queue = [] ∧ headIndex queue = none) ∨
    ∃ i h, headIndex queue = some i ∧ queue[i]? = some h ∧ ∀ x ∈ queue, x.follows h := by
  have picked := foldl_pick (f := headStep) (eligible := fun _ => True) (atMost := fun x y => x.1.follows y.1)
    (fun _ _ h => absurd trivial h) (fun _ _ => rfl)
    (fun y x _ => by
      by_cases ahead : x.1.ahead y.1 = true
      · exact .inl ⟨by simp [headStep, ahead], QueuedFrame.follows_of_ahead ahead⟩
      · exact .inr ⟨by simp [headStep, ahead], QueuedFrame.follows_of_not_ahead ahead⟩)
    (fun x => .inr ⟨rfl, Nat.le_refl _⟩) (fun _ _ _ => QueuedFrame.follows_trans) queue.zipIdx
  rw [headIndex_eq]
  rcases picked with ⟨h, none_⟩ | ⟨⟨q, i⟩, hq, h, -, best⟩ <;> rw [h]
  · refine .inl ⟨List.eq_nil_iff_forall_not_mem.mpr fun x hx => ?_, rfl⟩
    obtain ⟨i, hi⟩ := mem_zipIdx_of_mem hx
    exact none_ _ hi trivial
  · refine .inr ⟨i, q, rfl, List.mk_mem_zipIdx_iff_getElem?.mp hq, fun x hx => ?_⟩
    obtain ⟨j, hj⟩ := mem_zipIdx_of_mem hx
    exact best _ hj trivial

/-! ## The selection -/

theorem selectedIndex_eq (queue : List QueuedFrame) :
    selectedIndex queue = (queue.map QueuedFrame.selected).findIdx? id :=
  (List.findIdx?_eq_fst_find?_zipIdx (xs := queue) (p := QueuedFrame.selected)).symm.trans
    (List.findIdx?_map (p := id) (f := QueuedFrame.selected)).symm

/-- R31: with no frame selected, the frame that becomes selected is the one that is. -/
theorem selectedIndex_set {queue : List QueuedFrame} {i : Nat} {q : QueuedFrame} (none_ : selectedIndex queue = none)
    (inside : i < queue.length) (selected : q.selected = true) : selectedIndex (queue.set i q) = some i := by
  rw [selectedIndex_eq, List.findIdx?_eq_none_iff] at none_
  rw [selectedIndex_eq, List.findIdx?_eq_some_iff_getElem]
  refine ⟨by simpa using inside, by simp [selected], fun j before => ?_⟩
  have other : i ≠ j := by omega
  have free := none_ (queue[j].selected) (List.mem_map_of_mem (List.getElem_mem _))
  simpa [other] using free

/-- The selection marks and the asks held of one are those of the other. -/
def State.sameSelection (s t : State) : Prop :=
  t.ylc.queue.map QueuedFrame.selected = s.ylc.queue.map QueuedFrame.selected ∧ t.ylc.heldAsks = s.ylc.heldAsks

theorem State.sameSelection.trans {s t u : State} (h1 : s.sameSelection t) (h2 : t.sameSelection u) :
    s.sameSelection u :=
  ⟨h2.1.trans h1.1, h2.2.trans h1.2⟩

theorem State.sameSelection.index {s t : State} (h : s.sameSelection t) :
    selectedIndex t.ylc.queue = selectedIndex s.ylc.queue := by
  rw [selectedIndex_eq, selectedIndex_eq, h.1]

/-- R44: the mark of an inverted reply is no selection. -/
theorem takeInvert_sameSelection {s : State} {i : Nat} {q : QueuedFrame} (at_ : s.ylc.queue[i]? = some q) :
    s.sameSelection (takeInvert i q s) := by
  obtain ⟨inside, rfl⟩ := List.getElem?_eq_some_iff.mp at_
  rw [takeInvert_eq at_]
  refine ⟨?_, rfl⟩
  show (s.ylc.queue.set i _).map QueuedFrame.selected = _
  rw [List.map_set, ← List.getElem_map QueuedFrame.selected (h := by simpa using inside), List.set_getElem_self]

/-- R32, R33: the attempt of a frame leaves the selection. -/
theorem beginTransmission_sameSelection (s : State) : s.sameSelection (beginTransmission s) := by
  unfold beginTransmission
  split
  · exact ⟨rfl, rfl⟩
  · split
    · exact ⟨rfl, rfl⟩
    · rename_i at_
      exact (takeInvert_sameSelection at_).trans ⟨rfl, rfl⟩

theorem beginAttempt_sameSelection (k : Nat) (s : State) : s.sameSelection (beginAttempt k s) := by
  unfold beginAttempt
  dsimp only
  split
  · exact State.sameSelection.trans (t := s.setYlc _) ⟨rfl, rfl⟩ (beginTransmission_sameSelection _)
  · exact ⟨rfl, rfl⟩

/-- R31: what the selection does: nothing where a frame is selected or the queue is empty; else the head is selected. -/
theorem selectNext_cases (s : State) :
    ((selectedIndex s.ylc.queue).isSome = true ∧ selectNext s = s) ∨
    (s.ylc.queue = [] ∧ selectNext s = s) ∨
    ∃ i h, selectedIndex s.ylc.queue = none ∧ s.ylc.queue[i]? = some h ∧ (∀ x ∈ s.ylc.queue, x.follows h) ∧
      selectNext s = beginAttempt (h.attempts + 1) (s.setQueued i { h with selected := true }) := by
  unfold selectNext
  split
  · rename_i selected
    exact .inl ⟨selected, rfl⟩
  · rename_i unselected
    rcases headIndex_cases s.ylc.queue with ⟨empty, none_⟩ | ⟨i, h, some_, at_, best⟩
    · exact .inr (.inl ⟨empty, by rw [none_]⟩)
    · refine .inr (.inr ⟨i, h, by simpa using unselected, at_, best, ?_⟩)
      rw [some_]
      dsimp only
      rw [at_]

/-- R27, R31: the selection holds no ask, leaves a frame selected where there is one, and selects the head. -/
theorem selectNext_spec (s : State) :
    (selectNext s).ylc.heldAsks = s.ylc.heldAsks ∧
    (s.ylc.queue ≠ [] → (selectedIndex (selectNext s).ylc.queue).isSome = true) ∧
    (selectedIndex s.ylc.queue = none → ∀ i h, selectedIndex (selectNext s).ylc.queue = some i →
      s.ylc.queue[i]? = some h → ∀ x ∈ s.ylc.queue, x.follows h) := by
  rcases selectNext_cases s with ⟨selected, h⟩ | ⟨empty, h⟩ | ⟨i, q, none_, at_, best, h⟩ <;> rw [h]
  · refine ⟨rfl, fun _ => selected, fun none_ => ?_⟩
    simp [none_] at selected
  · refine ⟨rfl, fun some_ => absurd empty some_, fun _ _ _ _ at_ => ?_⟩
    simp [empty] at at_
  · obtain ⟨inside, -⟩ := List.getElem?_eq_some_iff.mp at_
    have began := beginAttempt_sameSelection (q.attempts + 1) (s.setQueued i { q with selected := true })
    have chosen : selectedIndex (beginAttempt (q.attempts + 1) (s.setQueued i { q with selected := true })).ylc.queue =
        some i := began.index.trans (selectedIndex_set none_ inside rfl)
    refine ⟨began.2, fun _ => by rw [chosen]; rfl, fun _ j h' index at' => ?_⟩
    obtain rfl : i = j := by simpa [chosen] using index
    obtain rfl : q = h' := by simpa [at_] using at'
    exact best

/-- Settles O4: TRUNK-SELECT, then grants, then the selection. -/
theorem endOfStepGrantsAndSelects : Obligations.EndOfStepGrantsAndSelects := by
  intro s t
  have granted := arbitrate_grants (syncTrunk s)
  have before : (arbitrate (syncTrunk s)).ylc = s.ylc :=
    ((syncTrunk_frame s).andThen (arbitrate_frame _)).part .ylc
  have selects := selectNext_frame (arbitrate (syncTrunk s))
  have za : t.za = (arbitrate (syncTrunk s)).za := selects.part .za
  have dsq : t.dsq = (arbitrate (syncTrunk s)).dsq := selects.part .dsq
  have count : t.energizedCount = (arbitrate (syncTrunk s)).energizedCount := by
    simp only [State.energizedCount, State.line, dsq]
  obtain ⟨asks, selected, head⟩ := selectNext_spec (arbitrate (syncTrunk s))
  rw [before] at asks selected head
  refine ⟨endOfStep_frame s, by rw [za, granted.trunk]; rfl, (endOfStep_sameFrames s).1, (endOfStep_sameFrames s).2,
    asks, selected, head, fun l => ?_, count ▸ granted.count, fun i => ?_, fun z => ?_⟩
  · rw [State.line_of_dsq (t := t) (selects.part .dsq) l]
    exact granted.lines l
  · obtain ⟨⟨-, -, dial, polarity⟩, state, -⟩ := arbitrate_sameRecord (syncTrunk s) i
    rw [State.slot_of_du (t := t) (selects.part .du) i]
    exact ⟨dial, state, polarity⟩
  · obtain ⟨b, zone⟩ := granted.zones z
    rw [State.zone_of_za (t := t) (selects.part .za) z, zone]
    exact ⟨rfl, rfl, rfl⟩

end Sys2Proof.Machine
end


section
/-! PROOF. The CRC of a frame (R25), the receiver's checks of a frame sent (R38, R44), and a command read back from the
characters of its frame (R24). -/

namespace Sys2Proof.Machine

-- one declaration at a time, as in the tests: the threads of a whole text's proofs do not fit the memory limit
set_option Elab.async false

/-! ## The CRC of a run and its own CRC -/

/-- R25: a register whose upper bit is clear shifts. -/
theorem crc16Bit_of_clear {reg : Half} (clear : reg.msb = false) : crc16Bit reg = reg <<< 1 := by
  simp [crc16Bit, clear]

/-- R25: a byte equal to the register's upper byte clears it, and the lower byte then shifts up with no feedback. -/
theorem crc16Byte_of_upper (low : Byte) (reg : Half) (b : Byte)
    (h : reg ^^^ (b.zeroExtend 16 <<< 8) = low.zeroExtend 16) :
    crc16Byte reg b = low.zeroExtend 16 <<< 8 := by
  have clear (k : Nat) (hk : k < 8) : (low.zeroExtend 16 <<< k).msb = false := by
    simp only [BitVec.msb_eq_getLsbD_last, BitVec.getLsbD_shiftLeft, BitVec.zeroExtend_eq_setWidth,
      BitVec.getLsbD_setWidth]
    rw [BitVec.getLsbD_of_ge low _ (by omega)]
    simp
  have bit (k : Nat) (hk : k < 8) : crc16Bit (low.zeroExtend 16 <<< k) = low.zeroExtend 16 <<< (k + 1) := by
    rw [crc16Bit_of_clear (clear k hk), BitVec.shiftLeft_add]
  unfold crc16Byte
  simp only [h]
  rw [← BitVec.shiftLeft_zero (low.zeroExtend 16), bit 0, bit 1, bit 2, bit 3, bit 4, bit 5, bit 6, bit 7]
    <;> simp

/-- R25: the two bytes of the register take it to 0. -/
theorem foldl_crc16Byte_halfBytes (reg : Half) : (halfBytes reg).foldl crc16Byte reg = 0#16 := by
  have upper : reg ^^^ ((reg.extractLsb' 8 8).zeroExtend 16 <<< 8) = (reg.extractLsb' 0 8).zeroExtend 16 := by
    refine BitVec.eq_of_getLsbD_eq fun i hi => ?_
    by_cases h : i < 8
    · simp [h, hi]
    · have whole : 8 + (i - 8) = i := by omega
      have low : i - 8 < 8 := by omega
      simp [h, whole, low, hi]
  have lower : ((reg.extractLsb' 0 8).zeroExtend 16 <<< 8) ^^^ ((reg.extractLsb' 0 8).zeroExtend 16 <<< 8) =
      (0#8).zeroExtend 16 := by simp
  simp only [halfBytes, List.foldl_cons, List.foldl_nil]
  rw [crc16Byte_of_upper _ _ _ upper, crc16Byte_of_upper _ _ _ lower]
  rfl

/-- R25: the CRC over a run and its own CRC bytes is 0. -/
theorem crc16_append_own (bs : List Byte) : crc16 (bs ++ halfBytes (crc16 bs)) = 0#16 := by
  rw [crc16, List.foldl_append]
  exact foldl_crc16Byte_halfBytes (crc16 bs)

/-! ## The receiver's checks -/

/-- A two-byte field is read back. -/
theorem extract_append_half (h : Half) : h.extractLsb' 8 8 ++ h.extractLsb' 0 8 = h := by
  rw [BitVec.extractLsb'_append_extractLsb'_eq_extractLsb' (by rfl)]
  exact BitVec.extractLsb'_eq_self

/-- A four-byte field is read back. -/
theorem extract_append_quad (q : Quad) :
    q.extractLsb' 24 8 ++ q.extractLsb' 16 8 ++ q.extractLsb' 8 8 ++ q.extractLsb' 0 8 = q := by
  rw [BitVec.extractLsb'_append_extractLsb'_eq_extractLsb' (by rfl),
    BitVec.extractLsb'_append_extractLsb'_eq_extractLsb' (by rfl),
    BitVec.extractLsb'_append_extractLsb'_eq_extractLsb' (by rfl)]
  exact BitVec.extractLsb'_eq_self

/-- The characters after the delimiter are the checked part and a CRC. -/
theorem drop_frameChars (kind sender : Byte) (body : List Byte) (inverted : Bool) :
    (frameChars kind sender body inverted).drop 3 = checkedPart kind sender body ++
      halfBytes (if inverted then ~~~ crc16 (checkedPart kind sender body) else crc16 (checkedPart kind sender body)) :=
  rfl

theorem length_checkedPart_append (kind sender : Byte) (body : List Byte) (crc : Half) :
    (checkedPart kind sender body ++ halfBytes crc).length = body.length + 5 := by
  rw [List.length_append]
  rfl

theorem take_checkedPart_append (kind sender : Byte) (body : List Byte) (crc : Half) :
    (checkedPart kind sender body ++ halfBytes crc).take (body.length + 3) = checkedPart kind sender body :=
  List.take_left' rfl

theorem halfAt_checkedPart_append (kind sender : Byte) (body : List Byte) (crc : Half) :
    halfAt (checkedPart kind sender body ++ halfBytes crc) (body.length + 3) = crc := by
  simp [halfAt, byteAt, checkedPart, halfBytes, extract_append_half]

/-- R38: what a receiver makes of a frame whose length byte is right. -/
theorem frameVerdict_checkedPart (own : Option Station) (kind sender : Byte) (body : List Byte) (crc : Half)
    (short : body.length ≤ 64) :
    frameVerdict own (checkedPart kind sender body ++ halfBytes crc) =
      if crc != crc16 (checkedPart kind sender body) then .crcError
      else if !kindKnown kind then .unknownKind
      else if !lengthAgrees kind body then .crcError
      else if own.isSome && stationOfByte sender == own then .clash
      else .good := by
  have lengthByte : (byteAt (checkedPart kind sender body ++ halfBytes crc) 2).toNat = body.length := by
    change (BitVec.ofNat 8 body.length).toNat = body.length
    rw [BitVec.toNat_ofNat]
    omega
  have fits : (decide (body.length + 5 < 5) || decide (69 < body.length + 5) || (body.length + 5 != body.length + 5)) =
      false := by
    simp
    omega
  simp only [frameVerdict, length_checkedPart_append, Nat.reduceSubDiff, take_checkedPart_append,
    halfAt_checkedPart_append, lengthByte, fits]
  rfl

/-- Settles O13: the register holding the CRC is taken to 0 by its own two bytes, and the receiver's CRC of the checked
part differs from its complement. -/
theorem invertedFrameFailsTheCrc : Obligations.InvertedFrameFailsTheCrc := by
  refine ⟨crc16_append_own, fun own kind sender body short => ⟨?_, fun known agrees other => ?_⟩⟩
  · have differs : ~~~ crc16 (checkedPart kind sender body) ≠ crc16 (checkedPart kind sender body) := by
      intro same
      have bit := congrArg (BitVec.getLsbD · 0) same
      simp at bit
    rw [drop_frameChars, frameVerdict_checkedPart _ _ _ _ _ short]
    simp [differs]
  · have noClash : (own.isSome && stationOfByte sender == own) = false := by
      cases own with
      | none => rfl
      | some n => simpa using other n rfl
    rw [drop_frameChars, frameVerdict_checkedPart _ _ _ _ _ short]
    simp [known, agrees, noClash]

/-! ## Reading back -/

/-- A target list is read back from its pairs of bytes. -/
theorem pairsOf_flatMap (targets : List (Byte × ZoneMask)) :
    pairsOf (targets.flatMap fun t => [t.1, t.2]) = targets := by
  induction targets with
  | nil => rfl
  | cons t rest ih => simp [pairsOf, ih]

theorem beaconOfBytes_beaconBytes (b : BeaconBody) : beaconOfBytes (beaconBytes b) = b := by
  simp [beaconOfBytes, beaconBytes, halfAt, quadAt, byteAt, halfBytes, quadBytes, extract_append_half,
    extract_append_quad]

theorem claimOfBytes_claimBytes (b : ClaimBody) : claimOfBytes (claimBytes b) = b := by
  simp [claimOfBytes, claimBytes, halfAt, byteAt, halfBytes, extract_append_half, pairsOf_flatMap]

theorem drillStartOfBytes_drillStartBytes (b : DrillStartBody) : drillStartOfBytes (drillStartBytes b) = b := by
  simp [drillStartOfBytes, drillStartBytes, halfAt, quadAt, byteAt, halfBytes, quadBytes, extract_append_half,
    extract_append_quad]

/-- R38: a well-formed command that is a frame has a kind of the formats and a length the kind admits. -/
theorem kind_and_length_of_bodyOfCommand {c : Instr} {kind sender : Byte} {body : List Byte} (wf : c.wf = true)
    (h : bodyOfCommand c = some (kind, sender, body)) :
    kindKnown kind = true ∧ lengthAgrees kind body = true ∧ body.length ≤ 64 := by
  cases c with
  | beacon => exact Laws.BodyLength.beacon _ _ wf _ _ _ h
  | dayplan => exact Laws.BodyLength.dayplan _ _ _ wf _ _ _ h
  | removeOverride => exact Laws.BodyLength.removeOverride _ _ wf _ _ _ h
  | shift => exact Laws.BodyLength.shift _ _ _ _ _ _ wf _ _ _ h
  | cancel => exact Laws.BodyLength.cancel _ _ _ _ wf _ _ _ h
  | clearAll => exact Laws.BodyLength.clearAll _ _ wf _ _ _ h
  | claim => exact Laws.BodyLength.claim _ _ wf _ _ _ h
  | object => exact Laws.BodyLength.object _ _ _ _ wf _ _ _ h
  | ready => exact Laws.BodyLength.ready _ _ _ _ _ wf _ _ _ h
  | release => exact Laws.BodyLength.release _ _ _ wf _ _ _ h
  | drillStart => exact Laws.BodyLength.drillStart _ _ wf _ _ _ h
  | silence => exact Laws.BodyLength.silence _ _ _ wf _ _ _ h
  | muster => exact Laws.BodyLength.muster _ _ _ _ wf _ _ _ h
  | drillEnd => exact Laws.BodyLength.drillEnd _ _ _ _ wf _ _ _ h
  | yield => exact Laws.BodyLength.yield _ _ wf _ _ _ h
  | dialSet => exact Laws.BodyLength.dialSet _ _ _ _ wf _ _ _ h
  | statusAsk => exact Laws.BodyLength.statusAsk _ _ _ wf _ _ _ h
  | statusReply => exact Laws.BodyLength.statusReply _ _ _ _ wf _ _ _ h
  | invertNextReply => exact Laws.BodyLength.invertNextReply _ _ _ _ wf _ _ _ h
  | lockSupervision => exact Laws.BodyLength.lockSupervision _ _ _ wf _ _ _ h
  | unlock => exact Laws.BodyLength.unlock _ _ _ wf _ _ _ h
  | _ => cases h

/-- R24: every field of a command is read back from its body. -/
theorem commandOfBody_of_bodyOfCommand {c : Instr} {kind sender : Byte} {body : List Byte} (wf : c.wf = true)
    (h : bodyOfCommand c = some (kind, sender, body)) : commandOfBody kind sender body = some c := by
  cases c with
  | beacon _ b =>
    cases h
    exact congrArg (some <| Instr.beacon sender ·) (beaconOfBytes_beaconBytes b)
  | claim _ b =>
    cases h
    exact congrArg (some <| Instr.claim sender ·) (claimOfBytes_claimBytes b)
  | drillStart _ b =>
    cases h
    exact congrArg (some <| Instr.drillStart sender ·) (drillStartOfBytes_drillStartBytes b)
  | dayplan _ day code =>
    cases h
    have code : code ≠ 14#8 := by simpa [Instr.wf] using wf
    simp [commandOfBody, byteAt, halfAt, halfBytes, extract_append_half, code]
  | removeOverride _ day =>
    cases h
    simp [commandOfBody, byteAt, halfAt, halfBytes, extract_append_half]
  | shift _ day kind first last delta =>
    cases h
    obtain ⟨notCancel, notClear⟩ : kind ≠ 2#8 ∧ kind ≠ 3#8 := by simpa [Instr.wf] using wf
    simp [commandOfBody, byteAt, halfAt, halfBytes, extract_append_half, notCancel, notClear]
  | cancel _ day first last =>
    cases h
    simp [commandOfBody, byteAt, halfAt, halfBytes, extract_append_half]
  | clearAll _ day =>
    cases h
    simp [commandOfBody, byteAt, halfAt, halfBytes, extract_append_half]
  | muster _ initiator number elapsed =>
    cases h
    simp [commandOfBody, byteAt, halfAt, halfBytes, extract_append_half]
  | dialSet _ target line position =>
    cases h
    simp [commandOfBody, byteAt, halfAt, halfBytes, extract_append_half]
  | invertNextReply _ target action line =>
    cases h
    obtain ⟨notLock, notUnlock⟩ : action ≠ 2#8 ∧ action ≠ 3#8 := by simpa [Instr.wf] using wf
    simp [commandOfBody, byteAt, notLock, notUnlock]
  | object | ready | release | silence | drillEnd | yield | statusAsk | statusReply | lockSupervision | unlock =>
    cases h
    rfl
  | _ => cases h

/-- Settles O12: the receiver finds the frame good, and each field stands in the body where it is read. -/
theorem frameOfCommandReadsBack : Obligations.FrameOfCommandReadsBack := by
  intro c frame wf h
  obtain ⟨⟨kind, sender, body⟩, isBody, rfl⟩ := Option.map_eq_some_iff.mp h
  obtain ⟨known, agrees, short⟩ := kind_and_length_of_bodyOfCommand wf isBody
  have good : frameVerdict none (checkedPart kind sender body ++ halfBytes (crc16 (checkedPart kind sender body))) =
      .good := by
    simp [frameVerdict_checkedPart _ _ _ _ _ short, known, agrees]
  simp only [commandOfFrame, good, length_checkedPart_append, Nat.reduceSubDiff, take_checkedPart_append]
  exact commandOfBody_of_bodyOfCommand wf isBody

end Sys2Proof.Machine
end

section
/-! PROOF. A good frame that reaches no block (R37 to R40, R48): read back, of the own number, of no station, or in a
state that delivers nothing. -/

namespace Sys2Proof.Machine

-- one declaration at a time, as in the tests: the threads of a whole text's proofs do not fit the memory limit
set_option Elab.async false

/-- A command that is a good frame is the acceptance of the frame, delivered in the manner of its kind. -/
theorem exec_eq_heard {c : Instr} {kind sender : Byte} {body : List Byte}
    (h : bodyOfCommand c = some (kind, sender, body)) (s : State) :
    ∃ deliver, exec c s = heard sender deliver s := by
  cases c with
  | beacon | dayplan | removeOverride | shift | cancel | clearAll | claim | object | ready | release | drillStart
  | silence | muster | drillEnd | yield | dialSet | statusAsk | statusReply | invertNextReply | lockSupervision
  | unlock =>
    cases h
    exact ⟨_, rfl⟩
  | _ => cases h

section

variable {sender : Byte} {s : State} (deliver : Station → ReceiveStamp → State → State)

/-- R37: a frame read back while the station transmits. -/
theorem accept_of_transmitting (sending : s.transmitting = true) :
    accept sender deliver s = s.setYlc s.ylc.hunt :=
  if_pos sending

/-- R39: a frame with the own number as sender. -/
theorem accept_of_own {n : Station} (silent : s.transmitting = false) (own : s.own = some n)
    (named : stationOfByte sender = some n) : accept sender deliver s = s.setYlc s.ylc.hunt.noteClash := by
  have clash : ((some n).isSome && some n == some n) = true := by simp
  simp only [accept, silent, own, named, clash]
  rfl

/-- R38, R40: a foreign frame whose sender is no station, or in a state that delivers nothing. -/
theorem accept_of_undelivered (silent : s.transmitting = false)
    (undelivered : stationOfByte sender = none ∨ s.delivers = false)
    (foreign : ∀ n, s.own = some n → stationOfByte sender ≠ some n) :
    accept sender deliver s = s.setYlc s.ylc.hunt.countGood := by
  have noClash : (s.own.isSome && stationOfByte sender == s.own) = false := by
    cases own : s.own with
    | none => rfl
    | some n => simpa using foreign n own
  simp only [accept, silent, noClash]
  cases named : stationOfByte sender with
  | none => rfl
  | some n =>
    have deaf : ((s.setYlc s.ylc.hunt).setYlc (s.setYlc s.ylc.hunt).ylc.countGood).delivers = false :=
      undelivered.resolve_left (by simp [named])
    simp only [deaf]
    rfl

end

/-- Settles O31: each of the three is the acceptance cut short, which leaves the zones as they were. -/
theorem framesThatReachNoBlock : Obligations.FramesThatReachNoBlock := by
  intro c kind sender body s isFrame up
  obtain ⟨deliver, isHeard⟩ := exec_eq_heard isFrame s
  rw [isHeard]
  exact ⟨fun sending => change_eq_endOfStep up (accept_of_transmitting deliver sending) rfl,
    fun n silent own named => change_eq_endOfStep up (accept_of_own deliver silent own named) rfl,
    fun silent undelivered foreign =>
      change_eq_endOfStep up (accept_of_undelivered deliver silent undelivered foreign) rfl⟩

end Sys2Proof.Machine
end

section
/-! PROOF. The frames that ask and test (R40, R41, R43, R44, R95): what each does at its target, and that it does
nothing at another station. -/

namespace Sys2Proof.Machine

-- one declaration at a time, as in the tests: the threads of a whole text's proofs do not fit the memory limit
set_option Elab.async false

section

variable {sender target : Byte} {n : Station} {s : State}

/-- A good frame of a peer whose effect is known and leaves the zones ends with `endOfStep`. -/
theorem heard_eq_endOfStep {deliver : Station → ReceiveStamp → State → State} {t : State} (h : s.hears sender n)
    (effect : deliver n s.receiveStamp (s.heardFrom n) = t) (zones : t.za = s.za) :
    heard sender deliver s = .next (endOfStep t) := by
  rw [heard_of_za h deliver (by rw [effect, zones]), effect]

/-- R40: a frame whose target field is this station's. -/
theorem ifTargeted_of_own {f : State → State} (own : targetsOwn s.own target = true) :
    ifTargeted target f (s.heardFrom n) = f (s.heardFrom n) :=
  if_pos own

/-- R40: a frame whose target field is another station's. -/
theorem ifTargeted_of_foreign {f : State → State} (foreign : targetsOwn s.own target = false) :
    ifTargeted target f (s.heardFrom n) = s.heardFrom n :=
  if_neg (Bool.eq_false_iff.mp foreign)

/-- R40: a frame that is taken in LISTENING and RUNNING alone. -/
theorem ifTaking_of_taking {f : State → State} (taking : s.taking = true) :
    ifTaking f (s.heardFrom n) = f (s.heardFrom n) :=
  if_pos taking

/-- R26, R41: a STATUS-REPLY is taken into the queue exactly where an ask is answered. -/
theorem takesFrame_statusReply (s : State) (n : Station) (page : Byte) :
    s.takesFrame (.statusReply n page) = s.answersAsks := by
  simp [State.takesFrame, State.answersAsks]

/-- R95: the position of a line is the first of the scan order that names it. -/
theorem positionOf_eq_some {d : Sequencer} {l : LineId} {p : Fin 16} (here : d.scanOrder[p] = l)
    (first : ∀ p' : Fin 16, p' < p → d.scanOrder[p'] ≠ l) : d.positionOf l = some p := by
  refine List.find?_eq_some_iff_getElem.mpr ⟨by simpa using here, p.val, by simp, by simp, fun j before => ?_⟩
  simpa using first ⟨j, by omega⟩ before

theorem execStatusAsk_of_own {page : Byte} (h : s.hears sender n) (own : targetsOwn s.own target = true)
    (answers : s.answersAsks = true) (room : s.ylc.queue.length < 8)
    (absent : ∀ q ∈ s.ylc.queue, q.frame ≠ .statusReply n page) :
    exec (.statusAsk sender target page) s =
      .next (endOfStep (joinQueue (.statusReply n page) (s.heardFrom n))) := by
  refine heard_eq_endOfStep h ((ifTargeted_of_own own).trans ?_) rfl
  have takes : (s.heardFrom n).takesFrame (.statusReply n page) = true :=
    (takesFrame_statusReply (s.heardFrom n) n page).trans answers
  rw [State.heardFrom_answersAsks, if_pos answers, requestReply_of_none (s := s.heardFrom n) (find?_of_absent absent),
    enqueue_of_room takes room]

theorem execInvertNextReply_of_own {line : Byte} (h : s.hears sender n) (own : targetsOwn s.own target = true) :
    exec (.invertNextReply sender target 1#8 line) s =
      .next (endOfStep ((s.heardFrom n).setYlc { (s.heardFrom n).ylc with invertNext := true })) :=
  heard_eq_endOfStep h (ifTargeted_of_own own) rfl

theorem execLockSupervision_of_own {line : Byte} {l : LineId} (h : s.hears sender n)
    (own : targetsOwn s.own target = true) (taking : s.taking = true) (named : lineOfCode line.toNat = some l) :
    exec (.lockSupervision sender target line) s = .next (endOfStep (lockLine l (s.heardFrom n))) := by
  refine heard_eq_endOfStep h (((ifTargeted_of_own own).trans (ifTaking_of_taking taking)).trans ?_) rfl
  rw [named]

theorem execUnlock_of_own {line : Byte} (h : s.hears sender n) (own : targetsOwn s.own target = true)
    (taking : s.taking = true) :
    exec (.unlock sender target line) s = .next (endOfStep (unlockLine (s.heardFrom n))) :=
  heard_eq_endOfStep h ((ifTargeted_of_own own).trans (ifTaking_of_taking taking)) (unlockLine_frame _ .za (by simp))

end

end Sys2Proof.Machine
end

section
/-! PROOF. The status pages (R41, R42, R76, R98, R138, R180), field by field in the layouts of the formats section, and
the asks and tests settled. -/

namespace Sys2Proof.Machine

-- one declaration at a time, as in the tests: the threads of a whole text's proofs do not fit the memory limit
set_option Elab.async false

/-! ## Fields -/

/-- A byte of a number is the same byte of the number cut to a field that holds it. -/
theorem ofNat_div_two_pow (n : Nat) {w k : Nat} (hk : k + 8 ≤ w) :
    BitVec.ofNat 8 (n / 2 ^ k) = (BitVec.ofNat w n).extractLsb' k 8 := by
  refine BitVec.eq_of_getLsbD_eq fun i hi => ?_
  have within : k + i < w := by omega
  simp only [BitVec.getLsbD_extractLsb', BitVec.getLsbD_ofNat, Nat.testBit_div_two_pow, hi, within]
  simp [Nat.add_comm]

theorem bytes16_eq (n : Nat) : bytes16 n = halfBytes (BitVec.ofNat 16 n) := by
  rw [halfBytes, ← ofNat_div_two_pow n (by omega), ← ofNat_div_two_pow n (by omega), Nat.pow_zero, Nat.div_one]
  rfl

theorem bytes32_eq (n : Nat) : bytes32 n = quadBytes (BitVec.ofNat 32 n) := by
  rw [quadBytes, ← ofNat_div_two_pow n (by omega), ← ofNat_div_two_pow n (by omega),
    ← ofNat_div_two_pow n (by omega), ← ofNat_div_two_pow n (by omega), Nat.pow_zero, Nat.div_one]
  rfl

/-- A bit of the mask of the lines that a test holds of. -/
theorem foldl_lineBit_getLsbD (p : LineId → Bool) (lines : List LineId) (mask : LineMask) (l : LineId) :
    (lines.foldl (fun mask l => if p l then mask ||| lineBit l else mask) mask).getLsbD l.val =
      (mask.getLsbD l.val || (lines.contains l && p l)) := by
  have bit (k : LineId) : (lineBit k).getLsbD l.val = decide (l = k) := by
    revert k l
    decide
  have step (mask : LineMask) (k : LineId) :
      (if p k then mask ||| lineBit k else mask).getLsbD l.val = (mask.getLsbD l.val || (decide (l = k) && p l)) := by
    have added : (mask ||| lineBit k).getLsbD l.val = (mask.getLsbD l.val || decide (l = k)) := by
      rw [BitVec.getLsbD_or, bit]
    by_cases same : l = k
    · subst same
      cases p l
      · simp
      · exact added.trans (by simp)
    · cases p k
      · simp [same]
      · exact added.trans (by simp [same])
  induction lines generalizing mask with
  | nil => simp
  | cons k rest ih =>
    rw [List.foldl_cons, ih, step, Bool.or_assoc, ← Bool.and_or_distrib_right, List.contains_cons]
    rfl

/-- R42, R98: the line fault mask names the lines that are OPEN or SHORT. -/
theorem faultMask_getLsbD (s : State) (l : LineId) :
    s.faultMask.getLsbD l.val = true ↔ (s.line l).cls = .opened ∨ (s.line l).cls = .shorted := by
  rw [State.faultMask, linesWith, foldl_lineBit_getLsbD]
  cases (s.line l).cls <;> simp [LineClass.faulted, allLines]

/-! ## The codes of the formats section -/

theorem standingCode_byte (x : Standing) : BitVec.ofNat 8 (standingCode x) =
    match x with
    | .unset => 0#8
    | .free => 1#8
    | .agreed => 2#8
    | .reference => 3#8 := by
  cases x <;> rfl

theorem causeCode_byte (x : ResetCause) : BitVec.ofNat 8 (causeCode x) =
    match x with
    | .powerOn => 0#8
    | .resetInput => 1#8
    | .powerDip => 2#8 := by
  cases x <;> rfl

theorem configCode_byte (x : ConfigState) : BitVec.ofNat 8 (configCode x) =
    match x with
    | .loading => 0#8
    | .listening => 1#8
    | .running => 2#8
    | .configFault => 3#8 := by
  cases x <;> rfl

theorem phaseCode_byte (x : DrillPhase) : BitVec.ofNat 8 (phaseCode x) =
    match x with
    | .sounding => 1#8
    | .evacuating => 2#8
    | .overdue => 3#8
    | .mustered => 4#8
    | .ended => 5#8 := by
  cases x <;> rfl

theorem endReason_byte (x : Option EndReason) : (x.map endReasonByte).getD 0 =
    match x with
    | none => 0#8
    | some .manual => 1#8
    | some .yield => 2#8 := by
  cases x with
  | none => rfl
  | some reason => cases reason <;> rfl

theorem lineKindCode_byte (x : LineKind) : BitVec.ofNat 8 (lineKindCode x) =
    match x with
    | .unused => 0#8
    | .bell => 1#8
    | .sounder => 2#8
    | .clock => 3#8
    | .page => 4#8
    | .chime => 5#8 := by
  cases x <;> rfl

/-! ## Entries -/

/-- R76: the entry of a bound slot. -/
theorem DialSlot.pageBytes_of_bound {d : DialSlot} (bound : d.line.isSome = true) :
    d.pageBytes = [BitVec.ofNat 8 ((d.line.map Fin.val).getD 0 + 1), if d.modulus = 1440 then 1#8 else 0#8] ++
      halfBytes (BitVec.ofNat 16 (d.dial.getD 65535)) ++
      [BitVec.ofNat 8 (dialStateCode d.state * 16 + if d.polarity = .neg then 1 else 0)] := by
  obtain ⟨l, line⟩ := Option.isSome_iff_exists.mp bound
  rw [DialSlot.pageBytes, line, bytes16_eq]
  cases d.polarity <;> rfl

/-- R180: the muster elapsed of a station. -/
theorem DrillRecord.musterBytes_eq (r : DrillRecord) :
    r.musterBytes = fun n => halfBytes (BitVec.ofNat 16 (r.muster[n].getD 65535)) :=
  funext fun _ => bytes16_eq _

/-- R138: the plan day's fields, with no plan day 15, the weekday map and 65535. -/
theorem BellScheduler.planBytes_append (b : BellScheduler) :
    b.planBytes ++ bytes16 (b.planDay.getD 65535) =
      match b.planDay, b.activePlan with
      | some day, some c =>
        [BitVec.ofNat 8 (planCodeNat c), if b.source = .override then 1#8 else 0#8] ++ halfBytes (BitVec.ofNat 16 day)
      | some day, none => [15#8, if b.source = .override then 1#8 else 0#8] ++ halfBytes (BitVec.ofNat 16 day)
      | none, _ => [15#8, 0#8, 0xFF#8, 0xFF#8] := by
  rw [BellScheduler.planBytes, bytes16_eq]
  cases b.planDay with
  | none => rfl
  | some day => cases b.activePlan <;> rfl

/-- R98: the lines of page 5 in their order. -/
theorem toList_flatMap_lines (s : State) (f : LineRecord → List Byte) :
    s.dsq.lines.toList.flatMap f = (List.finRange 16).flatMap fun l => f (s.line l) := by
  conv_lhs => rw [← Vector.ofFn_getElem (xs := s.dsq.lines), Vector.toList_ofFn, List.ofFn_eq_map, List.flatMap_map]
  rfl

/-! ## The page a field names -/

theorem pageContent_general (s : State) : s.pageContent 0x01#8 = s.generalPage := rfl

section

variable {s : State} (loaded : s.sp.config ≠ .configFault)
include loaded

theorem pageContent_clocks : s.pageContent 0x02#8 = s.clocksPage := by simp [State.pageContent, loaded]

theorem pageContent_drill : s.pageContent 0x03#8 = s.drillPage := by simp [State.pageContent, loaded]

theorem pageContent_drill1 : s.pageContent 0x13#8 = s.drillPage1 := by simp [State.pageContent, loaded]

theorem pageContent_plan : s.pageContent 0x04#8 = s.planPage := by simp [State.pageContent, loaded]

theorem pageContent_shift : s.pageContent 0x14#8 = s.shiftPage := by simp [State.pageContent, loaded]

theorem pageContent_lines : s.pageContent 0x05#8 = s.linesPage := by simp [State.pageContent, loaded]

end

/-- R41, R42: a field that names no page, and in CONFIG-FAULT any but GENERAL, has no content. -/
theorem pageContent_of_none {s : State} {page : Byte} (notGeneral : page ≠ 0x01#8)
    (nothing : s.sp.config = .configFault ∨
      (∀ known ∈ [0x02#8, 0x03#8, 0x13#8, 0x04#8, 0x14#8, 0x05#8], page ≠ known)) : s.pageContent page = [] := by
  obtain fault | unknown := nothing
  · simp [State.pageContent, notGeneral, fault]
  · obtain ⟨notClocks, notDrill, notDrill1, notPlan, notShift, notLines⟩ : page ≠ 0x02#8 ∧ page ≠ 0x03#8 ∧
        page ≠ 0x13#8 ∧ page ≠ 0x04#8 ∧ page ≠ 0x14#8 ∧ page ≠ 0x05#8 := by
      simpa using unknown
    simp [State.pageContent, notGeneral, notClocks, notDrill, notDrill1, notPlan, notShift, notLines]

/-! ## The settled statement -/

/-- Settles O32: each ask and test by the rule of its target field, and each page of a STATUS-REPLY by the codes and the
entries it is made of. -/
theorem asksAndTestsOfThisStation : Obligations.AsksAndTestsOfThisStation := by
  refine ⟨fun sender target page line content n s h =>
      ⟨?_, fun own => ⟨?_, ?_, ?_, ?_⟩, fun foreign => ⟨?_, ?_, ?_, ?_⟩⟩,
    fun asker page s => ⟨s.pageContent page, rfl, ?_, ?_, ?_, ?_, ?_, ?_, ?_, ?_, pageContent_of_none⟩⟩
  · exact heard_eq_endOfStep h rfl rfl
  · exact execStatusAsk_of_own h own
  · exact execInvertNextReply_of_own h own
  · exact fun l taking named => execLockSupervision_of_own h own taking named
  · intro l p taking locked here first
    rw [execUnlock_of_own h own taking]
    simp [unlockLine, locked, positionOf_eq_some here first]
  · exact heard_eq_endOfStep h (ifTargeted_of_foreign foreign) rfl
  · exact heard_eq_endOfStep h (ifTargeted_of_foreign foreign) rfl
  · exact heard_eq_endOfStep h (ifTargeted_of_foreign foreign) rfl
  · exact heard_eq_endOfStep h (ifTargeted_of_foreign foreign) rfl
  · rintro rfl
    refine ⟨s.faultMask, faultMask_getLsbD s, ?_⟩
    rw [pageContent_general]
    simp only [State.generalPage, bytes16_eq, standingCode_byte, causeCode_byte, configCode_byte, beq_iff_eq,
      BitVec.ofNat_toNat, BitVec.setWidth_eq]
    rfl
  · rintro rfl loaded
    rw [pageContent_clocks loaded]
    exact congrArg (_ :: ·) (List.flatMap_congr fun d bound =>
      DialSlot.pageBytes_of_bound (List.mem_filter.mp bound).2)
  · rintro rfl loaded absent
    rw [pageContent_drill loaded, State.drillPage, absent]
    rfl
  · rintro rfl loaded absent
    rw [pageContent_drill1 loaded, State.drillPage1, absent]
  · intro r present loaded
    constructor
    · rintro rfl
      rw [pageContent_drill loaded, State.drillPage, present]
      simp only [bytes16_eq, bytes32_eq, phaseCode_byte, endReason_byte, DrillRecord.musterBytes_eq,
        BitVec.ofNat_toNat, BitVec.setWidth_eq]
      rfl
    · rintro rfl
      rw [pageContent_drill1 loaded, State.drillPage1, present]
      simp only [DrillRecord.musterBytes_eq]
      rfl
  · rintro rfl loaded
    rw [pageContent_plan loaded, State.planPage, BellScheduler.planBytes_append]
    simp only [bytes16_eq] <;> rfl
  · rintro rfl loaded
    rw [pageContent_shift loaded]
    rfl
  · rintro rfl loaded
    rw [pageContent_lines loaded, State.linesPage, toList_flatMap_lines]
    simp only [LineRecord.pageBytes, lineKindCode_byte]
    cases s.dsq.locked <;> rfl

end Sys2Proof.Machine
end

section
/-! PROOF. A peer lost and a peer's YIELD (R50 to R52, R55, R181): the entry, the floor of the view, and the peer cause with
the yielding state. -/

namespace Sys2Proof.Machine

-- one declaration at a time, as in the tests: the threads of a whole text's proofs do not fit the memory limit
set_option Elab.async false

/-! ## A frame delivered -/

/-- What a step ends with depends on its effect alone. -/
theorem asOneChange_eq {f : State → State} {s t : State} (effect : f s = t) :
    asOneChange f s = asOneChange (fun _ => t) s := by
  rw [asOneChange, effect, asOneChange]

/-- R37 to R40, R48: the step of a good frame of a peer is one change, from what its acceptance leaves. -/
theorem heard_eq_next {sender : Byte} {n : Station} {s : State} (h : s.hears sender n)
    (deliver : Station → ReceiveStamp → State → State) :
    heard sender deliver s = .next (asOneChange (fun _ => deliver n s.receiveStamp (s.heardFrom n)) s) := by
  rw [heard, change_of_up h.1, asOneChange_eq (accept_hears h deliver)]

/-- R37, R48: the acceptance of a frame writes the Yard Line Controller and the Peer Table. -/
theorem State.heardFrom_frame (s : State) (n : Station) : s.keepsAllBut [.ylc, .pt] (s.heardFrom n) := by
  intro p out
  cases p with
  | ylc => exact absurd out (by decide)
  | pt => exact absurd out (by decide)
  | _ => rfl

/-- A station whose config state and supply state stand is in LISTENING or RUNNING, or not, as it was. -/
theorem State.taking_of_frame {parts : List Part} {s t : State} (frame : s.keepsAllBut parts t)
    (sp : Part.sp ∉ parts := by decide) (ds : Part.ds ∉ parts := by decide) : t.taking = s.taking := by
  have sp' : t.sp = s.sp := frame .sp sp
  have ds' : t.ds = s.ds := frame .ds ds
  rw [State.taking, State.listening, State.running, sp', ds']
  rfl

/-! ## A peer lost -/

/-- R51: the loss of a peer writes its entry alone in the Peer Table. -/
theorem peerLost_pt (n : Station) (s : State) : (peerLost n s).pt = s.pt.set n (s.peer n).lost := by
  have told := (floorPeerLost_frame n (s.setPeer n (s.peer n).lost)).andThen (updateYield_frame _)
  unfold peerLost
  dsimp only
  split
  · exact told.part .pt
  · rfl

/-- R52, R159: the floor of a peer that is lost leaves the view and the zones, whether or not the yield follows. -/
theorem peerLost_floor {n : Station} {s : State} {v : FloorView} (taking : s.taking = true) (view : s.fu.view = some v)
    (holder : v.holder = n) :
    (peerLost n s).fu.view = none ∧ (peerLost n s).nowhere (Owner.isFloor v.holder v.number) := by
  have taking' : (s.setPeer n (s.peer n).lost).taking = true := taking
  have view' : (s.setPeer n (s.peer n).lost).fu.view = some v := view
  unfold peerLost
  dsimp only
  generalize s.setPeer n (s.peer n).lost = u at *
  have leaves : floorPeerLost n u = floorLeavesView u := by
    rw [floorPeerLost, view']
    exact if_pos (beq_iff_eq.mpr holder)
  obtain ⟨fu, nowhere⟩ := floorLeavesView_spec view'
  have goesOn : (floorLeavesView u).taking = true := (State.taking_of_frame (floorLeavesView_frame u)).trans taking'
  rw [if_pos taking', leaves]
  exact ⟨(updateYield_spec goesOn).1 (by rw [fu]), nowhere.updateYield rfl⟩

/-- Settles O52: the expiry is the loss of the peer, and the zones settle without bringing its floor back. -/
theorem silentPeerIsLost : Obligations.SilentPeerIsLost := by
  intro n s up delivers present aged
  have expired : s.agedOut n = true := by
    rw [State.agedOut, delivers, present]
    exact aged
  have effect : (if s.agedOut n then peerLost n s else s) = peerLost n s := if_pos expired
  have run : exec (.agingExpiry n) s = .next (asOneChange (fun _ => peerLost n s) s) :=
    congrArg Host.Outcome.next ((change_of_up up).trans (asOneChange_eq effect))
  have ended := asOneChange_frame (fun _ => peerLost n s) s
  refine ⟨_, run, (ended.part .pt).trans (peerLost_pt n s), fun taking v view holder => ?_,
    ((peerLost_frame n s).andThen ended).within⟩
  obtain ⟨gone, nowhere⟩ := peerLost_floor taking view holder
  exact ⟨(congrArg FloorUnit.view (ended.part .fu)).trans gone,
    State.nowhere.asOneChange (f := fun _ => peerLost n s) nowhere fun _ => rfl⟩

/-! ## The peer cause and the yielding state -/

/-- A set of stations that a test holds of is empty only where the test holds of none. -/
theorem foldl_stationSet_eq_zero_iff (p : Station → Bool) (stations : List Station) (set : StationSet) :
    stations.foldl (fun set n => if p n then set ||| stationSet n else set) set = 0#32 ↔
      set = 0#32 ∧ ∀ n ∈ stations, p n = false := by
  have bit : ∀ n : Station, stationSet n ≠ 0#32 := by decide
  induction stations generalizing set with
  | nil => simp
  | cons n rest ih =>
    rw [List.foldl_cons]
    refine (ih _).trans ?_
    cases h : p n
    · simp [h]
    · simp [h, BitVec.or_eq_zero_iff, bit n]

/-- R55, R181: with the school-wide setting the peer cause is set exactly while a PRESENT peer yields. -/
theorem peerCauseNow_eq (s : State)
    [Decidable (∃ m : Station, (s.peer m).state = .present ∧ (s.peer m).yielding = true)] :
    s.peerCauseNow = (s.dru.schoolWide &&
      decide (∃ m : Station, (s.peer m).state = .present ∧ (s.peer m).yielding = true)) := by
  have none_iff : s.peerYieldSet = 0#32 ↔
      ¬∃ m : Station, (s.peer m).state = .present ∧ (s.peer m).yielding = true := by
    refine (foldl_stationSet_eq_zero_iff _ _ _).trans ?_
    simp [allStations]
  have some_iff : (s.peerYieldSet != 0) =
      decide (∃ m : Station, (s.peer m).state = .present ∧ (s.peer m).yielding = true) := by
    rw [Bool.eq_iff_iff, bne_iff_ne, decide_eq_true_iff]
    exact (not_congr none_iff).trans not_not
  rw [State.peerCauseNow, some_iff]

/-- R55, R181 to R183: the inputs to yield are taken as they stand. -/
theorem updateYield_inputs {s : State} (taking : s.taking = true) :
    (updateYield s).dru.peerCause = s.peerCauseNow ∧
      (updateYield s).dru.yielding = (s.dru.contact || s.peerCauseNow) := by
  have wanted : s.withPeerCause.yieldWanted = (s.dru.contact || s.peerCauseNow) := rfl
  have cause : s.withPeerCause.dru.peerCause = s.peerCauseNow := rfl
  rcases updateYield_cases s taking with ⟨set, -, h⟩ | ⟨clear, -, h⟩ | ⟨stands, h⟩ <;> rw [h]
  · obtain ⟨record, dru⟩ := yieldStart_dru s.withPeerCause
    rw [dru, ← wanted, set]
    exact ⟨cause, rfl⟩
  · have dru := (releaseEverywhere_frame (fun o => o == .yield) (s.withPeerCause.setYielding false)).part .dru
    simp only [State.sameIn] at dru
    rw [yieldEnd, dru, ← wanted, clear]
    exact ⟨cause, rfl⟩
  · exact ⟨cause, stands.trans wanted⟩

/-! ## YIELD -/

/-- R48, R50: the entry of a peer whose YIELD has been accepted. -/
theorem peerYields_heardFrom_pt (n : Station) (state : Byte) (s : State) :
    (peerYields n state (s.heardFrom n)).pt = s.pt.set n { s.pt[n] with
      state := .present, lastHeard := some s.now, yielding := decide (state ≠ 0#8) } := by
  have entry : (s.heardFrom n).peer n = (s.peer n).heardAt s.now := by
    rw [State.peer, State.heardFrom_pt]
    exact Vector.getElem_set_self _
  have flag : (state != 0) = decide (state ≠ 0#8) := by
    rw [Bool.eq_iff_iff, bne_iff_ne, decide_eq_true_iff]
    rfl
  rw [peerYields, entry, flag, State.setPeer]
  dsimp only
  rw [State.heardFrom_pt, Vector.set_set]
  rfl

/-- R49: a BEACON heard leaves the yielding flag of its sender as its flags give it. -/
theorem beaconHeard_yielding {sender : Byte} {n : Station} {s : State} (hears : s.hears sender n) (b : BeaconBody) :
    ∃ t, exec (.beacon sender b) s = .next t ∧ (t.peer n).yielding = b.flags.getLsbD 0 := by
  have run : exec (.beacon sender b) s =
      .next (asOneChange (fun _ => beaconFrom n b s.receiveStamp (s.heardFrom n)) s) :=
    heard_eq_next hears fun n r => beaconFrom n b r
  have ended := asOneChange_frame (fun _ => beaconFrom n b s.receiveStamp (s.heardFrom n)) s
  obtain ⟨pt, -, -⟩ := beaconFrom_kept n b s.receiveStamp (s.heardFrom n)
  obtain ⟨-, entry⟩ := beaconHeard_peers ((ended.part .pt).trans pt)
  refine ⟨_, run, ?_⟩
  rw [entry]
  rfl

/-- Settles O50: the flag is in the Peer Table when the inputs to yield are taken, by the three cases of `updateYield`. -/
theorem yieldSetsItsSendersFlag : Obligations.YieldSetsItsSendersFlag := by
  intro sender state n s hears
  refine ⟨?_, beaconHeard_yielding hears⟩
  have run : exec (.yield sender state) s =
      .next (asOneChange (fun _ => ifTaking updateYield (peerYields n state (s.heardFrom n))) s) :=
    heard_eq_next hears fun n _ t => ifTaking updateYield (peerYields n state t)
  have ended := asOneChange_frame (fun _ => ifTaking updateYield (peerYields n state (s.heardFrom n))) s
  have told := (ifTaking_frame updateYield_frame (peerYields n state (s.heardFrom n))).andThen ended
  have flagged := (s.heardFrom_frame n).andThen (peerYields_frame n state (s.heardFrom n))
  have pt := peerYields_heardFrom_pt n state s
  have taking : (peerYields n state (s.heardFrom n)).taking = s.taking := rfl
  have dru : (peerYields n state (s.heardFrom n)).dru = s.dru := rfl
  refine ⟨_, run, (told.part .pt).trans pt, fun takes => ?_, fun deaf => ?_, (flagged.andThen told).within⟩
  · generalize peerYields n state (s.heardFrom n) = u at *
    rw [takes] at taking
    have effect : ifTaking updateYield u = updateYield u := if_pos taking
    obtain ⟨cause, yielding⟩ := updateYield_inputs taking
    have peers (m : Station) : (asOneChange (fun _ => ifTaking updateYield u) s).peer m = u.peer m := by
      rw [State.peer, told.part .pt, State.peer]
    have dru' : (asOneChange (fun _ => ifTaking updateYield u) s).dru = (updateYield u).dru := by
      rw [← effect]
      exact ended.part .dru
    simp only [peers]
    rw [dru', cause, yielding, ← dru]
    exact ⟨peerCauseNow_eq u, rfl⟩
  · rw [deaf] at taking
    have silent : ifTaking updateYield (peerYields n state (s.heardFrom n)) = peerYields n state (s.heardFrom n) :=
      if_neg (Bool.eq_false_iff.mp taking)
    exact (ended.part .dru).trans ((congrArg State.dru silent).trans dru)

end Sys2Proof.Machine
end

section
/-! PROOF. DRILL_START (R107, R109, R168, R170 to R172): the record of a drill joined, and what a drill request leaves of
a zone that holds no drill. -/

namespace Sys2Proof.Machine

-- one declaration at a time, as in the tests: the threads of a whole text's proofs do not fit the memory limit
set_option Elab.async false

/-! ## The offer of a DRILL-START -/

/-- R168, R171: the record that joining the drill of an offer without a report creates. -/
theorem joinedRecord_of_start {o : DrillOffer} {s : State} {x : Nat} (start : o.report = none)
    (school : s.school = some x) :
    let r := s.joinedRecord o
    r.initiator = o.initiator ∧ r.number = o.number ∧ r.start = o.start ∧ r.evacuationLimit = o.evacuationLimit ∧
      r.soundLimit = o.soundLimit ∧ r.expected = o.expected ∧
      r.reported = s.peerReports o.initiator o.number &&& o.expected ∧ r.endReason = none ∧
      r.phase = joinedPhase r x := by
  have joined : s.joinedReports o = s.peerReports o.initiator o.number &&& o.expected := by
    rw [State.joinedReports, start]
    exact congrArg (· &&& o.expected) BitVec.zero_or
  unfold State.joinedRecord
  dsimp only
  rw [start, school, ← joined]
  generalize begun :
    ({ initiator := o.initiator, number := o.number, start := o.start, evacuationLimit := o.evacuationLimit,
       soundLimit := o.soundLimit, expected := o.expected, reported := s.joinedReports o,
       muster := Vector.ofFn (s.joinedMuster o), phase := .sounding, endReason := none, finalElapsed := none } :
      DrillRecord) = r0
  have behind : (r0.checked (some x)).notBehind none = r0.checked (some x) := rfl
  have checked := r0.checked_keeps (some x)
  have phase : (r0.checked (some x)).phase = joinedPhase r0 x :=
    DrillRecord.checked_of_sounding (by rw [← begun]) x
  rw [phase] at checked
  rw [behind, checked]
  subst begun
  exact ⟨rfl, rfl, rfl, rfl, rfl, rfl, rfl, rfl, rfl⟩

section
variable {o : DrillOffer} {s : State} {x : Nat}

/-- R170, R171: the drill of a DRILL-START is joined where none runs. -/
theorem takeOffer_of_start (still : s.dru.yielding = false) (school : s.school = some x) (start : o.report = none)
    (other : ∀ r, s.dru.record = some r → r.is o.initiator o.number = false) (free : s.drillRunning = false) :
    takeOffer o s = joinDrill o s := by
  have takes : ¬(s.dru.yielding || s.school.isNone) = true := by simp [still, school]
  have unreported : ¬(o.report.any fun p => !p.phase.running) = true := by simp [start]
  unfold takeOffer
  rw [if_neg takes]
  split
  · rename_i r record
    have ended : ¬r.phase.running = true := by simpa [State.drillRunning, record] using free
    rw [if_neg (Bool.eq_false_iff.mp (other r record)), if_neg unreported, if_neg ended]
  · rw [if_neg unreported]

/-- R170, R172: the drill of a DRILL-START is compared with another that runs. -/
theorem takeOffer_of_start_running {r : DrillRecord} (still : s.dru.yielding = false) (school : s.school = some x)
    (start : o.report = none) (record : s.dru.record = some r) (other : r.is o.initiator o.number = false)
    (running : r.phase.running = true) : takeOffer o s = competeDrill o r s := by
  have takes : ¬(s.dru.yielding || s.school.isNone) = true := by simp [still, school]
  have unreported : ¬(o.report.any fun p => !p.phase.running) = true := by simp [start]
  unfold takeOffer
  rw [if_neg takes, record]
  dsimp only
  rw [if_neg (Bool.eq_false_iff.mp other), if_neg unreported, if_pos running]

/-- R172: of two drills the one with the earlier start wins, of equal starts the one with the lower initiator. -/
theorem DrillOffer.beats_iff (o : DrillOffer) (r : DrillRecord) :
    o.beats r = true ↔ o.start < r.start ∨ (o.start = r.start ∧ o.initiator < r.initiator) := by
  simp [DrillOffer.beats]

theorem DrillOffer.not_beats {o : DrillOffer} {r : DrillRecord}
    (loses : r.start < o.start ∨ (o.start = r.start ∧ r.initiator ≤ o.initiator)) : o.beats r = false := by
  rw [Fin.le_def] at loses
  rw [Bool.eq_false_iff, ne_eq, beats_iff, Fin.lt_def]
  omega

/-- R171: the record of a drill joined has the reference of its offer. -/
theorem joinedRecord_reference (o : DrillOffer) (s : State) :
    (s.joinedRecord o).initiator = o.initiator ∧ (s.joinedRecord o).number = o.number := by
  unfold State.joinedRecord
  dsimp only
  unfold DrillRecord.notBehind
  rw [DrillRecord.checked_keeps]
  split
  · split <;> exact ⟨rfl, rfl⟩
  · exact ⟨rfl, rfl⟩

/-- R107, R171: joining brings the drill joined alone. -/
theorem joinDrill_nowhere {is : Owner → Bool} (h : s.nowhere is) (other : is (.drill o.initiator o.number) = false) :
    (joinDrill o s).nowhere is := by
  obtain ⟨initiator, number⟩ := joinedRecord_reference o s
  unfold joinDrill
  dsimp only
  have written : (s.setRecord (some (s.joinedRecord o))).nowhere is := h
  generalize s.joinedRecord o = r at *
  generalize s.setRecord (some r) = u at *
  split
  · refine written.forEach (fun z _ asked => asked.drillRequest ?_ z) allZones
    rw [initiator, number]
    exact other
  · exact written

/-- R172: a drill that wins over another is joined by a station that the other has left. -/
theorem competeDrill_of_beats {r : DrillRecord} (beats : o.beats r = true) (other : r.is o.initiator o.number = false) :
    ∃ u : State, competeDrill o r s = joinDrill o u ∧ u.dru = { s.dru with record := none } ∧ u.school = s.school ∧
      u.pt = s.pt ∧ (joinDrill o u).nowhere (Owner.isDrill r.initiator r.number) := by
  have freed := releaseDrill_frame r (s.setRecord none)
  have tb : (releaseDrill r (s.setRecord none)).tb = s.tb := freed.part .tb
  have notOld : Owner.isDrill r.initiator r.number (.drill o.initiator o.number) = false := by
    rw [← other, Owner.isDrill, DrillRecord.is, BEq.comm, BEq.comm (a := o.number)]
  exact ⟨_, if_pos beats, freed.part .dru, congrArg TimeBase.fullTime tb, freed.part .pt,
    joinDrill_nowhere (releaseEverywhere_nowhere _ _) notOld⟩

end

/-! ## A drill request at a zone with no drill -/

/-- Neither the owner nor the stack of a zone is a drill. -/
def Zone.drillFree (r : Zone) : Prop :=
  (∀ o, r.owner = some o → o.anyDrill = false) ∧ ∀ o ∈ r.stack, o.anyDrill = false

/-- R107, R109: a zone with no drill once a drill has come to it: the drill owns an IDLE zone, defers a bell, holds a
GENERAL floor, and waits in the stack under an URGENT floor or a yield. -/
def Zone.withDrill (drill : Owner) (r : Zone) : Zone :=
  match r.owner with
  | none => { r with owner := some drill, bellStarted := false }
  | some (.bell d) =>
    { r with owner := some drill, deferred := some d, cutBell := some d, bellStarted := false }
  | some (.floor h k .general) =>
    { r with owner := some drill, stack := .floor h k .general :: r.stack, bellStarted := false }
  | some _ => { r with stack := if r.stack.length < 3 then insertDrill drill r.stack else r.stack }

section
variable {r : Zone} (drill : Owner)

theorem Zone.withDrill_of_idle (idle : r.owner = none) :
    r.withDrill drill = { r with owner := some drill, bellStarted := false } := by
  simp only [withDrill, idle]

theorem Zone.withDrill_of_bell {d : Bell} (bell : r.owner = some (.bell d)) :
    r.withDrill drill =
      { r with owner := some drill, deferred := some d, cutBell := some d, bellStarted := false } := by
  simp only [withDrill, bell]

theorem Zone.withDrill_of_general {h : Station} {k : Byte} (general : r.owner = some (.floor h k .general)) :
    r.withDrill drill =
      { r with owner := some drill, stack := .floor h k .general :: r.stack, bellStarted := false } := by
  simp only [withDrill, general]

theorem Zone.withDrill_of_higher {o : Owner} (higher : r.owner = some o) (notBell : ∀ d, o ≠ .bell d)
    (notGeneral : ∀ h k, o ≠ .floor h k .general) :
    r.withDrill drill =
      { r with stack := if r.stack.length < 3 then insertDrill drill r.stack else r.stack } := by
  unfold withDrill
  split
  · rename_i idle
    cases idle.symm.trans higher
  · rename_i bell
    cases bell.symm.trans higher
    exact absurd rfl (notBell _)
  · rename_i general
    cases general.symm.trans higher
    exact absurd rfl (notGeneral _ _)
  · rfl

/-- R107: no zone is left IDLE. -/
theorem Zone.withDrill_owned (r : Zone) : (r.withDrill drill).owner ≠ none := by
  unfold withDrill
  split
  · exact nofun
  · exact nofun
  · exact nofun
  · rename_i owner
    rw [owner]
    exact nofun

end

/-- R110: a release at a zone that holds none of those released leaves the station as it was. -/
theorem releaseAt_of_free {is : Owner → Bool} {z : ZoneId} {s : State}
    (owner : ∀ o, (s.zone z).owner = some o → is o = false) (stack : ∀ o ∈ (s.zone z).stack, is o = false) :
    releaseAt is z s = s := by
  have kept : (s.zone z).stack.filter (fun o => !is o) = (s.zone z).stack :=
    List.filter_eq_self.mpr fun o mem => by rw [stack o mem]; rfl
  have stands : s.setZone z { s.zone z with stack := (s.zone z).stack.filter fun o => !is o } = s := by
    rw [kept]
    exact s.setZone_self z
  unfold releaseAt
  dsimp only
  rw [stands]
  split
  · rename_i o held
    exact if_neg (Bool.eq_false_iff.mp (owner o held))
  · rfl

theorem Owner.isDrill_of_free {o : Owner} (h : o.anyDrill = false) (i : Station) (m : Byte) : o.isDrill i m = false := by
  cases o with
  | drill => cases h
  | _ => rfl

/-- R102, R107: the owners that a drill may find at a zone with no drill. -/
theorem Zone.drillFree_cases {r : Zone} (free : r.drillFree) :
    r.owner = none ∨ (∃ d, r.owner = some (.bell d)) ∨ (∃ h k, r.owner = some (.floor h k .general)) ∨
      ∃ o, r.owner = some o ∧ (o.level = .pageUrgent ∨ o.level = .yield) := by
  obtain ⟨drillless, -⟩ := free
  rcases held : r.owner with _ | (d | ⟨h, k, _ | _⟩ | ⟨i, m⟩ | _)
  · exact .inl rfl
  · exact .inr (.inl ⟨d, rfl⟩)
  · exact .inr (.inr (.inl ⟨h, k, rfl⟩))
  · exact .inr (.inr (.inr ⟨_, rfl, .inl rfl⟩))
  · cases drillless _ held
  · exact .inr (.inr (.inr ⟨_, rfl, .inr rfl⟩))

/-- R107, R109: a drill request at a zone with no drill. -/
theorem drillRequest_of_free {z : ZoneId} {s : State} (taking : s.taking = true) (free : (s.zone z).drillFree)
    (i : Station) (m : Byte) : (drillRequest i m z s).zone z = (s.zone z).withDrill (.drill i m) := by
  obtain ⟨owner, stack⟩ := free
  have released : releaseAt (fun o => o.anyDrill && !o.isDrill i m) z s = s :=
    releaseAt_of_free (fun o h => by rw [owner o h]; rfl) (fun o h => by rw [stack o h]; rfl)
  have absent : ¬((s.zone z).owner.any (Owner.isDrill i m) || (s.zone z).stack.any (Owner.isDrill i m)) = true := by
    rw [Bool.or_eq_true, Option.any_eq_true, List.any_eq_true]
    rintro (⟨o, held, is⟩ | ⟨o, held, is⟩)
    · rw [Owner.isDrill_of_free (owner o held)] at is
      cases is
    · rw [Owner.isDrill_of_free (stack o held)] at is
      cases is
  unfold drillRequest
  rw [if_neg (by simp [taking])]
  dsimp only
  rw [released, if_neg absent]
  rcases Zone.drillFree_cases ⟨owner, stack⟩ with idle | ⟨d, bell⟩ | ⟨h, k, general⟩ | ⟨o, held, higher⟩
  · have level : (s.zone z).level = .idle := by rw [Zone.level, idle]
    simp only [level, displace, idle, State.setZone_zone_same, Zone.withDrill_of_idle _ idle]
  · have level : (s.zone z).level = .bell := by rw [Zone.level, bell]; rfl
    simp [level, displace, bell, Zone.withDrill_of_bell _ bell]
  · have level : (s.zone z).level = .pageGeneral := by rw [Zone.level, general]; rfl
    simp [level, displace, general, Zone.withDrill_of_general _ general]
  · have level : (s.zone z).level = o.level := by rw [Zone.level, held]
    have waits : (if (s.zone z).stack.length < Config.stackLimit then
        s.setZone z { s.zone z with stack := insertDrill (.drill i m) (s.zone z).stack } else s).zone z =
        (s.zone z).withDrill (.drill i m) := by
      rw [Zone.withDrill_of_higher _ held (by rintro d rfl; cases higher <;> contradiction)
        (by rintro h k rfl; cases higher <;> contradiction)]
      split <;> rename_i room
      · rw [State.setZone_zone_same, if_pos (show (s.zone z).stack.length < 3 from room)]
      · rw [if_neg (show ¬(s.zone z).stack.length < 3 from room)]
    rcases higher with urgent | yields
    · rw [level, urgent]
      exact waits
    · rw [level, yields]
      exact waits

/-- R107: a drill request at one zone leaves the other zones. -/
theorem drillRequest_other {z y : ZoneId} (h : y ≠ z) (i : Station) (m : Byte) (s : State) :
    (drillRequest i m z s).zone y = s.zone y := by
  have released := releaseAt_other (fun o => o.anyDrill && !o.isDrill i m) h s
  unfold drillRequest
  split
  · rfl
  · dsimp only
    generalize releaseAt (fun o => o.anyDrill && !o.isDrill i m) z s = u at *
    have displaced : (displace false (.drill i m) z u).zone y = s.zone y := by
      rw [← released]
      unfold displace
      dsimp only
      split
      · exact State.setZone_zone_ne _ _ _ _ h
      · exact State.setZone_zone_ne _ _ _ _ h
      · exact State.setZone_zone_ne _ _ _ _ h
    split
    · exact released
    · split
      iterate 4 exact displaced
      all_goals
        split
        · exact (State.setZone_zone_ne _ _ _ _ h).trans released
        · exact released

/-- R107, R171: a drill asked of zones with no drill comes to each. -/
theorem forEach_drillRequest_zone {i : Station} {m : Byte} {zones : List ZoneId} (nodup : zones.Nodup) {y : ZoneId}
    (mem : y ∈ zones) {s : State} (taking : s.taking = true) (free : (s.zone y).drillFree) :
    (forEach zones (drillRequest i m) s).zone y = (s.zone y).withDrill (.drill i m) := by
  induction zones generalizing s with
  | nil => cases mem
  | cons z rest ih =>
    obtain ⟨fresh, nodup⟩ := List.nodup_cons.mp nodup
    rw [forEach_cons]
    by_cases here : y = z
    · subst here
      rw [forEach_zone_other (fun z y t h => drillRequest_other h i m t) fresh, drillRequest_of_free taking free]
    · have stands := drillRequest_other here i m s
      have taking' : (drillRequest i m z s).taking = true :=
        (State.taking_of_frame (drillRequest_frame i m z s)).trans taking
      rw [ih nodup ((List.mem_cons.mp mem).resolve_left here) taking' (by rw [stands]; exact free), stands]

/-- R107, R171: a running drill that is joined comes to every zone. -/
theorem joinDrill_zone {o : DrillOffer} {s : State} (taking : s.taking = true)
    (running : (s.joinedRecord o).phase.running = true) {z : ZoneId} (free : (s.zone z).drillFree) :
    (joinDrill o s).zone z = (s.zone z).withDrill (.drill o.initiator o.number) := by
  obtain ⟨initiator, number⟩ := joinedRecord_reference o s
  rw [← initiator, ← number]
  have asked := forEach_drillRequest_zone (i := (s.joinedRecord o).initiator) (m := (s.joinedRecord o).number)
    (s := s.setRecord (some (s.joinedRecord o))) nodup_allZones (mem_allZones z) taking free
  unfold joinDrill
  exact (congrArg (State.zone · z) (if_pos running)).trans asked

/-! ## The end of a change that leaves every zone an owner -/

/-- Every zone keeps its deferred bell. -/
def State.sameDeferred (s t : State) : Prop := ∀ z : ZoneId, (t.zone z).deferred = (s.zone z).deferred

theorem State.sameDeferred_refl (s : State) : s.sameDeferred s := fun _ => rfl

theorem State.sameDeferred.trans {s t u : State} (h1 : s.sameDeferred t) (h2 : t.sameDeferred u) : s.sameDeferred u :=
  fun z => (h2 z).trans (h1 z)

theorem State.sameDeferred_of_lines {s t : State} (lines : s.keepsAllBut [.dsq] t) : s.sameDeferred t := fun z => by
  rw [State.zone_of_za (lines.part .za)]

/-- A zone rewritten with its own deferred bell after an operation on the lines. -/
theorem setZone_sameDeferred {s t : State} (lines : s.keepsAllBut [.dsq] t) {z : ZoneId} {r : Zone}
    (same : r.deferred = (t.zone z).deferred) : s.sameDeferred (t.setZone z r) :=
  (State.sameDeferred_of_lines lines).trans fun y => by
    by_cases e : y = z
    · subst e
      rw [State.setZone_zone_same]
      exact same
    · rw [State.setZone_zone_ne _ _ _ _ e]

/-- R113: effects that stop leave every deferred bell. -/
theorem stopEffects_sameDeferred (old : Option Owner) (z : ZoneId) (s : State) :
    s.sameDeferred (stopEffects old z s) := by
  unfold stopEffects
  split
  · split
    · rename_i l _
      have lines := cancelPlayer_frame l s
      unfold cutBellPlayer
      split <;> rename_i cancelled <;> rw [cancelled] at lines
      · exact setZone_sameDeferred lines rfl
      · exact State.sameDeferred_of_lines lines
    · exact s.sameDeferred_refl
  · split
    · exact s.sameDeferred_refl
    · unfold pageLineOff
      split
      · split
        · exact setZone_sameDeferred (pageSwitchOff_frame _ s) rfl
        · exact s.sameDeferred_refl
      · exact s.sameDeferred_refl
  · unfold sounderOff
    split
    · split
      · exact setZone_sameDeferred (cancelPlayer_frame _ s) rfl
      · exact s.sameDeferred_refl
    · exact s.sameDeferred_refl
  · exact s.sameDeferred_refl
  · exact s.sameDeferred_refl

/-- R113: effects that start leave every deferred bell. -/
theorem startEffects_sameDeferred (z : ZoneId) (s : State) : s.sameDeferred (startEffects z s) := by
  unfold startEffects
  split
  · exact s.sameDeferred_refl
  · split
    · split
      · exact State.sameDeferred_of_lines (startPlayer_frame _ _ s)
      · exact s.sameDeferred_refl
    · unfold pageLineOn
      split
      · exact setZone_sameDeferred (pageSwitchOn_frame _ s) rfl
      · exact s.sameDeferred_refl
    · split
      · unfold sounderStart
        split
        · exact setZone_sameDeferred (startPlayer_frame _ none s) rfl
        · exact s.sameDeferred_refl
      · exact s.sameDeferred_refl
    · exact s.sameDeferred_refl
    · exact s.sameDeferred_refl

/-- R111 to R113: a zone that has an owner is settled by its effects alone. -/
theorem settleZone_of_owned {old : Zone} {z : ZoneId} {s : State} (owned : (s.zone z).owner ≠ none) :
    s.sameOwners (settleZone old z s) ∧ s.sameDeferred (settleZone old z s) := by
  have unexamined : ¬((s.zone z).owner.isNone && old.owner.isSome) = true := by
    simp [Option.isNone_eq_false_iff.mpr (Option.isSome_iff_ne_none.mpr owned)]
  unfold settleZone
  rw [if_neg unexamined]
  dsimp only
  split
  · exact ⟨s.sameOwners_refl, s.sameDeferred_refl⟩
  · exact ⟨(stopEffects_sameOwners old.owner z s).trans (startEffects_sameOwners z _),
      (stopEffects_sameDeferred old.owner z s).trans (startEffects_sameDeferred z _)⟩

theorem forEach_settleZone_of_owned (old : Vector Zone 8) (zones : List ZoneId) {s : State}
    (owned : ∀ z : ZoneId, (s.zone z).owner ≠ none) :
    s.sameOwners (forEach zones (fun z t => settleZone old[z] z t) s) ∧
      s.sameDeferred (forEach zones (fun z t => settleZone old[z] z t) s) := by
  induction zones generalizing s with
  | nil => exact ⟨s.sameOwners_refl, s.sameDeferred_refl⟩
  | cons z rest ih =>
    obtain ⟨owners, deferred⟩ := settleZone_of_owned (old := old[z]) (owned z)
    obtain ⟨owners', deferred'⟩ := ih (s := settleZone old[z] z s) fun y => by
      rw [(owners y).1]
      exact owned y
    exact ⟨owners.trans owners', deferred.trans deferred'⟩

/-- R111 to R113: what a step ends with leaves the owners, the stacks and the deferred bells of zones that all have
owners. -/
theorem asOneChange_of_owned {f : State → State} {s : State} (owned : ∀ z : ZoneId, ((f s).zone z).owner ≠ none) :
    (f s).sameOwners (asOneChange f s) ∧ (f s).sameDeferred (asOneChange f s) := by
  have settled := forEach_settleZone_of_owned s.za.zones allZones owned
  unfold asOneChange settleZones
  generalize forEach allZones (fun z t => settleZone s.za.zones[z] z t) (f s) = u at *
  obtain ⟨owners, deferred⟩ := settled
  have selected := selectNext_frame (arbitrate (syncTrunk u))
  refine ⟨(owners.trans (arbitrate_sameOwners (syncTrunk u))).trans (State.sameOwners_of_za (selected.part .za)),
    deferred.trans fun z => ?_⟩
  obtain ⟨_, granted⟩ := (arbitrate_grants (syncTrunk u)).zones z
  rw [State.zone_of_za (selected.part .za), granted]
  rfl

/-- R107, R109, R171: what the step in which a running drill is joined leaves of a zone. -/
theorem joinDrill_ended {o : DrillOffer} {u s : State} (taking : u.taking = true)
    (running : (u.joinedRecord o).phase.running = true) (free : u.nowhere Owner.anyDrill) (z : ZoneId) :
    let t := asOneChange (fun _ => joinDrill o u) s
    let came := (u.zone z).withDrill (.drill o.initiator o.number)
    (t.zone z).owner = came.owner ∧ (t.zone z).stack = came.stack ∧ (t.zone z).deferred = came.deferred := by
  have zone (y : ZoneId) := joinDrill_zone taking running (free y)
  obtain ⟨owners, deferred⟩ := asOneChange_of_owned (f := fun _ => joinDrill o u) (s := s) fun y => by
    rw [zone y]
    exact Zone.withDrill_owned _ _
  rw [← zone z]
  exact ⟨(owners z).1, (owners z).2, deferred z⟩

/-! ## DRILL_START -/

/-- Settles O48: the record by the phase check of a joined record, the zones by one request at each, which leaves every
zone an owner, so that the end of the step brings no deferred bell. -/
theorem drillStartIsJoinedOrCompared : Obligations.DrillStartIsJoinedOrCompared := by
  intro sender b n x s hears taking still school other start joined
  have effect : ifTaking (takeOffer (offerOfStart n b)) (s.heardFrom n) =
      takeOffer (offerOfStart n b) (s.heardFrom n) := ifTaking_of_taking taking
  have run {u : State} (taken : takeOffer (offerOfStart n b) (s.heardFrom n) = u) :
      exec (.drillStart sender b) s = .next (asOneChange (fun _ => u) s) := by
    rw [← taken, ← effect]
    exact heard_eq_next hears fun n _ => ifTaking (takeOffer (offerOfStart n b))
  have record {u : State} (school' : u.school = some x) (pt : u.pt = (s.heardFrom n).pt) :
      joined (u.joinedRecord (offerOfStart n b)) := by
    obtain ⟨initiator, number, begins, evacuation, sound, expected, reported, reason, phase⟩ :=
      joinedRecord_of_start (o := offerOfStart n b) rfl school'
    rw [peerReports_of_pt pt, ← expected] at reported
    exact ⟨initiator, number, begins, evacuation, sound, expected, reported, reason, phase⟩
  refine ⟨fun free => ?_, fun r held running => ⟨fun loses => ?_, fun wins => ?_⟩⟩
  · have taken := takeOffer_of_start (o := offerOfStart n b) (s := s.heardFrom n) still school rfl other free
    have ended := asOneChange_frame (fun _ => joinDrill (offerOfStart n b) (s.heardFrom n)) s
    refine ⟨_, _, run taken, (ended.part .dru).trans (joinDrill_dru _ _), record (u := s.heardFrom n) school rfl,
      fun sounds drillless z => ?_,
      (((s.heardFrom_frame n).andThen (joinDrill_frame _ _)).andThen ended).within⟩
    obtain ⟨owner, stack, deferred⟩ := joinDrill_ended (u := s.heardFrom n) (s := s) taking sounds drillless z
    rw [owner, stack, deferred]
    have same : (s.heardFrom n).zone z = s.zone z := rfl
    rw [same]
    split
    · rename_i idle
      rw [Zone.withDrill_of_idle _ idle]
      exact ⟨rfl, rfl⟩
    · rename_i bell
      rw [Zone.withDrill_of_bell _ bell]
      exact ⟨rfl, rfl, rfl⟩
    · rename_i general
      rw [Zone.withDrill_of_general _ general]
      exact ⟨rfl, rfl⟩
    · rename_i notBell notGeneral higher
      rw [Zone.withDrill_of_higher _ higher notBell notGeneral]
      exact ⟨higher, rfl⟩
  · have taken := takeOffer_of_start_running (o := offerOfStart n b) (s := s.heardFrom n) still school rfl held
      (other r held) running
    have loses' : (offerOfStart n b).beats r = false := DrillOffer.not_beats loses
    exact heard_eq_endOfStep hears (effect.trans (taken.trans (if_neg (Bool.eq_false_iff.mp loses')))) rfl
  · have taken := takeOffer_of_start_running (o := offerOfStart n b) (s := s.heardFrom n) still school rfl held
      (other r held) running
    obtain ⟨u, joins, dru, school', pt, gone⟩ := competeDrill_of_beats (o := offerOfStart n b) (s := s.heardFrom n)
      ((DrillOffer.beats_iff _ r).mpr wins) (other r held)
    have ended := asOneChange_frame (fun _ => joinDrill (offerOfStart n b) u) s
    refine ⟨_, _, run (taken.trans joins), (ended.part .dru).trans ?_, record (school'.trans school) pt,
      State.nowhere.asOneChange (f := fun _ => joinDrill (offerOfStart n b) u) gone fun _ => rfl⟩
    rw [joinDrill_dru, dru]
    rfl

end Sys2Proof.Machine
end

section
/-! PROOF. Dial setting and impulses (R64, R65, R68, R69, R72, R73, R76, R81, R189): the end of an impulse, the
snapshot that a moved dial asks for, what the arbiter's grants write in a dial slot, and the commands DIAL_SET,
SPACING_EXPIRY and WIDTH_EXPIRY of an impulse. -/

namespace Sys2Proof.Machine

-- one declaration at a time, as in the tests: the threads of a whole text's proofs do not fit the memory limit
set_option Elab.async false

/-! ## The snapshot of a moved dial -/

/-- R76: where one bound slot has moved and every other dial stands, the readings differ in that slot alone. -/
theorem dialReadings_of_moved {s u : State} {i : SlotId} {l : LineId} {r : DialSlot} (sp : s.sameIn u .sp)
    (line : (s.slot i).line = some l) (same : r.line = (s.slot i).line)
    (dials : ∀ j, ((s.setSlot i r).slot j).sameDial (u.slot j)) :
    u.dialReadings = s.dialReadings.set i { dial := r.dial, polarity := r.polarity } := by
  have sp' : u.sp = s.sp := sp
  have read (j : SlotId) : u.dialReadings[j] =
      (s.dialReadings.set i { dial := r.dial, polarity := r.polarity })[j] := by
    obtain ⟨bound, -, dial, polarity⟩ := dials j
    rw [State.dialReadings_get, bound, dial, polarity, sp']
    by_cases e : j = i
    · subst e
      simp [State.setSlot_slot_same, same, line]
    · rw [State.setSlot_slot_ne _ _ _ _ e, ← State.dialReadings_get]
      simp [Fin.val_inj, Ne.symm e]
  exact Vector.ext fun k h => read ⟨k, h⟩

/-- R188, R189: a request for a snapshot made after operations that leave the store and the clock is one of this
moment. -/
theorem requestSnapshot_asked_of {s u t : State} (ds : s.sameIn u .ds) (tb : s.sameIn u .tb)
    (asked : t.ds = (requestSnapshot u).ds) : s.snapshotAsked u.dialReadings t := by
  have ds' : u.ds = s.ds := ds
  have tb' : u.tb = s.tb := tb
  have made := requestSnapshot_asked u
  simpa only [State.snapshotAsked, State.snapshotNow, State.school, State.now, ds', tb', asked] using made

/-- R189: what is asked of the store is read off the store alone. -/
theorem State.snapshotAsked.of_ds {s t u : State} {dials : Vector DialReading 6} (h : s.snapshotAsked dials t)
    (ds : t.sameIn u .ds) : s.snapshotAsked dials u := by
  have ds' : u.ds = t.ds := ds
  unfold State.snapshotAsked at h ⊢
  rw [ds']
  exact h

/-- R63: the recompute of a slot rewritten leaves every position and polarity as rewritten. -/
theorem recompute_setSlot_dials (i : SlotId) (r : DialSlot) (s : State) (j : SlotId) :
    ((s.setSlot i r).slot j).sameDial ((recompute i (s.setSlot i r)).slot j) :=
  recompute_sameDial i j _

/-- R76, R189: the snapshot asked for once a bound slot is rewritten and recomputed holds that slot's dial as
rewritten. -/
theorem snapshotAsked_of_moved {s t : State} {i : SlotId} {l : LineId} {r : DialSlot}
    (line : (s.slot i).line = some l) (same : r.line = (s.slot i).line)
    (asked : t.ds = (requestSnapshot (recompute i (s.setSlot i r))).ds) :
    s.snapshotAsked (s.dialReadings.set i { dial := r.dial, polarity := r.polarity }) t := by
  have frame := (s.setSlot_frame i r).andThen (recompute_frame i _)
  rw [← dialReadings_of_moved (frame.part .sp) line same (recompute_setSlot_dials i r s)]
  exact requestSnapshot_asked_of (frame.part .ds) (frame.part .tb) asked

/-! ## What a recompute and a grant leave of a slot -/

/-- R73: a recompute leaves the pending set of every slot. -/
theorem recompute_pendingSet (i j : SlotId) (s : State) :
    ((recompute i s).slot j).pendingSet = (s.slot j).pendingSet := by
  by_cases e : j = i
  · subst e
    cases line : (s.slot j).line with
    | none => rw [recompute_of_unbound line]
    | some l =>
      obtain ⟨impulse, du⟩ := recompute_du line
      rw [State.slot_of_du (t := recompute j s) du, State.setSlot_slot_same]
  · rw [recompute_other e]

/-- No line holds a request of the slot. -/
def State.unasked (s : State) (i : SlotId) : Prop :=
  ∀ (m : LineId) (q : EnergizeRequest), (s.line m).request = some q → q.requester ≠ .dial i

/-- What grants write in a dial slot: its impulse and its last start, and neither of a slot that no request names. -/
structure State.Starts (i : SlotId) (s t : State) : Prop where
  slot : ∃ impulse lastStart, t.slot i = { s.slot i with impulse, lastStart }
  unasked : s.unasked i → t.unasked i ∧ (t.slot i).impulse = (s.slot i).impulse

theorem State.Starts.refl (i : SlotId) (s : State) : s.Starts i s :=
  ⟨⟨_, _, rfl⟩, fun h => ⟨h, rfl⟩⟩

theorem State.Starts.trans {i : SlotId} {s t u : State} (h1 : s.Starts i t) (h2 : t.Starts i u) :
    s.Starts i u where
  slot := by
    obtain ⟨a, b, h⟩ := h1.slot
    obtain ⟨c, d, k⟩ := h2.slot
    exact ⟨c, d, by rw [k, h]⟩
  unasked free := by
    obtain ⟨free', stands⟩ := h1.unasked free
    obtain ⟨free'', stands'⟩ := h2.unasked free'
    exact ⟨free'', stands'.trans stands⟩

theorem State.Starts.of_same {i : SlotId} {s t : State} (dsq : s.sameIn t .dsq) (du : s.sameIn t .du) :
    s.Starts i t where
  slot := ⟨_, _, State.slot_of_du du i⟩
  unasked free := by
    refine ⟨fun m => ?_, by rw [State.slot_of_du du]⟩
    rw [State.line_of_dsq dsq]
    exact free m

/-- R67: STARTED is written in the slot that the request names, and in no other. -/
theorem reportStarted_slot (l : LineId) (q : EnergizeRequest) (s : State) (i : SlotId) :
    (∃ impulse lastStart, (reportStarted l q s).slot i = { s.slot i with impulse, lastStart }) ∧
    (q.requester ≠ .dial i → (reportStarted l q s).slot i = s.slot i) := by
  unfold reportStarted
  split
  · rename_i j requester
    by_cases e : i = j
    · subst e
      exact ⟨⟨_, _, State.setSlot_slot_same _ _ _⟩, fun other => absurd requester other⟩
    · exact ⟨⟨_, _, State.setSlot_slot_ne _ _ _ _ e⟩, fun _ => State.setSlot_slot_ne _ _ _ _ e⟩
  · dsimp only
    split
    · refine ⟨⟨(s.slot i).impulse, (s.slot i).lastStart, ?_⟩, fun _ => ?_⟩ <;>
        exact State.slot_of_du ((bellStarted_frame l _).part .du) i
    · exact ⟨⟨_, _, rfl⟩, fun _ => rfl⟩

/-- R83, R84: a grant leaves the request of every line. -/
theorem grant_request (l m : LineId) (s : State) : ((grant l s).line m).request = (s.line m).request := by
  cases request : (s.line l).request with
  | none => simp [grant, request]
  | some q =>
    rw [grant_of_request request]
    obtain ⟨others, p, started⟩ := reportStarted_line l q (s.switchedOn l q)
    by_cases e : m = l
    · subst e
      rw [started, show (s.switchedOn m q).line m = _ from State.setLine_line_same _ _ _]
    · rw [others m e]
      exact congrArg LineRecord.request (State.setLine_line_ne _ _ _ _ e)

theorem grant_starts (l : LineId) (i : SlotId) (s : State) : s.Starts i (grant l s) := by
  have unasked (free : s.unasked i) : (grant l s).unasked i := fun m => by
    rw [grant_request]
    exact free m
  cases request : (s.line l).request with
  | none => simpa [grant, request] using State.Starts.refl i s
  | some q =>
    obtain ⟨written, other⟩ := reportStarted_slot l q (s.switchedOn l q) i
    rw [← grant_of_request request] at written other
    exact ⟨written, fun free => ⟨unasked free, congrArg DialSlot.impulse (other (free l q request))⟩⟩

theorem arbitrateUpTo_starts (n : Nat) (i : SlotId) (s : State) : s.Starts i (arbitrateUpTo n s) := by
  induction n generalizing s with
  | zero => exact .refl i s
  | succ n ih =>
    unfold arbitrateUpTo
    split
    · exact .refl i s
    · split
      · exact (grant_starts _ i s).trans (ih _)
      · exact .refl i s

/-- R67, R83: what a step ends with writes starts in the slots and nothing else. -/
theorem endOfStep_starts (i : SlotId) (s : State) : s.Starts i (endOfStep s) := by
  have granted : (syncTrunk s).Starts i (arbitrate (syncTrunk s)) := by
    unfold arbitrate
    split
    · exact arbitrateUpTo_starts 16 i _
    · exact .refl i _
  have selected := selectNext_frame (arbitrate (syncTrunk s))
  exact (State.Starts.of_same (s := s) (t := syncTrunk s) rfl rfl).trans
    (granted.trans (.of_same (selected.part .dsq) (selected.part .du)))

/-! ## The end of an impulse -/

/-- R68, R69, R73: a slot as the end of its impulse leaves it: at its pending set, or else at the position given. -/
def DialSlot.afterImpulse (d : DialSlot) (dial : Option Nat) (polarity : Polarity) : DialSlot :=
  { d with impulse := .none, polarity, dial := d.pendingSet.orElse fun _ => dial, pendingSet := none }

theorem endImpulse_of_none {i : SlotId} {s : State} (pending : (s.slot i).pendingSet = none) (dial : Option Nat)
    (polarity : Polarity) :
    endImpulse i dial polarity s = recompute i (s.setSlot i ((s.slot i).afterImpulse dial polarity)) := by
  simp [endImpulse, DialSlot.afterImpulse, pending]

theorem endImpulse_of_some {i : SlotId} {s : State} {p : Nat} (pending : (s.slot i).pendingSet = some p)
    (dial : Option Nat) (polarity : Polarity) :
    endImpulse i dial polarity s =
      requestSnapshot (recompute i (s.setSlot i ((s.slot i).afterImpulse dial polarity))) := by
  simp [endImpulse, DialSlot.afterImpulse, pending]

/-- R68, R69, R73: the end of an impulse writes its slot, recomputes it and may ask for a snapshot. -/
theorem endImpulse_keeps (i : SlotId) (dial : Option Nat) (polarity : Polarity) (s : State) :
    (recompute i (s.setSlot i ((s.slot i).afterImpulse dial polarity))).keepsAllBut [.ds]
      (endImpulse i dial polarity s) := by
  cases pending : (s.slot i).pendingSet with
  | none =>
    rw [endImpulse_of_none pending]
    exact State.keepsAllBut_refl _ _
  | some p =>
    rw [endImpulse_of_some pending]
    exact requestSnapshot_frame _

/-- R68, R69, R73: at the end of an impulse the slot has the polarity given, no pending set, and the position that the
pending set or else the end gives. -/
theorem endImpulse_slot (i : SlotId) (dial : Option Nat) (polarity : Polarity) (s : State) :
    ((endImpulse i dial polarity s).slot i).polarity = polarity ∧
    ((endImpulse i dial polarity s).slot i).pendingSet = none ∧
    ((endImpulse i dial polarity s).slot i).dial = ((s.slot i).pendingSet.orElse fun _ => dial) := by
  obtain ⟨-, -, dials, polarities⟩ := recompute_setSlot_dials i ((s.slot i).afterImpulse dial polarity) s i
  have pending := recompute_pendingSet i i (s.setSlot i ((s.slot i).afterImpulse dial polarity))
  rw [State.setSlot_slot_same] at dials polarities pending
  rw [State.slot_of_du ((endImpulse_keeps i dial polarity s).part .du)]
  exact ⟨polarities, pending, dials⟩

/-- R73, R189: an impulse that ends with no pending set asks for no snapshot. -/
theorem endImpulse_ds {i : SlotId} {s : State} (pending : (s.slot i).pendingSet = none) (dial : Option Nat)
    (polarity : Polarity) : (endImpulse i dial polarity s).ds = s.ds := by
  rw [endImpulse_of_none pending]
  exact ((s.setSlot_frame i _).andThen (recompute_frame i _)).part .ds

/-- R73, R189: with one, it asks for a snapshot of the dials as they then are. -/
theorem endImpulse_asked {i : SlotId} {l : LineId} {s : State} {p : Nat} (line : (s.slot i).line = some l)
    (pending : (s.slot i).pendingSet = some p) (dial : Option Nat) (polarity : Polarity) :
    s.snapshotAsked (s.dialReadings.set i { dial := some p, polarity }) (endImpulse i dial polarity s) := by
  have moved := snapshotAsked_of_moved (r := (s.slot i).afterImpulse dial polarity) line rfl
    (congrArg State.ds (endImpulse_of_some pending dial polarity))
  rw [DialSlot.afterImpulse, pending] at moved
  exact moved

/-! ## DIAL_SET -/

section

variable {line : Byte} {position : Half} {i : SlotId} {s : State}

/-- R72: a code that names no bound line sets no dial. -/
theorem dialSet_of_unbound (unbound : (lineOfCode line.toNat).bind s.slotOf = none) : dialSet line position s = s := by
  rw [dialSet, unbound]

/-- R72, R189: with no impulse in flight the dial moves. -/
theorem dialSet_of_free (bound : (lineOfCode line.toNat).bind s.slotOf = some i)
    (free : (s.slot i).impulse ≠ .inFlight) :
    dialSet line position s = requestSnapshot (recompute i
      (s.setSlot i { s.slot i with dial := some (position.toNat % (s.slot i).modulus) })) := by
  rw [dialSet, bound]
  exact if_neg free

/-- R73: with one in flight the position waits. -/
theorem dialSet_of_flight (bound : (lineOfCode line.toNat).bind s.slotOf = some i)
    (flight : (s.slot i).impulse = .inFlight) :
    dialSet line position s =
      s.setSlot i { s.slot i with pendingSet := some (position.toNat % (s.slot i).modulus) } := by
  rw [dialSet, bound]
  exact if_pos flight

end

/-- The slot bound to a line names it. -/
theorem slotOf_line {l : LineId} {i : SlotId} {s : State} (bound : s.slotOf l = some i) : (s.slot i).line = some l := by
  simpa using List.find?_some bound

/-- R72: a DIAL-SET heard, for this station and loaded. -/
theorem execDialSet_of_own {sender target line : Byte} {position : Half} {n : Station} {s t : State}
    (h : s.hears sender n) (own : targetsOwn s.own target = true) (loaded : s.loaded = true)
    (effect : dialSet line position (s.heardFrom n) = t) :
    exec (.dialSet sender target line position) s = .next (endOfStep t) := by
  refine heard_eq_endOfStep h (((ifTargeted_of_own own).trans (if_pos loaded)).trans effect) ?_
  rw [← effect]
  exact (dialSet_frame line position (s.heardFrom n)).part .za

/-- R61 to R63, R67: a slot rewritten, recomputed, and read after the end of the step, every dial as rewritten. -/
theorem dials_of_moved (i : SlotId) (r : DialSlot) (s : State) (j : SlotId) :
    ((s.setSlot i r).slot j).sameDial ((endOfStep (requestSnapshot (recompute i (s.setSlot i r)))).slot j) := by
  obtain ⟨_, _, started⟩ := (endOfStep_starts j (requestSnapshot (recompute i (s.setSlot i r)))).slot
  rw [started, State.slot_of_du ((requestSnapshot_frame _).part .du)]
  exact recompute_setSlot_dials i r s j

/-- Settles O53: the three cases of `dialSet`; the snapshot is of the dials as the recompute leaves them. -/
theorem dialSetMovesTheDial : Obligations.DialSetMovesTheDial := by
  intro sender target line position n s hears
  refine ⟨fun own loaded => ⟨fun l i code bound => ?_, fun unbound => ?_⟩,
    fun foreign => heard_eq_endOfStep hears (ifTargeted_of_foreign foreign) rfl⟩
  · intro value
    have named : (lineOfCode line.toNat).bind (s.heardFrom n).slotOf = some i := by
      rw [code]
      exact bound
    refine ⟨fun free => ?_, fun flight => execDialSet_of_own hears own loaded (dialSet_of_flight named flight)⟩
    have effect := dialSet_of_free (position := position) named free
    have moved := dials_of_moved i { s.slot i with dial := some value } (s.heardFrom n)
    obtain ⟨-, -, dial, polarity⟩ := moved i
    rw [State.setSlot_slot_same] at dial polarity
    have set := dialSet_frame line position (s.heardFrom n)
    rw [effect] at set
    have ended := set.andThen (endOfStep_frame _)
    refine ⟨_, execDialSet_of_own hears own loaded effect, dial, polarity, ?_, fun j other => ?_,
      ((s.heardFrom_frame n).andThen ended).within⟩
    · exact (snapshotAsked_of_moved (s := s.heardFrom n) (r := { s.slot i with dial := some value })
        (slotOf_line bound) rfl rfl).of_ds ((endOfStep_frame _).part .ds)
    · obtain ⟨-, -, dial', -⟩ := moved j
      rw [State.setSlot_slot_ne _ _ _ _ other] at dial'
      exact dial'
  · have unnamed : (lineOfCode line.toNat).bind (s.heardFrom n).slotOf = none :=
      Option.bind_eq_none_iff.mpr unbound
    exact execDialSet_of_own hears own loaded (dialSet_of_unbound unnamed)

/-! ## SPACING_EXPIRY and WIDTH_EXPIRY -/

/-- R65: the spacing of a slot whose spacing expiry is reached has run out. -/
theorem spaced_of_spacingOut {s : State} {i : SlotId} (out : s.spacingOut i = true) :
    (s.slot i).spaced s.du.spacing s.now = true := by
  unfold State.spacingOut at out
  unfold DialSlot.spaced
  cases start : (s.slot i).lastStart with
  | none => rfl
  | some t => simpa [start, reached] using out

/-- R64, R81: the impulse of a record that calls for one, has none and is spaced, on a line that is OFF. -/
theorem tryImpulse_of_ready {i : SlotId} {l : LineId} {s : State} (running : s.running = true)
    (line : (s.slot i).line = some l) (calls : (s.slot i).calls = true) (free : (s.slot i).impulse = .none)
    (spaced : (s.slot i).spaced s.du.spacing s.now = true) (off : (s.line l).state = .off) :
    tryImpulse i s =
      (s.setLine l { s.line l with
        state := .waiting
        request := some { cls := .clock, width := s.du.width, polarity := (s.slot i).polarity.opposite,
                          requester := .dial i, age := s.now } }).setSlot i { s.slot i with impulse := .waiting } := by
  unfold tryImpulse
  simp [line, running, calls, free, spaced, requestLine, off]

/-- R68, R84: the energize period of an impulse that has run its width. -/
theorem widthExpires_of_impulse {l : LineId} {i : SlotId} {q : EnergizeRequest} {s : State}
    (on : (s.line l).state = .energized) (out : reached (s.line l).energizeEnd s.now = true)
    (request : (s.line l).request = some q) (requester : q.requester = .dial i) :
    widthExpires l s = deliverImpulse i q.polarity (s.setLine l (s.line l).turnedOff) := by
  simp [widthExpires, periodEnds, on, out, request, requester]

/-- Settles O54: the request of `tryImpulse`, and the end of an impulse with one minute more or the pending set. -/
theorem impulseIsAskedForAndDelivered : Obligations.ImpulseIsAskedForAndDelivered := by
  intro i l s up
  refine ⟨fun running line calls free out off => ?_, fun q on out request requester => ?_⟩
  · have opposite : (s.slot i).polarity.opposite = if (s.slot i).polarity = .pos then .neg else .pos := by
      cases (s.slot i).polarity <;> rfl
    have asked := tryImpulse_of_ready running line calls free (spaced_of_spacingOut out) off
    rw [opposite] at asked
    exact change_eq_endOfStep up ((if_pos out).trans asked) rfl
  · have effect := widthExpires_of_impulse on out request requester
    have writes := (s.setLine_frame l (s.line l).turnedOff).andThen (deliverImpulse_frame i q.polarity _)
    obtain ⟨polarity, pending, dial⟩ := endImpulse_slot i
      ((s.slot i).dial.map fun d => (d + 1) % (s.slot i).modulus) q.polarity (s.setLine l (s.line l).turnedOff)
    have ended := endOfStep_frame (deliverImpulse i q.polarity (s.setLine l (s.line l).turnedOff))
    obtain ⟨_, _, slot⟩ :=
      (endOfStep_starts i (deliverImpulse i q.polarity (s.setLine l (s.line l).turnedOff))).slot
    refine ⟨_, change_eq_endOfStep up effect (writes.part .za), ?_, ?_, fun none_ => ⟨?_, ?_⟩,
      fun p some_ => ⟨?_, fun line => ?_⟩, (writes.andThen ended).within⟩
    · rw [slot]
      exact polarity
    · rw [slot]
      exact pending
    · rw [slot]
      exact dial.trans (by rw [State.setLine_slot, none_]; rfl)
    · exact (ended.part .ds).trans (endImpulse_ds (s := s.setLine l (s.line l).turnedOff) none_ _ _)
    · rw [slot]
      exact dial.trans (by rw [State.setLine_slot, some_]; rfl)
    · exact (endImpulse_asked (s := s.setLine l (s.line l).turnedOff) line some_ _ _).of_ds (ended.part .ds)

end Sys2Proof.Machine
end

section
/-! PROOF. OVERCURRENT (R69, R71, R91, R113 to R116): what a FAULT-DISABLED line is left as by the zones' effects and by
the arbiter, and what the line reports. -/

namespace Sys2Proof.Machine

-- one declaration at a time, as in the tests: the threads of a whole text's proofs do not fit the memory limit
set_option Elab.async false

/-! ## A disabled line -/

/-- R91: a FAULT-DISABLED line with its player idle. -/
def LineRecord.disabled (r : LineRecord) : Prop := r.state = .faultDisabled ∧ r.player.state = .idle

theorem LineRecord.overcurrent_disabled (r : LineRecord) : r.overcurrent.disabled := ⟨rfl, rfl⟩

/-- The line stands, if it is disabled. -/
def State.keepsDisabled (l : LineId) (s t : State) : Prop := (s.line l).disabled → t.line l = s.line l

section

variable {l : LineId} {s t u : State}

theorem State.keepsDisabled_refl (l : LineId) (s : State) : s.keepsDisabled l s := fun _ => rfl

theorem State.keepsDisabled.trans (h1 : s.keepsDisabled l t) (h2 : t.keepsDisabled l u) :
    s.keepsDisabled l u := fun disabled => by
  have stands := h1 disabled
  rw [h2 (stands ▸ disabled), stands]

theorem State.keepsDisabled_of_dsq (dsq : s.sameIn t .dsq) : s.keepsDisabled l t := fun _ =>
  State.line_of_dsq dsq l

/-- R88: a player that is idle has nothing to cancel. -/
theorem cancelPlayer_disabled (m : LineId) : s.keepsDisabled l (cancelPlayer m s).1 := fun disabled => by
  by_cases e : m = l
  · subst e
    simp [cancelPlayer, disabled.2]
  · exact cancelPlayer_other m l (Ne.symm e) s

/-- R87: a FAULT-DISABLED line refuses a start. -/
theorem startPlayer_disabled (m : LineId) (pattern : Option (Fin 8)) :
    s.keepsDisabled l (startPlayer m pattern s).1 := fun disabled => by
  by_cases e : m = l
  · subst e
    simp [startPlayer, disabled.1]
  · exact (startPlayer_spares (z := 0) e pattern).line

/-- R89: and a switch-on. -/
theorem pageSwitchOn_disabled (m : LineId) : s.keepsDisabled l (pageSwitchOn m s).1 := fun disabled => by
  by_cases e : m = l
  · subst e
    simp [pageSwitchOn, disabled.1]
  · exact pageSwitchOn_other m l (Ne.symm e) s

/-- R89: a switch-off is of an ENERGIZED line. -/
theorem pageSwitchOff_disabled (m : LineId) : s.keepsDisabled l (pageSwitchOff m s) := fun disabled => by
  by_cases e : m = l
  · subst e
    simp [pageSwitchOff, disabled.1]
  · exact (pageSwitchOff_spares (z := 0) e).line

/-! ## The end of a change -/

theorem cutBellPlayer_disabled (m : LineId) (z : ZoneId) : s.keepsDisabled l (cutBellPlayer m z s) := by
  have cancelled := cancelPlayer_disabled (l := l) (s := s) m
  unfold cutBellPlayer
  split <;> rename_i h <;> rw [h] at cancelled <;> exact cancelled

theorem pageLineOff_disabled (z : ZoneId) : s.keepsDisabled l (pageLineOff z s) := by
  unfold pageLineOff
  split
  · split
    · exact pageSwitchOff_disabled _
    · exact State.keepsDisabled_refl l s
  · exact State.keepsDisabled_refl l s

theorem pageLineOn_disabled (z : ZoneId) : s.keepsDisabled l (pageLineOn z s) := by
  unfold pageLineOn
  split
  · exact pageSwitchOn_disabled _
  · exact State.keepsDisabled_refl l s

theorem sounderOff_disabled (z : ZoneId) : s.keepsDisabled l (sounderOff z s) := by
  unfold sounderOff
  split
  · split
    · exact cancelPlayer_disabled _
    · exact State.keepsDisabled_refl l s
  · exact State.keepsDisabled_refl l s

theorem sounderStart_disabled (z : ZoneId) : s.keepsDisabled l (sounderStart z s) := by
  unfold sounderStart
  split
  · exact startPlayer_disabled _ none
  · exact State.keepsDisabled_refl l s

/-- R113: the effects that stop leave a disabled line. -/
theorem stopEffects_disabled (old : Option Owner) (z : ZoneId) : s.keepsDisabled l (stopEffects old z s) := by
  unfold stopEffects
  split
  · split
    · exact cutBellPlayer_disabled _ z
    · exact State.keepsDisabled_refl l s
  · split
    · exact State.keepsDisabled_refl l s
    · exact pageLineOff_disabled z
  · exact sounderOff_disabled z
  · exact State.keepsDisabled_refl l s
  · exact State.keepsDisabled_refl l s

/-- R113: so do the effects that start. -/
theorem startEffects_disabled (z : ZoneId) : s.keepsDisabled l (startEffects z s) := by
  unfold startEffects
  split
  · exact State.keepsDisabled_refl l s
  · split
    · split
      · exact startPlayer_disabled _ _
      · exact State.keepsDisabled_refl l s
    · exact pageLineOn_disabled z
    · split
      · exact sounderStart_disabled z
      · exact State.keepsDisabled_refl l s
    · exact State.keepsDisabled_refl l s
    · exact State.keepsDisabled_refl l s

theorem settleZone_disabled (old : Zone) (z : ZoneId) : s.keepsDisabled l (settleZone old z s) := by
  have goOn {t : State} (examined : s.keepsDisabled l t) : s.keepsDisabled l
      (if (t.zone z).owner = old.owner then t else startEffects z (stopEffects old.owner z t)) := by
    split
    · exact examined
    · exact (examined.trans (stopEffects_disabled old.owner z)).trans (startEffects_disabled z)
  refine goOn ?_
  split
  · exact State.keepsDisabled_of_dsq ((examineDeferred_frame z s).part .dsq)
  · exact State.keepsDisabled_refl l s

theorem settleZones_disabled (old : Vector Zone 8) : s.keepsDisabled l (settleZones old s) := by
  have each (zones : List ZoneId) (t : State) :
      t.keepsDisabled l (forEach zones (fun z u => settleZone old[z] z u) t) := by
    induction zones generalizing t with
    | nil => exact State.keepsDisabled_refl l t
    | cons z rest ih => exact (settleZone_disabled old[z] z).trans (ih _)
  exact (each allZones s).trans (State.keepsDisabled_of_dsq ((syncTrunk_frame _).part .dsq))

/-- R82, R83: a line that is not WAITING is not granted. -/
theorem arbitrateUpTo_disabled (n : Nat) (s : State) : s.keepsDisabled l (arbitrateUpTo n s) := by
  induction n generalizing s with
  | zero => exact State.keepsDisabled_refl l s
  | succ n ih =>
    unfold arbitrateUpTo
    split
    · exact State.keepsDisabled_refl l s
    · rename_i m rest list
      have waiting : (s.line m).state = .waiting := waiting_of_mem_grantList (by simp [list])
      have granted : s.keepsDisabled l (grant m s) := fun disabled => by
        have other : m ≠ l := fun e => by
          rw [e, disabled.1] at waiting
          cases waiting
        exact (grant_spares (z := 0) other).line
      split
      · exact granted.trans (ih _)
      · exact State.keepsDisabled_refl l s

theorem arbitrate_disabled (s : State) : s.keepsDisabled l (arbitrate s) := by
  unfold arbitrate
  split
  · exact arbitrateUpTo_disabled 16 s
  · exact State.keepsDisabled_refl l s

/-- What a step ends with leaves a disabled line. -/
theorem asOneChange_disabled (f : State → State) (s : State) : (f s).keepsDisabled l (asOneChange f s) :=
  ((settleZones_disabled s.za.zones).trans (arbitrate_disabled _)).trans
    (State.keepsDisabled_of_dsq ((selectNext_frame _).part .dsq))

end

/-! ## The slot of a disabled line -/

/-- R64, R81, R85: a recompute of a slot whose line is FAULT-DISABLED neither asks for that line nor withdraws a
request. -/
theorem recompute_of_faultDisabled {i : SlotId} {l : LineId} {s : State} (line : (s.slot i).line = some l)
    (down : (s.line l).state = .faultDisabled) :
    ∃ state difference, recompute i s = s.setSlot i { s.slot i with state, difference } := by
  have refused (q : EnergizeRequest) (r : DialSlot) : requestLine l q (s.setSlot i r) = (s.setSlot i r, false) := by
    simp [requestLine, down]
  have kept (r : DialSlot) : withdrawRequest l i (s.setSlot i r) = (s.setSlot i r, false) := by
    simp [withdrawRequest, down]
  have tried (r : DialSlot) (bound : r.line = some l) : tryImpulse i (s.setSlot i r) = s.setSlot i r := by
    unfold tryImpulse
    dsimp only
    rw [State.setSlot_slot_same, bound]
    dsimp only
    rw [refused]
    exact ite_self _
  unfold recompute
  rw [line]
  dsimp only
  generalize dialVerdict _ _ _ _ _ = v
  refine ⟨v.1, v.2, ?_⟩
  split
  · exact tried _ line
  · rfl
  · rw [kept]
    exact ite_self _

/-- R69, R71: the abort of an impulse whose line is FAULT-DISABLED leaves every line, and its slot with no impulse. -/
theorem abortImpulse_of_faultDisabled {i : SlotId} {l : LineId} {s : State} (line : (s.slot i).line = some l)
    (down : (s.line l).state = .faultDisabled) :
    (abortImpulse i s).dsq = s.dsq ∧ ((abortImpulse i s).slot i).impulse = .none := by
  have kept := endImpulse_keeps i (s.slot i).dial (s.slot i).polarity s
  generalize ended : (s.slot i).afterImpulse (s.slot i).dial (s.slot i).polarity = r at kept
  have bound : ((s.setSlot i r).slot i).line = some l := by
    rw [State.setSlot_slot_same, ← ended]
    exact line
  obtain ⟨state, difference, made⟩ := recompute_of_faultDisabled bound down
  rw [made] at kept
  have slot : (abortImpulse i s).slot i = { r with state, difference } := by
    refine (State.slot_of_du (kept.part .du) i).trans ?_
    rw [State.setSlot_slot_same, State.setSlot_slot_same]
  refine ⟨kept.part .dsq, ?_⟩
  rw [slot, ← ended]
  rfl

/-- R71: the class change of a FAULT-DISABLED line leaves every line, and the impulse, the position and the
polarity of every slot. -/
theorem classToDial_of_faultDisabled {l : LineId} {s : State} (down : (s.line l).state = .faultDisabled) (i : SlotId) :
    (classToDial l s).dsq = s.dsq ∧ ((classToDial l s).slot i).impulse = (s.slot i).impulse ∧
      ((classToDial l s).slot i).dial = (s.slot i).dial ∧
      ((classToDial l s).slot i).polarity = (s.slot i).polarity := by
  unfold classToDial
  split
  · exact ⟨rfl, rfl, rfl, rfl⟩
  · rename_i j bound
    obtain ⟨state, difference, made⟩ := recompute_of_faultDisabled (slotOf_line bound) down
    rw [made]
    by_cases e : i = j
    · subst e
      rw [State.setSlot_slot_same]
      exact ⟨rfl, rfl, rfl, rfl⟩
    · rw [State.setSlot_slot_ne _ _ _ _ e]
      exact ⟨rfl, rfl, rfl, rfl⟩

/-! ## What the overcurrent reports -/

/-- R81: what State.requestsBound says of one request. -/
theorem State.requestsBound_line {s : State} (bound : s.requestsBound = true) {l : LineId} {q : EnergizeRequest}
    {i : SlotId} (request : (s.line l).request = some q) (requester : q.requester = .dial i) :
    (s.slot i).line = some l := by
  have here := List.all_eq_true.mp bound l (List.mem_finRange l)
  simpa [request, requester] using here

/-- R69, R71: the report of a CLOCK line that held a request of a dial slot. -/
theorem overcurrentReports_of_impulse {l : LineId} {i : SlotId} {q : EnergizeRequest} {old : LineRecord} {s : State}
    (kind : old.kind = .clock) (request : old.request = some q) (requester : q.requester = .dial i) :
    overcurrentReports l old s = classToDial l (abortImpulse i s) := by
  simp [overcurrentReports, kind, request, requester]

/-- R90, R91: what a line reports leaves it as the overcurrent left it. -/
theorem overcurrentReports_line {l : LineId} {old : LineRecord} {s : State} (down : (s.line l).state = .faultDisabled)
    (bound : ∀ (q : EnergizeRequest) (i : SlotId), old.request = some q → q.requester = .dial i →
      (s.slot i).line = some l) :
    (overcurrentReports l old s).line l = s.line l := by
  unfold overcurrentReports
  split
  · split
    · rename_i i requester
      obtain ⟨q, request, asks⟩ := Option.map_eq_some_iff.mp requester
      have aborted : (abortImpulse i s).dsq = s.dsq := (abortImpulse_of_faultDisabled (bound q i request asks) down).1
      have down' : ((abortImpulse i s).line l).state = .faultDisabled := by
        rw [State.line_of_dsq aborted]
        exact down
      exact State.line_of_dsq ((classToDial_of_faultDisabled down' i).1.trans aborted) l
    · exact State.line_of_dsq (classToDial_of_faultDisabled down 0).1 l
  · exact State.line_of_dsq ((playerAborted_frame _ _ s).part .dsq) l
  · exact State.line_of_dsq ((playerAborted_frame _ _ s).part .dsq) l
  · exact State.line_of_dsq ((pageCut_frame _ s).part .dsq) l
  · rfl
  · rfl

/-- R116: a PAGE line that is cut is no longer on at its paged zone. -/
theorem pageCut_of_paged {l : LineId} {z : ZoneId} {s : State} (zone : s.pageZone l = some z)
    (paged : (s.zone z).level.isPage = true) : pageCut l s = s.setZone z { s.zone z with pageOn := false } := by
  rw [pageCut, zone]
  exact if_pos paged

/-- R83, R117: what a step ends with leaves of a zone all but the mark of a bell's start. -/
theorem endOfStep_zone (s : State) (z : ZoneId) : ∃ b, (endOfStep s).zone z = { s.zone z with bellStarted := b } := by
  obtain ⟨b, granted⟩ := (arbitrate_grants (syncTrunk s)).zones z
  exact ⟨b, (State.zone_of_za ((selectNext_frame _).part .za) z).trans granted⟩

/-! ## OVERCURRENT -/

/-- R69, R81, R91: the slot of an impulse that is aborted, through the end of the step: no line is left that holds a
request of it. -/
theorem overcurrent_slot {l : LineId} {i : SlotId} {q : EnergizeRequest} {s : State} (bound : s.requestsBound = true)
    (kind : (s.line l).kind = .clock) (request : (s.line l).request = some q) (requester : q.requester = .dial i) :
    let u := overcurrentReports l (s.line l) (s.setLine l (s.line l).overcurrent)
    u.za = s.za ∧ ((endOfStep u).slot i).impulse = .none ∧
      ((endOfStep u).slot i).polarity = (s.slot i).polarity ∧
      ((endOfStep u).slot i).dial = ((s.slot i).pendingSet.orElse fun _ => (s.slot i).dial) := by
  have line := State.requestsBound_line bound request requester
  have cut : (s.setLine l (s.line l).overcurrent).line l = (s.line l).overcurrent := State.setLine_line_same _ _ _
  have down : ((s.setLine l (s.line l).overcurrent).line l).state = .faultDisabled := by rw [cut]; rfl
  have others (m : LineId) (h : m ≠ l) : (s.setLine l (s.line l).overcurrent).line m = s.line m :=
    State.setLine_line_ne _ _ _ _ h
  have za : (s.setLine l (s.line l).overcurrent).za = s.za := rfl
  have slot : (s.setLine l (s.line l).overcurrent).slot i = s.slot i := rfl
  rw [overcurrentReports_of_impulse kind request requester]
  generalize s.setLine l (s.line l).overcurrent = c at *
  obtain ⟨aborted, gone⟩ := abortImpulse_of_faultDisabled (slot ▸ line) down
  obtain ⟨polarity, -, dial⟩ := endImpulse_slot i (c.slot i).dial (c.slot i).polarity c
  have down' : ((abortImpulse i c).line l).state = .faultDisabled := by
    rw [State.line_of_dsq aborted]
    exact down
  obtain ⟨told, impulse', dial', polarity'⟩ := classToDial_of_faultDisabled down' i
  have unasked : (classToDial l (abortImpulse i c)).unasked i := fun m p held named => by
    rw [State.line_of_dsq (told.trans aborted)] at held
    by_cases e : m = l
    · subst e
      rw [cut] at held
      cases held
    · rw [others m e] at held
      have other := State.requestsBound_line bound held named
      rw [line] at other
      exact e (Option.some.inj other).symm
  have starts := endOfStep_starts i (classToDial l (abortImpulse i c))
  obtain ⟨_, _, written⟩ := starts.slot
  intro u
  refine ⟨?_, (starts.unasked unasked).2.trans (impulse'.trans gone), ?_, ?_⟩
  · exact (((abortImpulse_frame i c).andThen (classToDial_frame l _)).part .za).trans za
  · rw [written]
    exact polarity'.trans (polarity.trans (congrArg DialSlot.polarity slot))
  · rw [written]
    exact dial'.trans (dial.trans (by rw [slot]))

/-- Settles O57: the line is disabled, which neither its reports nor the end of the step undo; a CLOCK line's report
aborts the impulse of its slot, a PAGE line's cuts it at its zone. -/
theorem overcurrentDisablesTheLine : Obligations.OvercurrentDisablesTheLine := by
  intro l s up bound on
  have effect : overcurrentAt l s = overcurrentReports l (s.line l) (s.setLine l (s.line l).overcurrent) := if_pos on
  have cut : (s.setLine l (s.line l).overcurrent).line l = (s.line l).overcurrent := State.setLine_line_same _ _ _
  have reported : (overcurrentAt l s).line l = (s.line l).overcurrent := by
    rw [effect]
    refine (overcurrentReports_line (by rw [cut]; rfl) fun q i request requester => ?_).trans cut
    exact State.requestsBound_line bound request requester
  have ends (zones : ∀ z : ZoneId, ((overcurrentAt l s).zone z).owner = (s.zone z).owner) :
      asOneChange (overcurrentAt l) s = endOfStep (overcurrentAt l s) := asOneChange_same zones
  have step : exec (.overcurrent l) s = .next (asOneChange (overcurrentAt l) s) :=
    congrArg Host.Outcome.next (change_of_up up)
  refine ⟨_, step, ?_, fun q i kind request requester _ => ?_, fun z kind zone paged => ?_,
    (asOneChange_within (overcurrentAt_frame l s)).within⟩
  · refine (asOneChange_disabled (overcurrentAt l) s ?_).trans reported
    rw [reported]
    exact (s.line l).overcurrent_disabled
  · obtain ⟨za, slot⟩ := overcurrent_slot bound kind request requester
    rw [← effect] at za slot
    rw [ends fun z => congrArg Zone.owner (State.zone_of_za za z)]
    exact slot
  · have off : overcurrentAt l s =
        (s.setLine l (s.line l).overcurrent).setZone z { s.zone z with pageOn := false } := by
      rw [effect, overcurrentReports, kind]
      exact pageCut_of_paged (s := s.setLine l (s.line l).overcurrent) zone paged
    have owners (y : ZoneId) : ((overcurrentAt l s).zone y).owner = (s.zone y).owner := by
      rw [off]
      exact (setZone_sameOwners (s := s.setLine l (s.line l).overcurrent) (r := { s.zone z with pageOn := false })
        rfl rfl y).1
    obtain ⟨b, stands⟩ := endOfStep_zone (overcurrentAt l s) z
    rw [ends owners, stands, off, State.setZone_zone_same]

end Sys2Proof.Machine
end

section
/-! PROOF. What the operations of the sequencer, the zones and the dials do to the drive lines (R81, R83, R96): the kind and
the samples of a line stand, a request of a dial slot comes at the line of the slot alone, and the energized count rises
by grants alone. -/

namespace Sys2Proof.Machine

-- one declaration at a time, as in the tests: the threads of a whole text's proofs do not fit the memory limit
set_option Elab.async false

/-! ## Moves of the lines -/

/-- What no request, cancel, switch or grant changes of a line. -/
def LineRecord.sameLine (a b : LineRecord) : Prop :=
  b.kind = a.kind ∧ b.cls = a.cls ∧ b.sampleResult = a.sampleResult ∧ b.sampleRun = a.sampleRun

/-- A request of the dial slot stands at the line. -/
def LineRecord.asks (r : LineRecord) (i : SlotId) : Prop := r.request.map EnergizeRequest.requester = some (.dial i)

/-- R90: the lines that the chime player has taken. -/
def ChimePlayer.taken : ChimePlayer → LineMask
  | .idle => 0
  | .on _ mask _ | .gap _ mask _ => mask

/-- What requests, cancels, switches and grants do: no line changes its kind or its samples, nothing of the sequencer
changes but the lines and the moment of the last grant, zones and slots keep the lines they name, a new request of a slot
stands at the line of the slot, and the energized count passes the budget no further than it did. -/
structure State.Moves (s t : State) : Prop where
  lines : ∀ l : LineId, (s.line l).sameLine (t.line l)
  dsq : t.dsq = { s.dsq with lines := t.dsq.lines, lastGrant := t.dsq.lastGrant }
  pages : ∀ z : ZoneId, (t.zone z).pageLine = (s.zone z).pageLine
  slots : ∀ i : SlotId, (t.slot i).line = (s.slot i).line
  asks : ∀ (l : LineId) (i : SlotId), (t.line l).asks i → (s.line l).asks i ∨ (s.slot i).line = some l
  count : s.wired = true → t.energizedCount ≤ max s.energizedCount s.dsq.budget

theorem LineRecord.sameLine_refl (a : LineRecord) : a.sameLine a := ⟨rfl, rfl, rfl, rfl⟩

theorem LineRecord.sameLine.trans {a b c : LineRecord} (h1 : a.sameLine b) (h2 : b.sameLine c) : a.sameLine c := by
  obtain ⟨kind, cls, result, run⟩ := h1
  obtain ⟨kind', cls', result', run'⟩ := h2
  exact ⟨kind'.trans kind, cls'.trans cls, result'.trans result, run'.trans run⟩

section

variable {s t u : State}

/-- What State.wired says, zone by zone and line by line. -/
theorem State.wired_iff : s.wired = true ↔
    (∀ (z : ZoneId) (l : LineId), (s.zone z).pageLine = some l → (s.line l).kind = .page) ∧
    ∀ l : LineId, inLines s.dsq.chime.taken l = true → (s.line l).kind = .chime := by
  have chime (mask : LineMask) : (allLines.all fun l => !inLines mask l || (s.line l).kind == .chime) = true ↔
      ∀ l : LineId, inLines mask l = true → (s.line l).kind = .chime := by
    rw [List.all_eq_true]
    refine ⟨fun h l taken => ?_, fun h l _ => ?_⟩
    · simpa [taken] using h l (List.mem_finRange l)
    · cases taken : inLines mask l with
      | false => rfl
      | true => simpa using h l taken
  unfold State.wired
  rw [Bool.and_eq_true, List.all_eq_true]
  refine and_congr ⟨fun h z l named => ?_, fun h z _ => ?_⟩ ?_
  · simpa [named] using h z (mem_allZones z)
  · cases named : (s.zone z).pageLine with
    | none => rfl
    | some l => simpa using h z l named
  · cases s.dsq.chime with
    | idle => simp [ChimePlayer.taken, inLines]
    | on phase mask ends => exact chime mask
    | gap phase mask ends => exact chime mask

theorem State.requestsBound_iff : s.requestsBound = true ↔
    ∀ (l : LineId) (i : SlotId), (s.line l).asks i → (s.slot i).line = some l := by
  unfold State.requestsBound LineRecord.asks
  rw [List.all_eq_true]
  refine ⟨fun h l i asks => ?_, fun h l _ => ?_⟩
  · simpa [asks] using h l (List.mem_finRange l)
  · split
    · rename_i i asks
      simpa using h l i asks
    · rfl
    · rfl

theorem State.Moves.refl (s : State) : s.Moves s where
  lines l := (s.line l).sameLine_refl
  dsq := rfl
  pages _ := rfl
  slots _ := rfl
  asks _ _ := .inl
  count _ := Nat.le_max_left _ _

theorem State.Moves.wired (h : s.Moves t) (wired : s.wired = true) : t.wired = true := by
  rw [State.wired_iff] at *
  have kinds (l : LineId) : (t.line l).kind = (s.line l).kind := (h.lines l).1
  have chime : t.dsq.chime = s.dsq.chime := by rw [h.dsq]
  simp only [h.pages, kinds, chime]
  exact wired

theorem State.Moves.trans (h1 : s.Moves t) (h2 : t.Moves u) : s.Moves u where
  lines l := (h1.lines l).trans (h2.lines l)
  dsq := by rw [h2.dsq, h1.dsq]
  pages z := (h2.pages z).trans (h1.pages z)
  slots i := (h2.slots i).trans (h1.slots i)
  asks l i asked := by
    rcases h2.asks l i asked with before | named
    · exact h1.asks l i before
    · exact .inr ((h1.slots i).symm.trans named)
  count wired := by
    have first := h1.count wired
    have second := h2.count (h1.wired wired)
    have budget : t.dsq.budget = s.dsq.budget := by rw [h1.dsq]
    omega

/-- What leaves the lines, the pages of the zones and the lines of the slots. -/
theorem State.Moves.of_same (dsq : t.dsq = s.dsq) (pages : ∀ z, (t.zone z).pageLine = (s.zone z).pageLine)
    (slots : ∀ i, (t.slot i).line = (s.slot i).line) : s.Moves t where
  lines l := by rw [State.line_of_dsq dsq]; exact LineRecord.sameLine_refl _
  dsq := by rw [dsq]
  pages := pages
  slots := slots
  asks l i asked := by rw [State.line_of_dsq dsq] at asked; exact .inl asked
  count _ := by simp [State.energizedCount, State.line_of_dsq dsq]

/-- What writes neither the sequencer, nor the zones, nor the dials. -/
theorem State.keepsAllBut.moves {parts : List Part} (h : s.keepsAllBut parts t) (dsq : Part.dsq ∉ parts := by decide)
    (za : Part.za ∉ parts := by decide) (du : Part.du ∉ parts := by decide) : s.Moves t :=
  .of_same (h .dsq dsq) (fun z => by rw [State.zone_of_za (h .za za)]) fun i => by rw [State.slot_of_du (h .du du)]

theorem State.Moves.frame {parts : List Part} (h : s.Moves t) (next : t.keepsAllBut parts u)
    (dsq : Part.dsq ∉ parts := by decide) (za : Part.za ∉ parts := by decide) (du : Part.du ∉ parts := by decide) :
    s.Moves u :=
  h.trans (next.moves dsq za du)

theorem setZone_moves {z : ZoneId} {r : Zone} (page : r.pageLine = (s.zone z).pageLine) : s.Moves (s.setZone z r) := by
  refine .of_same rfl (fun y => ?_) fun _ => rfl
  by_cases e : y = z
  · subst e
    rw [State.setZone_zone_same, page]
  · rw [State.setZone_zone_ne _ _ _ _ e]

theorem setSlot_moves {i : SlotId} {r : DialSlot} (line : r.line = (s.slot i).line) : s.Moves (s.setSlot i r) := by
  refine .of_same rfl (fun _ => rfl) fun j => ?_
  by_cases e : j = i
  · subst e
    rw [State.setSlot_slot_same, line]
  · rw [State.setSlot_slot_ne _ _ _ _ e]

/-- R83: the energized count where no counted line is newly ENERGIZED. -/
theorem energizedCount_le (h : ∀ l : LineId, (t.line l).kind.counted = true → (t.line l).state = .energized →
    (s.line l).kind.counted = true ∧ (s.line l).state = .energized) : t.energizedCount ≤ s.energizedCount := by
  unfold State.energizedCount
  rw [← List.countP_eq_length_filter, ← List.countP_eq_length_filter]
  refine List.countP_mono_left fun l _ on => ?_
  simp only [Bool.and_eq_true, beq_iff_eq] at on ⊢
  exact h l on.1 on.2

/-- A line rewritten that is not newly ENERGIZED, or is not counted, and has no new request of a slot of another line. -/
theorem setLine_moves {l : LineId} {r : LineRecord} (same : (s.line l).sameLine r)
    (on : s.wired = true → r.state = .energized → (s.line l).state = .energized ∨ (s.line l).kind.counted = false)
    (asks : ∀ i, r.asks i → (s.line l).asks i ∨ (s.slot i).line = some l) : s.Moves (s.setLine l r) where
  lines m := by
    by_cases e : m = l
    · subst e
      rw [State.setLine_line_same]
      exact same
    · rw [State.setLine_line_ne _ _ _ _ e]
      exact LineRecord.sameLine_refl _
  dsq := rfl
  pages _ := rfl
  slots _ := rfl
  asks m i asked := by
    by_cases e : m = l
    · subst e
      rw [State.setLine_line_same] at asked
      exact asks i asked
    · rw [State.setLine_line_ne _ _ _ _ e] at asked
      exact .inl asked
  count wired := by
    refine (energizedCount_le fun m counted energized => ?_).trans (Nat.le_max_left _ _)
    by_cases e : m = l
    · subst e
      rw [State.setLine_line_same] at counted energized
      rw [same.1] at counted
      rcases on wired energized with was | free
      · exact ⟨counted, was⟩
      · rw [free] at counted
        cases counted
    · rw [State.setLine_line_ne _ _ _ _ e] at counted energized
      exact ⟨counted, energized⟩

theorem turnedOff_moves (l : LineId) (p : Player) : s.Moves (s.setLine l { (s.line l).turnedOff with player := p }) :=
  setLine_moves (LineRecord.sameLine_refl _) (fun _ on => by cases on) fun i asks => by cases asks

theorem setPlayer_moves (l : LineId) (p : Player) : s.Moves (s.setLine l { s.line l with player := p }) :=
  setLine_moves (LineRecord.sameLine_refl _) (fun _ on => .inl on) fun _ asks => .inl asks

theorem forEach_moves {α : Type} {f : α → State → State} (each : ∀ (a : α) (s : State), s.Moves (f a s)) (items : List α)
    (s : State) : s.Moves (forEach items f s) := by
  induction items generalizing s with
  | nil => exact .refl s
  | cons a rest ih => exact (each a s).trans (ih (f a s))

end

/-! ## Requests, cancels and switches -/

/-- R81: a request that a slot makes is at the line of the slot. -/
theorem requestLine_moves {l : LineId} {q : EnergizeRequest} {s : State}
    (asks : ∀ i, q.requester = .dial i → (s.slot i).line = some l) : s.Moves (requestLine l q s).1 := by
  obtain ⟨-, -, asked⟩ | ⟨-, refused⟩ := requestLine_cases l q s
  · rw [asked]
    refine setLine_moves (LineRecord.sameLine_refl _) (fun _ on => by cases on) fun i named => .inr (asks i ?_)
    exact Option.some.inj named
  · rw [refused]
    exact .refl s

theorem withdrawRequest_moves (l : LineId) (i : SlotId) (s : State) : s.Moves (withdrawRequest l i s).1 := by
  unfold withdrawRequest
  dsimp only
  generalize (_ && _ : Bool) = mine
  cases mine
  · exact .refl s
  · exact turnedOff_moves l _

theorem cancelPlayer_moves (l : LineId) (s : State) : s.Moves (cancelPlayer l s).1 := by
  unfold cancelPlayer
  dsimp only
  split
  · exact .refl s
  · exact setPlayer_moves l _
  · exact turnedOff_moves l _
  · exact turnedOff_moves l _

theorem requestPhase_moves (l : LineId) (age : Nat) (s : State) : s.Moves (requestPhase l age s).1 := by
  have asked := requestLine_moves (l := l) (s := s)
    (q := { cls := if (s.line l).player.pattern.isSome then .bell else .sounder,
            width := s.dsq.playerWidth (s.line l).player, polarity := .pos, requester := .player, age }) nofun
  unfold requestPhase
  dsimp only
  split <;> rename_i _ h <;> rw [h] at asked <;> exact asked.trans (setPlayer_moves l _)

theorem startPlayer_moves (l : LineId) (pattern : Option (Fin 8)) (s : State) :
    s.Moves (startPlayer l pattern s).1 := by
  unfold startPlayer
  split
  · exact .refl s
  · exact ((cancelPlayer_moves l s).trans (setPlayer_moves l _)).trans (requestPhase_moves l _ _)

theorem pageSwitchOff_moves (l : LineId) (s : State) : s.Moves (pageSwitchOff l s) := by
  unfold pageSwitchOff
  split
  · exact turnedOff_moves l _
  · exact .refl s

/-- R83, R89: a PAGE line is no counted line. -/
theorem pageSwitchOn_moves {l : LineId} {s : State} (page : s.wired = true → (s.line l).kind = .page) :
    s.Moves (pageSwitchOn l s).1 := by
  unfold pageSwitchOn
  split
  · exact .refl s
  · split
    · refine setLine_moves (LineRecord.sameLine_refl _) (fun wired _ => .inr ?_) fun _ asks => .inl asks
      rw [page wired]
      rfl
    · exact .refl s

/-! ## The effects of the zones -/

theorem cutBellPlayer_moves (l : LineId) (z : ZoneId) (s : State) : s.Moves (cutBellPlayer l z s) := by
  have cancelled := cancelPlayer_moves l s
  unfold cutBellPlayer
  split <;> rename_i h <;> rw [h] at cancelled
  · exact cancelled.trans (setZone_moves rfl)
  · exact cancelled

theorem pageLineOff_moves (z : ZoneId) (s : State) : s.Moves (pageLineOff z s) := by
  unfold pageLineOff
  split
  · split
    · exact (pageSwitchOff_moves _ s).trans (setZone_moves rfl)
    · exact .refl s
  · exact .refl s

theorem pageLineOn_moves (z : ZoneId) (s : State) : s.Moves (pageLineOn z s) := by
  unfold pageLineOn
  split
  · rename_i l named
    exact (pageSwitchOn_moves fun wired => (State.wired_iff.mp wired).1 z l named).trans (setZone_moves rfl)
  · exact .refl s

theorem sounderOff_moves (z : ZoneId) (s : State) : s.Moves (sounderOff z s) := by
  unfold sounderOff
  split
  · split
    · exact (cancelPlayer_moves _ s).trans (setZone_moves rfl)
    · exact .refl s
  · exact .refl s

theorem sounderStart_moves (z : ZoneId) (s : State) : s.Moves (sounderStart z s) := by
  unfold sounderStart
  split
  · exact (startPlayer_moves _ none s).trans (setZone_moves rfl)
  · exact .refl s

theorem stopEffects_moves (old : Option Owner) (z : ZoneId) (s : State) : s.Moves (stopEffects old z s) := by
  unfold stopEffects
  split
  · split
    · exact cutBellPlayer_moves _ z s
    · exact .refl s
  · split
    · exact .refl s
    · exact pageLineOff_moves z s
  · exact sounderOff_moves z s
  · exact .refl s
  · exact .refl s

theorem startEffects_moves (z : ZoneId) (s : State) : s.Moves (startEffects z s) := by
  unfold startEffects
  split
  · exact .refl s
  · split
    · split
      · exact startPlayer_moves _ _ s
      · exact .refl s
    · exact pageLineOn_moves z s
    · split
      · exact sounderStart_moves z s
      · exact .refl s
    · exact .refl s
    · exact .refl s

/-! ## The hold stacks -/

theorem bellMissed_moves (b : Bell) (s : State) : s.Moves (bellMissed b s) := (bellMissed_frame b s).moves

theorem popZone_moves (z : ZoneId) (s : State) : s.Moves (popZone z s) := setZone_moves rfl

theorem releaseAt_moves (is : Owner → Bool) (z : ZoneId) (s : State) : s.Moves (releaseAt is z s) := by
  have filtered : s.Moves (s.setZone z { s.zone z with stack := (s.zone z).stack.filter fun o => !is o }) :=
    setZone_moves rfl
  unfold releaseAt
  dsimp only
  split
  · split
    · exact filtered.trans (popZone_moves z _)
    · exact filtered
  · exact filtered

theorem releaseEverywhere_moves (is : Owner → Bool) (s : State) : s.Moves (releaseEverywhere is s) :=
  forEach_moves (releaseAt_moves is) allZones s

theorem displace_moves (toYield : Bool) (new : Owner) (z : ZoneId) (s : State) : s.Moves (displace toYield new z s) := by
  unfold displace
  dsimp only
  split
  · exact setZone_moves rfl
  · split
    · refine State.Moves.trans ?_ (bellMissed_moves _ _)
      exact setZone_moves rfl
    · exact setZone_moves rfl
  · exact setZone_moves rfl

theorem bellRequest_moves (b : Bell) (z : ZoneId) (s : State) : s.Moves (bellRequest b z s) := by
  have missed := bellMissed_moves b s
  unfold bellRequest
  dsimp only
  split
  · exact missed
  · split
    · exact missed
    · split
      · exact missed
      · split
        · exact missed
        · exact setZone_moves rfl
        · exact .refl s
        all_goals exact setZone_moves rfl

theorem pageRequest_moves (holder : Station) (number : Byte) (cls : FloorClass) (z : ZoneId) (s : State) :
    s.Moves (pageRequest holder number cls z s).1 := by
  have released := releaseAt_moves (fun o => o.anyFloor && !o.isFloor holder number) z s
  unfold pageRequest
  split
  · exact .refl s
  · dsimp only
    split
    · exact released
    · split
      · exact released
      · split
        · exact released
        · split
          · exact released.trans (displace_moves false _ z _)
          · exact released

theorem drillRequest_moves (initiator : Station) (number : Byte) (z : ZoneId) (s : State) :
    s.Moves (drillRequest initiator number z s) := by
  have released := releaseAt_moves (fun o => o.anyDrill && !o.isDrill initiator number) z s
  have stacked (stack : List Owner) := released.trans (setZone_moves (z := z)
    (r := { (releaseAt (fun o => o.anyDrill && !o.isDrill initiator number) z s).zone z with stack }) rfl)
  unfold drillRequest
  split
  · exact .refl s
  · dsimp only
    split
    · exact released
    · split
      case h_5 | h_6 =>
        split
        · exact stacked _
        · exact released
      all_goals exact released.trans (displace_moves false _ z _)

theorem yieldRequest_moves (z : ZoneId) (s : State) : s.Moves (yieldRequest z s) := by
  unfold yieldRequest
  split
  · exact .refl s
  · have cleared : s.Moves (s.setZone z { s.zone z with deferred := none }) := setZone_moves rfl
    dsimp only
    split
    · exact (cleared.trans (bellMissed_moves _ _)).trans (displace_moves true _ z _)
    · exact cleared.trans (displace_moves true _ z _)

theorem examineDeferred_moves (z : ZoneId) (s : State) : s.Moves (examineDeferred z s) := by
  unfold examineDeferred
  dsimp only
  split
  · exact .refl s
  · have cleared : s.Moves (s.setZone z { s.zone z with deferred := none }) := setZone_moves rfl
    have missed (b : Bell) := cleared.trans (bellMissed_moves b _)
    split
    · exact missed _
    · split
      · exact missed _
      · split
        · refine cleared.trans (setZone_moves ?_)
          rw [State.setZone_zone_same]
        · exact missed _

theorem settleZone_moves (old : Zone) (z : ZoneId) (s : State) : s.Moves (settleZone old z s) := by
  have goOn {t : State} (examined : s.Moves t) : s.Moves
      (if (t.zone z).owner = old.owner then t else startEffects z (stopEffects old.owner z t)) := by
    split
    · exact examined
    · exact (examined.trans (stopEffects_moves old.owner z t)).trans (startEffects_moves z _)
  refine goOn ?_
  split
  · exact examineDeferred_moves z s
  · exact .refl s

theorem syncTrunk_moves (s : State) : s.Moves (syncTrunk s) := .of_same rfl (fun _ => rfl) fun _ => rfl

theorem settleZones_moves (old : Vector Zone 8) (s : State) : s.Moves (settleZones old s) :=
  (forEach_moves (fun z t => settleZone_moves old[z] z t) allZones s).trans (syncTrunk_moves _)

/-! ## Grants -/

/-- R67, R84: a slot that a grant starts keeps its line. -/
theorem reportStarted_slotLine (l : LineId) (q : EnergizeRequest) (s : State) (i : SlotId) :
    ((reportStarted l q s).slot i).line = (s.slot i).line := by
  obtain ⟨⟨_, _, written⟩, -⟩ := reportStarted_slot l q s i
  rw [written]

theorem reportStarted_dsq (l : LineId) (q : EnergizeRequest) (s : State) :
    (reportStarted l q s).dsq = { s.dsq with lines := (reportStarted l q s).dsq.lines } := by
  unfold reportStarted
  split
  · rfl
  · dsimp only
    split
    · exact congrArg (fun d : Sequencer => { s.dsq with lines := d.lines }) ((bellStarted_frame l _).part .dsq).symm ▸
        ((bellStarted_frame l _).part .dsq)
    · rfl

/-- R83, R84: a grant of a WAITING line with room in the budget. -/
theorem grant_moves {l : LineId} {s : State} (waiting : (s.line l).state = .waiting)
    (room : s.energizedCount < s.dsq.budget) : s.Moves (grant l s) := by
  have granted := grant_grants waiting room
  have requests := grant_request l
  cases request : (s.line l).request with
  | none => simpa [grant, request] using State.Moves.refl s
  | some q =>
    rw [grant_of_request request] at granted ⊢
    obtain ⟨others, p, started⟩ := reportStarted_line l q (s.switchedOn l q)
    have on : (s.switchedOn l q).line l = { s.line l with state := .energized, energizeEnd := some (s.now + q.width) } :=
      State.setLine_line_same _ _ _
    exact {
      lines m := by
        by_cases e : m = l
        · subst e
          rw [started, on]
          exact LineRecord.sameLine_refl _
        · rw [others m e, show (s.switchedOn l q).line m = s.line m from State.setLine_line_ne _ _ _ _ e]
          exact LineRecord.sameLine_refl _
      dsq := by
        rw [reportStarted_dsq]
        rfl
      pages z := by
        obtain ⟨_, zone⟩ := granted.zones z
        rw [zone]
      slots i := reportStarted_slotLine l q _ i
      asks m i asked := by
        rw [← grant_of_request request, LineRecord.asks, requests] at asked
        exact .inl asked
      count _ := granted.count }

theorem arbitrateUpTo_moves (n : Nat) (s : State) : s.Moves (arbitrateUpTo n s) := by
  induction n generalizing s with
  | zero => exact .refl s
  | succ n ih =>
    unfold arbitrateUpTo
    split
    · exact .refl s
    · rename_i l rest list
      split
      · rename_i may
        simp only [State.mayGrant, Bool.and_eq_true, decide_eq_true_eq] at may
        exact (grant_moves (waiting_of_mem_grantList (by simp [list])) may.1).trans (ih _)
      · exact .refl s

theorem arbitrate_moves (s : State) : s.Moves (arbitrate s) := by
  unfold arbitrate
  split
  · exact arbitrateUpTo_moves 16 s
  · exact .refl s

theorem endOfStep_moves (s : State) : s.Moves (endOfStep s) :=
  ((syncTrunk_moves s).trans (arbitrate_moves _)).frame (selectNext_frame _)

/-- What every step that is one change ends with. -/
theorem asOneChange_moves (f : State → State) (s : State) : (f s).Moves (asOneChange f s) :=
  ((settleZones_moves s.za.zones (f s)).trans (arbitrate_moves _)).frame (selectNext_frame _)

end Sys2Proof.Machine
end

section
/-! PROOF. The players of the lines and the chime (R84, R86, R87, R90): the ends of on-phases and gaps, and what the end of a
step leaves of a line that does not wait. -/

namespace Sys2Proof.Machine

-- one declaration at a time, as in the tests: the threads of a whole text's proofs do not fit the memory limit
set_option Elab.async false

/-! ## Lines that do not wait -/

/-- R82, R83: a line that is not WAITING is not granted. -/
theorem grant_line_of_waiting {l m : LineId} {s : State} (waiting : (s.line m).state = .waiting)
    (rest : (s.line l).state ≠ .waiting) : (grant m s).line l = s.line l :=
  (grant_spares (z := 0) fun e : m = l => rest (e ▸ waiting)).line

theorem arbitrateUpTo_line (n : Nat) {l : LineId} {s : State} (rest : (s.line l).state ≠ .waiting) :
    (arbitrateUpTo n s).line l = s.line l := by
  induction n generalizing s with
  | zero => rfl
  | succ n ih =>
    unfold arbitrateUpTo
    split
    · rfl
    · rename_i m others list
      have granted := grant_line_of_waiting (waiting_of_mem_grantList (l := m) (by simp [list])) rest
      split
      · rw [ih (by rwa [granted]), granted]
      · rfl

theorem arbitrate_line {l : LineId} {s : State} (rest : (s.line l).state ≠ .waiting) :
    (arbitrate s).line l = s.line l := by
  unfold arbitrate
  split
  · exact arbitrateUpTo_line 16 rest
  · rfl

theorem endOfStep_line {l : LineId} {s : State} (rest : (s.line l).state ≠ .waiting) :
    (endOfStep s).line l = s.line l :=
  (State.line_of_dsq ((selectNext_frame _).part .dsq) l).trans (arbitrate_line (s := syncTrunk s) rest)

/-! ## The players -/

/-- R84: a line whose energize period has run its width. -/
theorem widthExpires_of_out {l : LineId} {q : EnergizeRequest} {s : State} (on : (s.line l).state = .energized)
    (out : reached (s.line l).energizeEnd s.now = true) (request : (s.line l).request = some q) :
    widthExpires l s = periodEnds l q s := by
  simp [widthExpires, on, out, request]

/-- R84, R87: the period of a player's request turns the line off and ends an on-phase. -/
theorem periodEnds_of_player {l : LineId} {q : EnergizeRequest} {s : State} (requester : q.requester = .player) :
    periodEnds l q s = playerPhaseEnds l (s.setLine l (s.line l).turnedOff) := by
  simp [periodEnds, requester]

theorem setLine_setLine (s : State) (l : LineId) (a b : LineRecord) : (s.setLine l a).setLine l b = s.setLine l b := by
  simp [State.setLine]

/-- R87: an on-phase with more to come. -/
theorem playerPhaseEnds_of_more {l : LineId} {s : State} (more : s.dsq.playerLast (s.line l).player = false) :
    playerPhaseEnds l s = s.setLine l { s.line l with
      player := { (s.line l).player with state := .gap (s.now + s.dsq.playerGap (s.line l).player) } } := by
  simp [playerPhaseEnds, more]

/-- R87, R114: the last on-phase of a bell pattern. -/
theorem playerPhaseEnds_of_last {l : LineId} {s : State} (last : s.dsq.playerLast (s.line l).player = true) :
    playerPhaseEnds l s =
      bellFinished l (s.setLine l { s.line l with player := { (s.line l).player with state := .idle } }) := by
  simp [playerPhaseEnds, last]

/-- R84, R87: the line of a player whose on-phase, with more to come, has run its width. -/
def LineRecord.betweenPhases (r : LineRecord) (ends : Nat) : LineRecord :=
  { r with state := .off, request := none, energizeEnd := none, player := { r.player with state := .gap ends } }

/-- R84, R87: the line of a bell that has run to its end. -/
def LineRecord.ranOut (r : LineRecord) : LineRecord :=
  { r with state := .off, request := none, energizeEnd := none, player := { r.player with state := .idle } }

theorem widthExpires_of_more {l : LineId} {q : EnergizeRequest} {s : State} (on : (s.line l).state = .energized)
    (out : reached (s.line l).energizeEnd s.now = true) (request : (s.line l).request = some q)
    (requester : q.requester = .player) (more : s.dsq.playerLast (s.line l).player = false) :
    widthExpires l s =
      s.setLine l ((s.line l).betweenPhases (s.now + s.dsq.playerGap (s.line l).player)) := by
  have off : (s.setLine l (s.line l).turnedOff).line l = (s.line l).turnedOff := State.setLine_line_same _ _ _
  rw [widthExpires_of_out on out request, periodEnds_of_player requester,
    playerPhaseEnds_of_more (by rw [off]; exact more), setLine_setLine, off]
  rfl

theorem widthExpires_of_last {l : LineId} {q : EnergizeRequest} {s : State} (on : (s.line l).state = .energized)
    (out : reached (s.line l).energizeEnd s.now = true) (request : (s.line l).request = some q)
    (requester : q.requester = .player) (last : s.dsq.playerLast (s.line l).player = true) :
    widthExpires l s = bellFinished l (s.setLine l (s.line l).ranOut) := by
  have off : (s.setLine l (s.line l).turnedOff).line l = (s.line l).turnedOff := State.setLine_line_same _ _ _
  rw [widthExpires_of_out on out request, periodEnds_of_player requester,
    playerPhaseEnds_of_last (by rw [off]; exact last), setLine_setLine, off]
  rfl

/-- R114: the bell of the zone has rung to its end. -/
theorem bellFinished_of_bell {l : LineId} {z : ZoneId} {b : Bell} {s : State} (zone : s.bellZone l = some z)
    (bell : (s.zone z).owner = some (.bell b)) : bellFinished l s = popZone z s := by
  simp [bellFinished, zone, bell]

/-- R109, R114: a bell that was cut short has ended. -/
theorem bellFinished_of_cut {l : LineId} {z : ZoneId} {b : Bell} {s : State} (zone : s.bellZone l = some z)
    (other : ∀ d, (s.zone z).owner ≠ some (.bell d)) (cut : (s.zone z).cutBell = some b) :
    bellFinished l s = s.setZone z { s.zone z with
      cutBell := none, deferred := if (s.zone z).deferred = some b then none else (s.zone z).deferred } := by
  unfold bellFinished
  rw [zone]
  dsimp only
  split
  · rename_i d bell
    exact absurd bell (other d)
  · rw [cut]
    rfl

/-- R87: the gap of a player is over on a line that is OFF. -/
theorem gapEnds_of_out {l : LineId} {ends : Nat} {s : State} (gap : (s.line l).player.state = .gap ends)
    (out : ends ≤ s.now) (running : s.running = true) (off : (s.line l).state = .off) :
    gapEnds l s = s.setLine l { s.line l with
      state := .waiting
      request := some
        { cls := if (s.line l).player.pattern.isSome then .bell else .sounder
          width := s.dsq.playerWidth { (s.line l).player with phase := (s.line l).player.phase + 1 }
          polarity := .pos
          requester := .player
          age := ends }
      player := { (s.line l).player with phase := (s.line l).player.phase + 1, state := .onWait } } := by
  simp [gapEnds, gap, out, requestPhase, requestLine, running, off, setLine_setLine]
  rfl

/-! ## A bell that ends -/

/-- R103: below a bell no owner stands on the stack. -/
theorem stack_of_bell {r : Zone} {b : Bell} (lawful : r.lawful = true) (bell : r.owner = some (.bell b)) :
    r.stack = [] := by
  simp only [Zone.lawful, Bool.and_eq_true, List.all_eq_true, decide_eq_true_eq, Bool.or_eq_true] at lawful
  obtain ⟨-, entries⟩ := lawful
  refine List.eq_nil_iff_forall_not_mem.mpr fun o mem => ?_
  obtain ⟨low, kind⟩ := entries o mem
  rw [Zone.level, bell] at low
  cases o with
  | floor h n c => cases c <;> simp [Owner.level, FloorClass.level, Level.rank] at low
  | drill i n => simp [Owner.level, Level.rank] at low
  | bell d => simp [Owner.anyFloor, Owner.anyDrill] at kind
  | yield => simp [Owner.anyFloor, Owner.anyDrill] at kind

/-- R88: a player that is idle has nothing to cancel. -/
theorem cancelPlayer_of_idle {l : LineId} {s : State} (idle : (s.line l).player.state = .idle) :
    cancelPlayer l s = (s, false) := by
  simp [cancelPlayer, idle]

theorem startEffects_of_none {z : ZoneId} {s : State} (free : (s.zone z).owner = none) : startEffects z s = s := by
  simp [startEffects, free]

/-- R112, R113: a zone whose bell has ended, with no bell deferred and the player of its line idle, has nothing to
settle. -/
theorem settleZone_of_bell_over {old : Zone} {z : ZoneId} {l : LineId} {b : Bell} {s : State}
    (was : old.owner = some (.bell b)) (free : (s.zone z).owner = none) (undeferred : (s.zone z).deferred = none)
    (line : (s.zone z).bellLine = some l) (idle : (s.line l).player.state = .idle) : settleZone old z s = s := by
  have examined : examineDeferred z s = s := by simp [examineDeferred, undeferred]
  have stopped : stopEffects old.owner z s = s := by
    simp [stopEffects, was, line, cutBellPlayer, cancelPlayer_of_idle idle]
  unfold settleZone
  rw [free, was, examined]
  simp only [Option.isNone_none, Option.isSome_some, Bool.and_self, if_true, free, reduceCtorEq, if_false]
  rw [← was, stopped, startEffects_of_none free]

/-- A step's effect after which no zone has anything to settle ends with `endOfStep`. -/
theorem asOneChange_settled {f : State → State} {s : State}
    (settled : ∀ z : ZoneId, settleZone s.za.zones[z] z (f s) = f s) : asOneChange f s = endOfStep (f s) := by
  unfold asOneChange settleZones endOfStep
  rw [forEach_same fun z _ => settled z]

/-- R87, R112, R114: the step in which the bell of a zone rings to its end, with no bell deferred. -/
theorem bellEnds_endOfStep {l : LineId} {z : ZoneId} {b : Bell} {q : EnergizeRequest} {s : State}
    (on : (s.line l).state = .energized) (out : reached (s.line l).energizeEnd s.now = true)
    (request : (s.line l).request = some q) (requester : q.requester = .player)
    (last : s.dsq.playerLast (s.line l).player = true) (zone : s.bellZone l = some z)
    (bell : (s.zone z).owner = some (.bell b)) (lawful : (s.zone z).lawful = true)
    (undeferred : (s.zone z).deferred = none) :
    asOneChange (widthExpires l) s = endOfStep ((s.setLine l (s.line l).ranOut).setZone z
      { s.zone z with owner := none, stack := [], bellStarted := false }) := by
  have named : (s.zone z).bellLine = some l := by simpa using List.find?_some zone
  have effect : widthExpires l s = (s.setLine l (s.line l).ranOut).setZone z
      { s.zone z with owner := none, stack := [], bellStarted := false } := by
    rw [widthExpires_of_last on out request requester last,
      bellFinished_of_bell (s := s.setLine l (s.line l).ranOut) zone bell]
    simp [popZone, stack_of_bell lawful bell, popStack]
  rw [asOneChange_settled, effect]
  intro y
  rw [effect]
  by_cases e : y = z
  · subst e
    have here : ((s.setLine l (s.line l).ranOut).setZone y
      { s.zone y with owner := none, stack := [], bellStarted := false }).zone y =
        { s.zone y with owner := none, stack := [], bellStarted := false } := State.setZone_zone_same _ _ _
    refine settleZone_of_bell_over (l := l) bell ?_ ?_ ?_ ?_
    · rw [here]
    · rw [here]; exact undeferred
    · rw [here]; exact named
    · exact congrArg (fun r : LineRecord => r.player.state) (State.setLine_line_same s l (s.line l).ranOut)
  · exact settleZone_same (congrArg Zone.owner
      (State.setZone_zone_ne (s.setLine l (s.line l).ranOut) z y _ e))

/-! ## The chime -/

/-- What a switch of each line on its own leaves of a line. -/
theorem forEach_line {f : LineId → State → State} {g : LineId → LineRecord → LineRecord}
    (same : ∀ (l : LineId) (t : State), (f l t).line l = g l (t.line l))
    (other : ∀ (l m : LineId) (t : State), m ≠ l → (f l t).line m = t.line m) {lines : List LineId}
    (nodup : lines.Nodup) (m : LineId) (s : State) :
    (forEach lines f s).line m = if m ∈ lines then g m (s.line m) else s.line m := by
  induction lines generalizing s with
  | nil => rfl
  | cons l rest ih =>
    obtain ⟨fresh, nodup⟩ := List.nodup_cons.mp nodup
    rw [forEach_cons, ih nodup]
    by_cases e : m = l
    · subst e
      simp [fresh, same]
    · simp [e, other l m s e]

/-- R90: a line after the lines of the mask turn on. -/
theorem chimeOn_line (mask : LineMask) (s : State) (m : LineId) :
    (chimeOn mask s).line m =
      if inLines mask m && (s.line m).state == .off then { s.line m with state := .energized } else s.line m := by
  refine (forEach_line
    (g := fun l r => if inLines mask l && r.state == .off then { r with state := .energized } else r)
    (fun l t => ?_) (fun l m t h => ?_) (List.nodup_finRange 16) m s).trans (if_pos (List.mem_finRange m))
  · split
    · exact State.setLine_line_same _ _ _
    · rfl
  · split
    · exact State.setLine_line_ne _ _ _ _ h
    · rfl

/-- R90: a line after the lines of the mask turn off. -/
theorem chimeOff_line (mask : LineMask) (s : State) (m : LineId) :
    (chimeOff mask s).line m =
      if inLines mask m && (s.line m).state == .energized then (s.line m).turnedOff else s.line m := by
  refine (forEach_line
    (g := fun l r => if inLines mask l && r.state == .energized then r.turnedOff else r)
    (fun l t => ?_) (fun l m t h => ?_) (List.nodup_finRange 16) m s).trans (if_pos (List.mem_finRange m))
  · split
    · exact State.setLine_line_same _ _ _
    · rfl
  · split
    · exact State.setLine_line_ne _ _ _ _ h
    · rfl

/-- R90: the switches leave the sequencer but for the lines. -/
theorem forEach_lines_dsq {f : LineId → State → State}
    (each : ∀ (l : LineId) (t : State), (f l t).dsq = { t.dsq with lines := (f l t).dsq.lines }) (lines : List LineId)
    (s : State) : (forEach lines f s).dsq = { s.dsq with lines := (forEach lines f s).dsq.lines } := by
  induction lines generalizing s with
  | nil => rfl
  | cons l rest ih =>
    rw [forEach_cons, ih, each]

theorem chimeOn_dsq (mask : LineMask) (s : State) :
    (chimeOn mask s).dsq = { s.dsq with lines := (chimeOn mask s).dsq.lines } :=
  forEach_lines_dsq (fun l t => by dsimp only; split <;> rfl) allLines s

theorem chimeOff_dsq (mask : LineMask) (s : State) :
    (chimeOff mask s).dsq = { s.dsq with lines := (chimeOff mask s).dsq.lines } :=
  forEach_lines_dsq (fun l t => by dsimp only; split <;> rfl) allLines s

/-- R90: what an on-phase of the chime ends with, in a station that is up. -/
theorem chimeWidthEnds_of_out {phase ends : Nat} {mask : LineMask} {s : State} (playing : s.dsq.chime = .on phase mask ends)
    (out : ends ≤ s.now) :
    chimeWidthEnds s =
      if s.dsq.chimePattern.phases ≤ phase + 1 then enterLive ((chimeOff mask s).setChime .idle)
      else (chimeOff mask s).setChime (.gap phase mask (s.now + s.dsq.chimePattern.gap)) := by
  have pattern : (chimeOff mask s).dsq.chimePattern = s.dsq.chimePattern := by rw [chimeOff_dsq]
  have now : (chimeOff mask s).now = s.now := congrArg TimeBase.timer ((chimeOff_frame mask s).part .tb)
  unfold chimeWidthEnds chimePhaseEnd
  rw [playing]
  simp only [out, if_true, pattern, now]
  split <;> rename_i h <;> split at h <;> cases h <;> simp [*]

theorem chimeGapEnds_of_out {phase ends : Nat} {mask : LineMask} {s : State} (gap : s.dsq.chime = .gap phase mask ends)
    (out : ends ≤ s.now) : chimeGapEnds s = chimePhaseStart phase mask s := by
  simp [chimeGapEnds, gap, out]

/-- R83, R90: what a step ends with leaves the chime player. -/
theorem endOfStep_chime (s : State) : (endOfStep s).dsq.chime = s.dsq.chime := by
  rw [(endOfStep_moves s).dsq]

/-- R154: DONE takes the own record LIVE. -/
theorem enterLive_of_chiming {o : OwnClaim} {s : State} (own : s.fu.own = some o) (chiming : o.phase = .chiming) :
    (enterLive s).fu = { s.fu with own := some { o with phase := .live }, micLive := true } := by
  simp [enterLive, own, chiming]
  rfl

/-! ## The ends of phases, as steps -/

/-- R84, R87: WIDTH_EXPIRY of an on-phase with more to come. -/
theorem exec_widthExpiry_of_more {l : LineId} {q : EnergizeRequest} {s : State} (up : s.up = true)
    (on : (s.line l).state = .energized) (out : reached (s.line l).energizeEnd s.now = true)
    (request : (s.line l).request = some q) (requester : q.requester = .player)
    (more : s.dsq.playerLast (s.line l).player = false) :
    exec (.widthExpiry l) s = .next (endOfStep
      (s.setLine l ((s.line l).betweenPhases (s.now + s.dsq.playerGap (s.line l).player)))) :=
  change_eq_endOfStep up (widthExpires_of_more on out request requester more) rfl

/-- R90, R154: CHIME_WIDTH_EXPIRY. -/
theorem exec_chimeWidthExpiry_of_out {phase ends : Nat} {mask : LineMask} {s : State} (up : s.up = true)
    (playing : s.dsq.chime = .on phase mask ends) (out : ends ≤ s.now) : ∃ t, exec .chimeWidthExpiry s = .next t ∧
      (∀ m, inLines mask m = true → (s.line m).state = .energized → (t.line m).state = .off) ∧
      (phase + 1 < s.dsq.chimePattern.phases →
        t.dsq.chime = .gap phase mask (s.now + s.dsq.chimePattern.gap) ∧ t.fu = s.fu) ∧
      (s.dsq.chimePattern.phases ≤ phase + 1 → t.dsq.chime = .idle ∧
        (∀ o, s.fu.own = some o → o.phase = .chiming →
          t.fu = { s.fu with own := some { o with phase := .live }, micLive := true })) := by
  have effect := chimeWidthEnds_of_out playing out
  have fu (c : ChimePlayer) : ((chimeOff mask s).setChime c).fu = s.fu :=
    ((chimeOff_frame mask s).andThen (State.setChime_frame _ c)).part .fu
  have off (c : ChimePlayer) (m : LineId) (taken : inLines mask m = true) (on : (s.line m).state = .energized) :
      ((chimeOff mask s).setChime c).line m = (s.line m).turnedOff :=
    (chimeOff_line mask s m).trans (if_pos (by simp [taken, on]))
  have lives := enterLive_frame ((chimeOff mask s).setChime .idle)
  have ended := endOfStep_frame (chimeWidthEnds s)
  refine ⟨_, change_eq_endOfStep up rfl ((chimeWidthEnds_frame s).part .za), fun m taken on => ?_, fun more => ?_,
    fun last => ?_⟩
  · have line : (chimeWidthEnds s).line m = (s.line m).turnedOff := by
      rw [effect]
      split
      · exact (State.line_of_dsq (lives.part .dsq) m).trans (off _ m taken on)
      · exact off _ m taken on
    rw [endOfStep_line (by rw [line]; exact nofun), line]
    rfl
  · rw [if_neg (by omega)] at effect
    rw [endOfStep_chime, ended.part .fu, effect]
    exact ⟨rfl, fu _⟩
  · rw [if_pos last] at effect
    refine ⟨?_, fun o own chiming => ?_⟩
    · rw [endOfStep_chime, effect, lives.part .dsq]
      rfl
    · rw [ended.part .fu, effect, enterLive_of_chiming (by rw [fu]; exact own) chiming, fu]

/-- R90: CHIME_GAP_EXPIRY. -/
theorem exec_chimeGapExpiry_of_out {phase ends : Nat} {mask : LineMask} {s : State} (up : s.up = true)
    (gap : s.dsq.chime = .gap phase mask ends) (out : ends ≤ s.now) : ∃ t, exec .chimeGapExpiry s = .next t ∧
      (∀ m, inLines mask m = true → (s.line m).state = .off → (t.line m).state = .energized) ∧
      t.dsq.chime = .on (phase + 1) mask (s.now +
        (if s.dsq.chimePattern.w2 = 0 ∨ (phase + 1) % 2 = 0 then s.dsq.chimePattern.w1
        else s.dsq.chimePattern.w2)) ∧ t.fu = s.fu := by
  have effect := chimeGapEnds_of_out gap out
  have ended := endOfStep_frame (chimeGapEnds s)
  have width (w1 w2 n : Nat) : phaseWidth w1 w2 n = if w2 = 0 ∨ n % 2 = 0 then w1 else w2 := by
    unfold phaseWidth
    split <;> simp [*]
  refine ⟨_, change_eq_endOfStep up rfl ((chimeGapEnds_frame s).part .za), fun m taken off => ?_, ?_, ?_⟩
  · have line : (chimeGapEnds s).line m = { s.line m with state := .energized } := by
      rw [effect]
      exact (chimeOn_line mask s m).trans (if_pos (by simp [taken, off]))
    rw [endOfStep_line (by rw [line]; exact nofun), line]
  · rw [endOfStep_chime, effect, ← width]
    rfl
  · exact (ended.part .fu).trans ((chimeGapEnds_frame s).part .fu)

/-- Settles O56: each expiry takes its player to the next phase, and the last on-phase of a bell leaves its zone with
nothing to settle. -/
theorem playersGoOnWithTheirPatterns : Obligations.PlayersGoOnWithTheirPatterns := by
  intro l phase ends mask s up
  refine ⟨fun q on out request requester more => exec_widthExpiry_of_more up on out request requester more,
    fun q z on out request requester last zone => ⟨fun b bell lawful undeferred => ?_, fun b other cut => ?_⟩,
    fun gap out running off => ?_, exec_chimeWidthExpiry_of_out up, exec_chimeGapExpiry_of_out up⟩
  · have step := bellEnds_endOfStep on out request requester last zone bell lawful undeferred
    have writes := ((s.setLine_frame l (s.line l).ranOut).andThen (State.setZone_frame _ z
      { s.zone z with owner := none, stack := [], bellStarted := false })).andThen (endOfStep_frame _)
    have line : ((s.setLine l (s.line l).ranOut).setZone z
        { s.zone z with owner := none, stack := [], bellStarted := false }).line l = (s.line l).ranOut :=
      State.setLine_line_same _ _ _
    obtain ⟨c, stands⟩ := endOfStep_zone ((s.setLine l (s.line l).ranOut).setZone z
      { s.zone z with owner := none, stack := [], bellStarted := false }) z
    rw [State.setZone_zone_same] at stands
    refine ⟨_, congrArg Host.Outcome.next ((change_of_up up).trans step), ?_, ?_, ?_, writes.part .bs, writes.within⟩
    · rw [endOfStep_line (by rw [line]; exact nofun), line]
      rfl
    · rw [stands]
    · rw [stands]
  · have finished := (widthExpires_of_last on out request requester last).trans
      (bellFinished_of_cut (s := s.setLine l (s.line l).ranOut) zone other cut)
    have owners (y : ZoneId) : ((widthExpires l s).zone y).owner = (s.zone y).owner := by
      rw [finished]
      refine (setZone_sameOwners (s := s.setLine l (s.line l).ranOut) ?_ ?_ y).1 <;> rfl
    refine congrArg Host.Outcome.next ((change_of_up up).trans ((asOneChange_same owners).trans ?_))
    rw [finished]
    rfl
  · exact change_eq_endOfStep up (gapEnds_of_out gap out running off) rfl

end Sys2Proof.Machine
end

section
/-! PROOF. FIRE_PANEL_CHANGE and the law of R182: `State.Driven` is not kept by every step. It does not tie the request and
the width expiry of a line to the player of that line, so that the end of an energize period can start a gap that no zone
plays. -/

namespace Sys2Proof.Machine

-- one declaration at a time, as in the tests: the threads of a whole text's proofs do not fit the memory limit
set_option Elab.async false

/-- R89: L1, a PAGE line that is on, yet with a player's request and a width that has run out. -/
def strayLine : LineRecord :=
  { LineRecord.afterReset .page with
    state := .energized
    request := some { cls := .sounder, width := 0, polarity := .pos, requester := .player, age := 0 }
    energizeEnd := some 0 }

/-- R89, R113: Z1 with a floor, its page line L1 on. -/
def strayZone : Zone :=
  { Zone.afterReset with
    pageLine := some 0
    owner := some (.floor 0 1#8 .general)
    pageOn := true }

/-- A station in RUNNING with that line and that zone. -/
def strayStation : State :=
  { State.reset with
    rst := false
    dsq := { Sequencer.afterReset with lines := Sequencer.afterReset.lines.set 0 strayLine }
    za := { zones := ZoneArbiter.afterReset.zones.set 0 strayZone, trunkSelect := true }
    sp := { State.reset.sp with config := .running, number := some 0 } }

/-- The station, with WIDTH_EXPIRY of the line at the front of the queue. -/
def strayState : State := { strayStation with pending := [.widthExpiry 0] }

/-- R89: the floor of Z1 drives L1, and no other line is on or waits. -/
theorem strayState_driven : strayState.Driven where
  lines l _ on := by
    have first : ∀ m : LineId, (strayState.line m).state = .energized ∨ (strayState.line m).state = .waiting → m = 0 := by
      decide
    rw [first l on]
    exact .inr (.inl ⟨rfl, 0, rfl, rfl, 0, 1#8, .general, rfl⟩)
  quiet idle := absurd idle (by decide)
  gaps l ends _ gap := by
    have idle : ∀ m : LineId, (strayState.line m).player.state = .idle := by decide
    rw [idle l] at gap
    cases gap
  bound i l line := by
    have unbound : ∀ j : SlotId, (strayState.slot j).line = none := by decide
    rw [unbound i] at line
    cases line
  chime playing := absurd rfl playing
  mic := rfl
  yields yielding := absurd yielding (by decide)
  outside deaf := absurd deaf (by decide)
  held down := absurd down (by decide)

/-- R84, R87: the end of the period leaves L1 in a gap, and no zone a bell or a sounder line. -/
theorem strayState_step :
    ∃ t ends, step strayState = .next t ∧ (t.line 0).kind = .page ∧ (t.line 0).player.state = .gap ends ∧
      ∀ z : ZoneId, (t.zone z).bellLine = none ∧ (t.zone z).sounderLine = none := by
  have ran : step strayState = exec (.widthExpiry 0) strayStation := rfl
  have ended := exec_widthExpiry_of_more (l := 0) (s := strayStation) rfl rfl rfl rfl rfl rfl
  have unnamed : ∀ z : ZoneId, (strayStation.zone z).bellLine = none ∧ (strayStation.zone z).sounderLine = none := by
    decide
  have line := endOfStep_line (l := 0) (s := strayStation.setLine 0 ((strayStation.line 0).betweenPhases
    (strayStation.now + strayStation.dsq.playerGap (strayStation.line 0).player))) (by decide)
  refine ⟨_, _, ran.trans ended, congrArg LineRecord.kind line,
    congrArg (fun r : LineRecord => r.player.state) line, fun z => ?_⟩
  obtain ⟨_, stands⟩ := endOfStep_zone (strayStation.setLine 0 ((strayStation.line 0).betweenPhases
    (strayStation.now + strayStation.dsq.playerGap (strayStation.line 0).player))) z
  exact ⟨(congrArg Zone.bellLine stands).trans (unnamed z).1, (congrArg Zone.sounderLine stands).trans (unnamed z).2⟩

/-- Refutes O51: its first clause fails. `State.Driven` holds of a PAGE line that a floor has on and that holds, besides, a
player's request with its width run out; WIDTH_EXPIRY takes the line's player to GAP, and no zone plays the line. -/
theorem not_firePanelTakesTheZones : ¬ Obligations.FirePanelTakesTheZones := by
  rintro ⟨keeps, -⟩
  obtain ⟨t, ends, ran, kind, gap, unplayed⟩ := strayState_step
  obtain ⟨z, ⟨bell, -⟩ | ⟨sounder, -⟩⟩ := (keeps strayState t strayState_driven ran).gaps 0 ends (by rw [kind]; decide) gap
  · rw [(unplayed z).1] at bell
    cases bell
  · rw [(unplayed z).2] at sounder
    cases sounder

end Sys2Proof.Machine
end

section
/-! PROOF. The grant list and the grants of STAGGER_EXPIRY (R82, R83, R84). -/

namespace Sys2Proof.Machine

-- one declaration at a time, as in the tests: the threads of a whole text's proofs do not fit the memory limit
set_option Elab.async false

/-! ## The order of the grant list -/

/-- R82: the request of a line that waits in a class is of the class. -/
theorem cls_of_waitsIn {c : RequestClass} {l : LineId} {p : EnergizeRequest} {s : State} (waits : s.waitsIn c l = true)
    (request : (s.line l).request = some p) : p.cls = c := by
  simp only [State.waitsIn, request, Bool.and_eq_true, beq_iff_eq] at waits
  exact waits.2

/-- R82: the grant list goes from class to class in the order of their ranks. -/
theorem grantList_ordered (s : State) : s.grantList.Pairwise fun l m => ∀ p q : EnergizeRequest,
    (s.line l).request = some p → (s.line m).request = some q → p.cls.rank ≤ q.cls.rank := by
  have between {c d : RequestClass} (rank : c.rank ≤ d.rank) {l m : LineId}
      (hl : l ∈ s.dsq.scanOrder.toList.filter (s.waitsIn c)) (hm : m ∈ s.dsq.scanOrder.toList.filter (s.waitsIn d))
      (p q : EnergizeRequest) (asked : (s.line l).request = some p) (asked' : (s.line m).request = some q) :
      p.cls.rank ≤ q.cls.rank := by
    rw [cls_of_waitsIn (List.mem_filter.mp hl).2 asked, cls_of_waitsIn (List.mem_filter.mp hm).2 asked']
    exact rank
  have within (c : RequestClass) := List.pairwise_of_forall_mem_list fun l hl m hm =>
    between (Nat.le_refl c.rank) (l := l) (m := m) hl hm
  unfold State.grantList
  refine List.pairwise_append.mpr ⟨List.pairwise_append.mpr ⟨within _, within _, fun l hl m hm => ?_⟩, within _,
    fun l hl m hm => ?_⟩
  · exact between (by decide) hl hm
  · rcases List.mem_append.mp hl with hl | hl
    · exact between (by decide) hl hm
    · exact between (by decide) hl hm

/-! ## The arbiter's check -/

/-- R83: the head of the grant list is granted where there is room and the gap has passed. -/
theorem mayGrant_iff (s : State) : s.mayGrant = true ↔
    s.energizedCount < s.dsq.budget ∧ ∀ g, s.dsq.lastGrant = some g → g + s.dsq.stagger ≤ s.now := by
  unfold State.mayGrant
  cases s.dsq.lastGrant <;> simp

theorem arbitrateUpTo_of_may {n : Nat} {l : LineId} {rest : List LineId} {s : State} (list : s.grantList = l :: rest)
    (may : s.mayGrant = true) : arbitrateUpTo (n + 1) s = arbitrateUpTo n (grant l s) := by
  simp [arbitrateUpTo, list, may]

theorem arbitrate_of_not_may {s : State} (may : s.mayGrant = false) : arbitrate s = s := by
  unfold arbitrate arbitrateUpTo
  rw [may]
  split
  · split <;> rfl
  · rfl

/-- R84: the line granted, its player aside. -/
theorem grant_line {l : LineId} {q : EnergizeRequest} {s : State} (request : (s.line l).request = some q) :
    ∃ p, (grant l s).line l =
      { s.line l with state := .energized, energizeEnd := some (s.now + q.width), player := p } := by
  obtain ⟨-, p, started⟩ := reportStarted_line l q (s.switchedOn l q)
  rw [grant_of_request request, started]
  exact ⟨p, congrArg (fun r : LineRecord => { r with player := p }) (State.setLine_line_same s l _)⟩

/-- R83: the moment of the last grant. -/
theorem grant_lastGrant {l : LineId} {q : EnergizeRequest} {s : State} (request : (s.line l).request = some q) :
    (grant l s).dsq.lastGrant = some s.now := by
  rw [grant_of_request request, reportStarted_dsq]
  rfl

theorem grant_now (l : LineId) (s : State) : (grant l s).now = s.now := congrArg TimeBase.timer ((grant_frame l s).part .tb)

/-- R83: once the last grant is of this moment, further grants leave it so. -/
theorem arbitrateUpTo_lastGrant (n : Nat) {s : State} (now : s.dsq.lastGrant = some s.now) :
    (arbitrateUpTo n s).dsq.lastGrant = some s.now := by
  induction n generalizing s with
  | zero => exact now
  | succ n ih =>
    unfold arbitrateUpTo
    split
    · exact now
    · rename_i l rest list
      split
      · have granted : (grant l s).dsq.lastGrant = some (grant l s).now := by
          rw [grant_now]
          cases request : (s.line l).request with
          | none => simpa [grant, request] using now
          | some q => exact grant_lastGrant request
        rw [ih granted, grant_now]
      · exact now

/-- R83, R84: the check of a moment whose requests have all joined, with the head of the grant list granted. -/
theorem arbitrate_of_may {l : LineId} {rest : List LineId} {q : EnergizeRequest} {s : State}
    (joined : s.allJoined = true) (list : s.grantList = l :: rest) (request : (s.line l).request = some q)
    (may : s.mayGrant = true) : ((arbitrate s).line l).state = .energized ∧
      ((arbitrate s).line l).energizeEnd = some (s.now + q.width) ∧ (arbitrate s).dsq.lastGrant = some s.now := by
  obtain ⟨p, granted⟩ := grant_line request
  have check : arbitrate s = arbitrateUpTo 15 (grant l s) := (if_pos joined).trans (arbitrateUpTo_of_may list may)
  have line := arbitrateUpTo_line 15 (l := l) (s := grant l s) (by rw [granted]; exact nofun)
  rw [check, line, granted, arbitrateUpTo_lastGrant 15 (by rw [grant_now, grant_lastGrant request]), grant_now]
  exact ⟨rfl, rfl, rfl⟩

/-- Settles O55: the grant list is ordered by class, the head is granted where the arbiter may grant, and no later grant
is of a line that is on. -/
theorem arbiterGrantsTheHead : Obligations.ArbiterGrantsTheHead := by
  intro l rest q s up list request
  have step : exec .staggerExpiry s = .next (endOfStep s) := change_eq_endOfStep (f := id) up rfl rfl
  refine ⟨⟨waiting_of_mem_grantList (by simp [list]), fun m p mem asked => ?_⟩, fun joined room gap => ?_, fun held => ?_⟩
  · have ordered := grantList_ordered s
    rw [list, List.pairwise_cons] at ordered
    exact ordered.1 m mem q p request asked
  · obtain ⟨on, ends, last⟩ := arbitrate_of_may (s := syncTrunk s) joined list request
      ((mayGrant_iff s).mpr ⟨room, gap⟩)
    have dsq : (endOfStep s).dsq = (arbitrate (syncTrunk s)).dsq := (selectNext_frame _).part .dsq
    refine ⟨_, step, ?_, ?_, ?_, endOfStep_frame s⟩
    · rw [State.line_of_dsq dsq, on]
    · rw [State.line_of_dsq dsq, ends]
      rfl
    · rw [dsq, last]
      rfl
  · have nothing : arbitrate (syncTrunk s) = syncTrunk s := by
      cases joined : s.allJoined with
      | false => exact arbitrate_of_waiting joined
      | true =>
        refine arbitrate_of_not_may (s := syncTrunk s) (Bool.eq_false_iff.mpr fun may => ?_)
        obtain ⟨room, gap⟩ := (mayGrant_iff s).mp may
        rcases held with waits | full | ⟨g, last, early⟩
        · rw [joined] at waits
          cases waits
        · omega
        · have passed := gap g last
          omega
    refine ⟨_, step, ?_⟩
    unfold endOfStep
    rw [nothing]
    exact ((syncTrunk_frame s).andThen (selectNext_frame _)).within

end Sys2Proof.Machine
end

section
/-! PROOF. What the Dial Unit and the reports of a line do to the lines (R64, R70, R71, R97, R114 to R116). -/

namespace Sys2Proof.Machine

-- one declaration at a time, as in the tests: the threads of a whole text's proofs do not fit the memory limit
set_option Elab.async false

/-! ## Impulses -/

theorem tryImpulse_moves (i : SlotId) (s : State) : s.Moves (tryImpulse i s) := by
  unfold tryImpulse
  dsimp only
  split
  · exact .refl s
  · rename_i l line
    split
    · have asked := requestLine_moves (l := l) (s := s)
        (q := { cls := .clock, width := s.du.width, polarity := (s.slot i).polarity.opposite,
                requester := .dial i, age := s.now }) fun j named => by cases named; exact line
      split <;> rename_i u h <;> rw [h] at asked
      · exact asked.trans (setSlot_moves (asked.slots i).symm)
      · exact asked
    · exact .refl s

theorem recompute_moves (i : SlotId) (s : State) : s.Moves (recompute i s) := by
  unfold recompute
  split
  · exact .refl s
  · rename_i l line
    dsimp only
    generalize dialVerdict _ _ _ _ _ = v
    have told : s.Moves (s.setSlot i { s.slot i with state := v.1, difference := v.2 }) := setSlot_moves rfl
    split
    · exact told.trans (tryImpulse_moves i _)
    · exact told
    · split
      · exact told
      · have withdrawn := told.trans (withdrawRequest_moves l i _)
        split <;> rename_i u h <;> rw [h] at withdrawn
        · exact withdrawn.trans (setSlot_moves (withdrawn.slots i).symm)
        · exact withdrawn

theorem recomputeAll_moves (s : State) : s.Moves (recomputeAll s) := forEach_moves recompute_moves allSlots s

/-- A slot rewritten with its line, and recomputed. -/
theorem recompute_setSlot_moves {i : SlotId} {r : DialSlot} {s : State} (line : r.line = (s.slot i).line) :
    s.Moves (recompute i (s.setSlot i r)) :=
  (setSlot_moves line).trans (recompute_moves i _)

theorem requestSnapshot_moves (s : State) : s.Moves (requestSnapshot s) := (requestSnapshot_frame s).moves

theorem endImpulse_moves (i : SlotId) (dial : Option Nat) (polarity : Polarity) (s : State) :
    s.Moves (endImpulse i dial polarity s) := by
  unfold endImpulse
  dsimp only
  split
  · refine State.Moves.trans ?_ (requestSnapshot_moves _)
    exact recompute_setSlot_moves rfl
  · exact recompute_setSlot_moves rfl

theorem deliverImpulse_moves (i : SlotId) (polarity : Polarity) (s : State) : s.Moves (deliverImpulse i polarity s) :=
  endImpulse_moves i _ polarity s

theorem abortImpulse_moves (i : SlotId) (s : State) : s.Moves (abortImpulse i s) := endImpulse_moves i _ _ s

theorem dropImpulse_moves (i : SlotId) (s : State) : s.Moves (dropImpulse i s) :=
  recompute_setSlot_moves (r := { s.slot i with impulse := .none }) rfl

theorem classToDial_moves (l : LineId) (s : State) : s.Moves (classToDial l s) := by
  unfold classToDial
  split
  · exact .refl s
  · exact recompute_moves _ s

theorem dialSet_moves (line : Byte) (position : Half) (s : State) : s.Moves (dialSet line position s) := by
  unfold dialSet
  split
  · exact .refl s
  · rename_i i _
    dsimp only
    split
    · exact setSlot_moves rfl
    · refine State.Moves.trans ?_ (requestSnapshot_moves _)
      exact recompute_setSlot_moves rfl

/-! ## Reports -/

theorem bellFinished_moves (l : LineId) (s : State) : s.Moves (bellFinished l s) := by
  unfold bellFinished
  split
  · exact .refl s
  · split
    · exact popZone_moves _ s
    · dsimp only
      split
      · exact setZone_moves rfl
      · exact .refl s

theorem bellAborted_moves (l : LineId) (s : State) : s.Moves (bellAborted l s) := by
  unfold bellAborted
  split
  · exact .refl s
  · split
    · refine State.Moves.trans ?_ (popZone_moves _ _)
      split
      · exact .refl s
      · exact bellMissed_moves _ s
    · exact .refl s

theorem sounderAborted_moves (l : LineId) (s : State) : s.Moves (sounderAborted l s) := by
  unfold sounderAborted
  split
  · exact .refl s
  · exact setZone_moves rfl

theorem playerAborted_moves (l : LineId) (bell : Bool) (s : State) : s.Moves (playerAborted l bell s) := by
  unfold playerAborted
  split
  · exact bellAborted_moves l s
  · exact sounderAborted_moves l s

theorem pageCut_moves (l : LineId) (s : State) : s.Moves (pageCut l s) := by
  unfold pageCut
  split
  · exact .refl s
  · split
    · exact setZone_moves rfl
    · exact .refl s

theorem sounderNormal_moves (z : ZoneId) (s : State) : s.Moves (sounderNormal z s) := by
  unfold sounderNormal
  split
  · split
    · exact sounderStart_moves z s
    · exact .refl s
  · exact .refl s

theorem pageNormal_moves (z : ZoneId) (s : State) : s.Moves (pageNormal z s) := by
  unfold pageNormal
  split
  · exact pageLineOn_moves z s
  · exact .refl s

theorem normalToZone_moves (l : LineId) (s : State) : s.Moves (normalToZone l s) := by
  unfold normalToZone
  split
  · exact sounderNormal_moves _ s
  · exact pageNormal_moves _ s
  · exact .refl s

theorem faultDrops_moves (l : LineId) (old : LineRecord) (s : State) : s.Moves (faultDrops l old s) := by
  unfold faultDrops
  split
  · exact dropImpulse_moves _ s
  · exact playerAborted_moves l _ s
  · exact playerAborted_moves l _ s
  · exact .refl s

/-! ## Samples -/

/-- R96, R97: a line record as a sample leaves it, before what the change of its class brings. -/
def LineRecord.afterSample (r : LineRecord) (x : SenseResult) : LineRecord :=
  if (r.sampled x).sampleRun = 2 ∧ r.cls ≠ classOfSense x then
    if (classOfSense x).faulted then (r.sampled x).faulted (classOfSense x) else (r.sampled x).cleared
  else r.sampled x

theorem sampled_cls (r : LineRecord) (x : SenseResult) : (r.sampled x).cls = r.cls := by
  unfold LineRecord.sampled
  split <;> rfl

/-- R96: what a sample does to a line, and then to the rest. -/
theorem sampleLine_moves (l : LineId) (x : SenseResult) (s : State) :
    (s.setLine l ((s.line l).afterSample x)).Moves (sampleLine l x s) := by
  have here : (s.setLine l ((s.line l).sampled x)).line l = (s.line l).sampled x := State.setLine_line_same _ _ _
  unfold sampleLine LineRecord.afterSample
  dsimp only
  rw [sampled_cls]
  split
  · unfold classChanges
    dsimp only
    rw [here, setLine_setLine, setLine_setLine]
    split
    · exact (faultDrops_moves l _ _).trans (classToDial_moves l _)
    · exact (classToDial_moves l _).trans (normalToZone_moves l _)
  · exact .refl _

/-- R96: a class that follows a sample is that of the sample. -/
theorem afterSample_spec (r : LineRecord) (x : SenseResult) :
    (r.afterSample x).sampleResult = some x ∧ (r.afterSample x).sampleRun = (r.sampled x).sampleRun ∧
    (r.afterSample x).cls = if (r.sampled x).sampleRun = 2 then classOfSense x else r.cls := by
  have result : (r.sampled x).sampleResult = some x := by
    unfold LineRecord.sampled
    split
    · assumption
    · rfl
  unfold LineRecord.afterSample
  by_cases run : (r.sampled x).sampleRun = 2
  · by_cases same : r.cls = classOfSense x
    · simp [run, same, result, sampled_cls]
    · cases fault : (classOfSense x).faulted with
      | true => simp [run, same, result, LineRecord.faulted]
      | false =>
        have normal : classOfSense x = .normal := by
          cases x
          · rfl
          all_goals cases fault
        simp [run, same, result, LineRecord.cleared, ← normal]
  · simp [run, result, sampled_cls]

end Sys2Proof.Machine
end

section
/-! PROOF. SUPERVISION_SLOT (R93 to R96): the line picked, and its sample. -/

namespace Sys2Proof.Machine

-- one declaration at a time, as in the tests: the threads of a whole text's proofs do not fit the memory limit
set_option Elab.async false

/-! ## The line picked -/

/-- R94: a line is eligible by its kind, its state and the exclusion mask. -/
theorem eligible_iff (s : State) (l : LineId) : s.eligible l = true ↔
    (s.line l).kind.counted = true ∧ (s.line l).state ≠ .energized ∧ inLines s.dsq.exclusion l = false := by
  simp [State.eligible, and_assoc]

/-- R94: the positions after a pointer, in the order of the distance from it. -/
theorem positionsAfter_some (o : Fin 16) : positionsAfter (some o) = (List.finRange 16).map fun k => o + 1 + k := by
  refine List.map_congr_left fun k _ => Fin.ext ?_
  simp [Fin.val_add]

/-- The first number of a range that a property holds of. -/
theorem find?_finRange {n : Nat} {q : Fin n → Bool} {k : Fin n} (h : (List.finRange n).find? q = some k) :
    q k = true ∧ ∀ j, j < k → q j = false := by
  obtain ⟨holds, i, inside, at_, before⟩ := List.find?_eq_some_iff_getElem.mp h
  refine ⟨holds, fun j less => ?_⟩
  have index : i = k.val := by simpa using congrArg Fin.val at_
  simpa using before j.val (by omega)

theorem find?_finRange_none {n : Nat} {q : Fin n → Bool} (h : (List.finRange n).find? q = none) (k : Fin n) :
    q k = false := by
  simpa using List.find?_eq_none.mp h k (List.mem_finRange k)

/-- R94: the position found is the first after the pointer, or of the whole table, that the property holds of. -/
theorem find?_positionsAfter {pointer : Option (Fin 16)} {q : Fin 16 → Bool} {p : Fin 16}
    (h : (positionsAfter pointer).find? q = some p) : q p = true ∧
    (pointer = none → ∀ p', p' < p → q p' = false) ∧
    ∀ o p' : Fin 16, pointer = some o → p' - o - 1 < p - o - 1 → q p' = false := by
  cases pointer with
  | none =>
    obtain ⟨holds, first⟩ := find?_finRange h
    exact ⟨holds, fun _ => first, nofun⟩
  | some o =>
    rw [positionsAfter_some, List.find?_map, Option.map_eq_some_iff] at h
    obtain ⟨k, found, rfl⟩ := h
    obtain ⟨holds, first⟩ := find?_finRange found
    refine ⟨holds, nofun, fun o' p' same less => ?_⟩
    cases same
    have distance : o + 1 + k - o - 1 = k := by abel
    rw [distance] at less
    have back : o + 1 + (p' - o - 1) = p' := by abel
    simpa [back] using first _ less

theorem find?_positionsAfter_none {pointer : Option (Fin 16)} {q : Fin 16 → Bool}
    (h : (positionsAfter pointer).find? q = none) (p : Fin 16) : q p = false := by
  cases pointer with
  | none => exact find?_finRange_none h p
  | some o =>
    rw [positionsAfter_some, List.find?_map, Option.map_eq_none_iff] at h
    have back : o + 1 + (p - o - 1) = p := by abel
    simpa [back] using find?_finRange_none h (p - o - 1)

/-! ## The slot -/

/-- R93, R94: the station after the pick of a slot, before the sample. -/
def State.slotPassed (s : State) : State :=
  { s with dsq := { s.dsq with
    pointer := s.slotPick.2, nextSlot := s.dsq.nextSlot.map (· + Config.supervisionMs) } }

/-- R93 to R96: the slot samples the line picked, and moves the lines as the change of its class brings. -/
theorem supervise_moves (x : SenseResult) (s : State) : ∃ lines : LineId → LineRecord,
    (∀ l, lines l = if s.slotPick.1 = some l then (s.line l).afterSample x else s.line l) ∧
    (∀ l, (lines l).sameLine ((supervise x s).line l)) ∧
    (supervise x s).dsq = { s.slotPassed.dsq with
      lines := (supervise x s).dsq.lines, lastGrant := (supervise x s).dsq.lastGrant } := by
  refine ⟨_, fun l => rfl, ?_⟩
  unfold supervise
  dsimp only
  split
  · rename_i m pick
    have moves := sampleLine_moves m x s.slotPassed
    refine ⟨fun l => ?_, moves.dsq⟩
    have same := moves.lines l
    by_cases e : l = m
    · subst e
      rw [State.setLine_line_same] at same
      rw [if_pos pick]
      exact same
    · rw [State.setLine_line_ne _ _ _ _ e] at same
      rw [if_neg (by rw [pick]; exact fun k => e (Option.some.inj k).symm)]
      exact same
  · rename_i pick
    exact ⟨fun l => by rw [pick]; exact LineRecord.sameLine_refl _, rfl⟩

/-- R96: the class follows at a run of two. -/
theorem afterSample_run (r : LineRecord) (x : SenseResult) : (r.afterSample x).sampleResult = some x ∧
    (r.sampleResult = some x → 1 ≤ r.sampleRun →
      (r.afterSample x).sampleRun = 2 ∧ (r.afterSample x).cls = classOfSense x) ∧
    (r.sampleResult ≠ some x → (r.afterSample x).sampleRun = 1 ∧ (r.afterSample x).cls = r.cls) := by
  obtain ⟨result, run, cls⟩ := afterSample_spec r x
  rw [run, cls]
  refine ⟨result, fun again once => ?_, fun other => ?_⟩
  · have two : (r.sampled x).sampleRun = 2 := by
      simp only [LineRecord.sampled, again, if_true]
      omega
    simp [two]
  · have one : (r.sampled x).sampleRun = 1 := by simp [LineRecord.sampled, other]
    simp [one]

/-- Settles O58: the pick is the first eligible position from the pointer on, and what the sample brings changes no class
and no run but that of the line picked. -/
theorem supervisionSamplesALine : Obligations.SupervisionSamplesALine := by
  intro x due s up taking next out
  have effect : (if s.taking && reached s.dsq.nextSlot s.now then supervise x s else s) = supervise x s := by
    simp [taking, next, reached, out]
  have ends := asOneChange_moves (fun t => if t.taking && reached t.dsq.nextSlot t.now then supervise x t else t) s
  have step : exec (.supervisionSlot x) s = .next (asOneChange
      (fun t => if t.taking && reached t.dsq.nextSlot t.now then supervise x t else t) s) :=
    congrArg Host.Outcome.next (change_of_up up)
  generalize asOneChange _ s = t at step ends
  rw [effect] at ends
  obtain ⟨lines, sampled, same, dsq⟩ := supervise_moves x s
  have dsq' : t.dsq = { s.slotPassed.dsq with lines := t.dsq.lines, lastGrant := t.dsq.lastGrant } := by
    rw [ends.dsq, dsq]
  have line (l : LineId) : (lines l).sameLine (t.line l) := (same l).trans (ends.lines l)
  have nextSlot : t.dsq.nextSlot = some (due + 250) := by
    rw [dsq']
    simp [State.slotPassed, next, Config.supervisionMs]
  have locked : t.dsq.locked = s.dsq.locked := by rw [dsq']; rfl
  have pointer : t.dsq.pointer = s.slotPick.2 := by rw [dsq']; rfl
  refine ⟨t, s.slotPick.1, step, nextSlot, locked, fun m lock => ?_, fun free => ?_, fun l pick => ?_, fun l pick => ?_⟩
  · obtain ⟨l, held, picked⟩ | ⟨free, -⟩ | ⟨free, -⟩ := slotPick_cases s
    · rw [lock] at held
      cases held
      rw [pointer, picked]
      simp
    · rw [lock] at free
      cases free
    · rw [lock] at free
      cases free
  · intro eligible
    have ineligible {p : Fin 16} (no : s.eligible s.dsq.scanOrder[p] = false) : ¬ eligible p := fun holds => by
      rw [(eligible_iff s _).mpr holds] at no
      cases no
    rw [pointer]
    obtain ⟨l, held, -⟩ | ⟨-, p, found, picked⟩ | ⟨-, found, picked⟩ := slotPick_cases s
    · rw [free] at held
      cases held
    · obtain ⟨holds, start, after⟩ := find?_positionsAfter found
      rw [picked]
      refine ⟨nofun, fun l pick => ⟨p, rfl, Option.some.inj pick, (eligible_iff s _).mp holds, fun none_ p' less => ?_,
        fun o p' some_ less => ?_⟩⟩
      · exact ineligible (start none_ p' less)
      · exact ineligible (after o p' some_ less)
    · rw [picked]
      exact ⟨fun _ => ⟨rfl, fun p => ineligible (find?_positionsAfter_none found p)⟩, nofun⟩
  · obtain ⟨-, cls, result, run⟩ := line l
    rw [cls, result, run, sampled l, if_pos pick]
    exact afterSample_run (s.line l) x
  · obtain ⟨-, cls, result, run⟩ := line l
    rw [cls, result, run, sampled l, if_neg pick]
    exact ⟨rfl, rfl, rfl⟩

end Sys2Proof.Machine
end

section
/-! PROOF. The close of the gathering and the chime's start (R90, R153, R154). -/

namespace Sys2Proof.Machine

-- one declaration at a time, as in the tests: the threads of a whole text's proofs do not fit the memory limit
set_option Elab.async false

/-! ## Requests of a station that has no claim under way -/

/-- R36, R147: a frame that is lost tells the FU nothing while no own claim is under way. -/
theorem reportLost_of_unclaiming {s : State} (free : ∀ o, s.fu.own = some o → o.phase ≠ .claiming) (f : OutFrame) :
    reportLost f s = s := by
  unfold reportLost
  split
  · exact claimLost_of_other fun o own claim => free o own claim.1
  · rfl

/-- R26, R27, R30: a request to queue a frame writes the YLC alone while no own claim is under way. -/
theorem enqueue_frame_of_unclaiming {s : State} (free : ∀ o, s.fu.own = some o → o.phase ≠ .claiming) (f : OutFrame) :
    s.keepsAllBut [.ylc] (enqueue f s) := by
  have lost (y : YardLine) (g : OutFrame) : s.keepsAllBut [.ylc] (reportLost g (s.setYlc y)) := by
    rw [reportLost_of_unclaiming (s := s.setYlc y) free]
    exact s.setYlc_frame y
  unfold enqueue
  split
  · rw [reportLost_of_unclaiming free]
    exact s.keepsAllBut_refl _
  · split
    · exact joinQueue_frame f s
    · split
      · exact lost _ f
      · dsimp only
        refine State.keepsAllBut_trans ?_ (joinQueue_frame f _)
        split
        · exact lost _ _
        · exact s.setYlc_frame _

/-- R27: a frame asked for in RUNNING with room stands in the queue. -/
theorem enqueue_queued {f : OutFrame} {s : State} (running : s.running = true) (room : s.ylc.queue.length < 8) :
    (enqueue f s).queued f := by
  rw [enqueue_of_room (takesFrame_of_running running) room]
  exact ⟨QueuedFrame.new f s.now, List.mem_append_right _ (List.mem_singleton.mpr rfl), rfl⟩

/-! ## The chime's start -/

theorem cancelChime_of_idle {s : State} (idle : s.dsq.chime = .idle) : cancelChime s = s := by
  simp [cancelChime, idle]

/-- R90, R154: with no usable CHIME line the record is LIVE at once. -/
theorem enterChiming_of_none {o : OwnClaim} {s : State} (idle : s.dsq.chime = .idle) (none_ : s.chimeLines = 0#16) :
    enterChiming o s =
      { s with fu := { s.fu with own := some { o with phase := .live, readyWaitEnd := none }, micLive := true } } := by
  have mask : (s.setOwn (some { o with phase := .chiming, readyWaitEnd := none })).chimeLines = 0#16 := none_
  unfold enterChiming startChime
  rw [cancelChime_of_idle (by exact idle), if_pos (by simp [mask])]
  rfl

/-- R90, R154: the record is CHIMING and the first on-phase begins. -/
theorem enterChiming_of_some {o : OwnClaim} {s : State} (idle : s.dsq.chime = .idle) (some_ : s.chimeLines ≠ 0#16)
    (running : s.running = true) :
    enterChiming o s =
      (chimeOn s.chimeLines (s.setOwn (some { o with phase := .chiming, readyWaitEnd := none }))).setChime
        (.on 0 s.chimeLines (s.now + s.dsq.chimePattern.w1)) := by
  have mask : (s.setOwn (some { o with phase := .chiming, readyWaitEnd := none })).chimeLines = s.chimeLines := rfl
  have width : phaseWidth s.dsq.chimePattern.w1 s.dsq.chimePattern.w2 0 = s.dsq.chimePattern.w1 := by
    simp [phaseWidth]
  unfold enterChiming startChime
  rw [cancelChime_of_idle (by exact idle), if_neg (by simp [mask, some_, running])]
  dsimp only
  rw [mask]
  simp [width]

/-! ## The close -/

/-- R153: no zone took the floor. -/
theorem noZones_iff (o : OwnClaim) (accepted : ZoneMask) : o.noZones accepted = true ↔
    accepted = 0#8 ∧ ∀ m : Station, o.responders[m] = none ∨ o.responders[m] = some 0#8 := by
  unfold OwnClaim.noZones
  rw [Bool.and_eq_true, beq_iff_eq, List.all_eq_true]
  refine and_congr Iff.rfl ⟨fun h m => ?_, fun h r mem => ?_⟩
  · have none_ := h o.responders[m] (by simp)
    cases answered : o.responders[m] with
    | none => exact .inl rfl
    | some r =>
      rw [answered] at none_
      simpa using none_
  · obtain ⟨i, inside, rfl⟩ := List.mem_iff_getElem.mp mem
    have bound : i < 30 := by simpa using inside
    have at_ := h ⟨i, bound⟩
    rw [Vector.getElem_toList]
    rcases at_ with at_ | at_ <;> simp only [Fin.getElem_fin] at at_ <;> rw [at_] <;> rfl

/-- R143: the floor of the station's claim number is out of the view once it has left. -/
theorem ownFloorLeaves_spec (number : Byte) (s : State) :
    (ownFloorLeaves number s).fu = { s.fu with view := (ownFloorLeaves number s).fu.view } ∧
    ∀ n, s.own = some n → (ownFloorLeaves number s).viewIs n number = false := by
  unfold ownFloorLeaves
  cases own : s.own with
  | none => exact ⟨rfl, nofun⟩
  | some n =>
    dsimp only
    unfold floorLeaves
    split
    · cases view : s.fu.view with
      | none => simp_all [State.viewIs]
      | some v =>
        have left := (floorLeavesView_spec view).1
        refine ⟨by rw [left], fun m _ => ?_⟩
        simp [State.viewIs, left]
    · rename_i other
      refine ⟨rfl, fun m same => ?_⟩
      cases same
      simpa using other

/-- A frame that stands in the queue stands in it while the YLC is left. -/
theorem State.keepsAllBut.queued {s t : State} {parts : List Part} (h : s.keepsAllBut parts t) {f : OutFrame}
    (queued : s.queued f) (out : Part.ylc ∉ parts := by decide) : t.queued f :=
  (State.sameFrames_of_ylc (h .ylc out)).queued queued

theorem now_of_tb {s t : State} (h : s.sameIn t .tb) : t.now = s.now := congrArg TimeBase.timer h

theorem own_of_sp {s t : State} (h : s.sameIn t .sp) : t.own = s.own := congrArg SettingsPort.number h

/-- R153: the close of a gathering that no zone answered. -/
theorem closeGathering_of_noZones {g : OwnClaim} {s : State} (no : g.noZones (s.ownAccepted g.number) = true) :
    (closeGathering g s).fu.own = none ∧
    ((closeGathering g s).key g.key).refusalEnd = some (s.now + 2000) ∧
    (∀ n, s.own = some n → (closeGathering g s).viewIs n g.number = false) ∧
    (s.running = true → s.ylc.queue.length < 8 → (closeGathering g s).queued (.release g.number 4#8)) := by
  have made : closeGathering g s = ownFloorLeaves g.number
      (showRefusal g.key (enqueue (.release g.number 4#8) (s.setOwn none))) := if_pos no
  have released := enqueue_frame_of_unclaiming (s := s.setOwn none) nofun (.release g.number 4#8)
  have queued (running : s.running = true) (room : s.ylc.queue.length < 8) :
      (enqueue (.release g.number 4#8) (s.setOwn none)).queued (.release g.number 4#8) :=
    enqueue_queued (s := s.setOwn none) running room
  rw [made]
  generalize enqueue (.release g.number 4#8) (s.setOwn none) = u at released queued
  have shown := showRefusal_frame g.key u
  obtain ⟨fu, out⟩ := ownFloorLeaves_spec g.number (showRefusal g.key u)
  refine ⟨?_, ?_, fun n own => out n ?_, fun running room => ?_⟩
  · rw [fu]
    exact congrArg FloorUnit.own (released.part .fu)
  · have key : (ownFloorLeaves g.number (showRefusal g.key u)).key g.key = (showRefusal g.key u).key g.key :=
      (congrArg (fun f : FloorUnit => f.inputs[g.key]) fu).trans rfl
    rw [key, showRefusal, State.setKey_key_same, now_of_tb (released.part .tb)]
    rfl
  · rw [own_of_sp (shown.part .sp), own_of_sp (released.part .sp)]
    exact own
  · exact (ownFloorLeaves_frame g.number _).queued (shown.queued (queued running room))

/-- R153: the close of a gathering that some zone answered. -/
theorem closeGathering_of_zones {g : OwnClaim} {s : State} (some_ : ¬ g.noZones (s.ownAccepted g.number) = true) :
    closeGathering g s = enterChiming g s := if_neg some_

/-! ## READY -/

/-- R153: the gathering closes on the answers of the last expected responder. -/
theorem allAnswered_iff (o : OwnClaim) : o.allAnswered = true ↔
    ∀ m : Station, inSet o.expected m = true → o.responders[m] ≠ none := by
  unfold OwnClaim.allAnswered
  rw [List.all_eq_true]
  refine ⟨fun h m expected => ?_, fun h m _ => ?_⟩
  · have answered := h m (List.mem_finRange m)
    rw [expected] at answered
    intro none_
    rw [none_] at answered
    cases answered
  · cases expected : inSet o.expected m with
    | false => rfl
    | true =>
      have answered := h m expected
      cases given : o.responders[m] with
      | none => exact absurd given answered
      | some r => rfl

/-- R153: the record with the answer of one responder. -/
def OwnClaim.withReady (o : OwnClaim) (n : Station) (mask : ZoneMask) : OwnClaim :=
  { o with responders := o.responders.set n (some mask) }

theorem withReady_allAnswered_iff (o : OwnClaim) (n : Station) (mask : ZoneMask) :
    (o.withReady n mask).allAnswered = true ↔
      ∀ m : Station, m ≠ n → inSet o.expected m = true → o.responders[m] ≠ none := by
  rw [allAnswered_iff]
  refine forall_congr' fun m => ?_
  by_cases e : m = n
  · subst e
    simp [OwnClaim.withReady]
  · have other : (o.withReady n mask).responders[m] = o.responders[m] := by
      simp [OwnClaim.withReady, Fin.val_inj, Ne.symm e]
    rw [other]
    simp [e, OwnClaim.withReady]

theorem hearReady_of_own {o : OwnClaim} {n h : Station} {number : Byte} {mask : ZoneMask} {s : State}
    (own : s.fu.own = some o) (holder : s.own = some h) (number_ : o.number = number)
    (floor : o.phase.holdsFloor = true) :
    hearReady n h number mask s =
      if o.phase = .gathering ∧ (o.withReady n mask).allAnswered = true then
        closeGathering (o.withReady n mask) (s.setOwn (some (o.withReady n mask)))
      else s.setOwn (some (o.withReady n mask)) := by
  unfold hearReady
  rw [own]
  dsimp only
  rw [if_pos (by simp [holder, number_, floor])]
  exact if_congr (by rw [Bool.and_eq_true, beq_iff_eq]; rfl) rfl rfl

theorem hearReady_of_other {o : OwnClaim} {n h : Station} {number : Byte} {mask : ZoneMask} {s : State}
    (own : s.fu.own = some o) (other : ¬(s.own = some h ∧ o.number = number ∧ o.phase.holdsFloor = true)) :
    hearReady n h number mask s = s := by
  unfold hearReady
  rw [own]
  dsimp only
  rw [if_neg (by simpa [and_assoc] using other)]

/-- R153: what a READY of a peer does in a station that takes it. -/
theorem exec_ready {sender holder number : Byte} {mask refused : ZoneMask} {n h : Station} {s : State}
    (hears : s.hears sender n) (taking : s.taking = true) (named : stationOfByte holder = some h) :
    exec (.ready sender holder number mask refused) s =
      .next (asOneChange (fun _ => hearReady n h number mask (s.heardFrom n)) s) := by
  have delivered : ifTaking (forStation holder fun h => hearReady n h number mask) (s.heardFrom n) =
      hearReady n h number mask (s.heardFrom n) := by
    simp [ifTaking, forStation, taking, named]
  refine (heard_eq_next hears _).trans ?_
  rw [← delivered]

/-- R153, R154: a step that closes the gathering of the record `g` in a station that is as `s` but for what hearing a
frame changes. -/
theorem gathering_closes {c : Instr} {g : OwnClaim} {base s : State}
    (ran : exec c s = .next (asOneChange (fun _ => closeGathering g (base.setOwn (some g))) s))
    (same : s.keepsAllBut [.ylc, .pt] base) (queue : base.ylc.queue = s.ylc.queue) (running : s.running = true)
    (idle : s.dsq.chime = .idle) :
    (g.noZones (s.ownAccepted g.number) = true → ∃ t, exec c s = .next t ∧ t.fu.own = none ∧
      (t.key g.key).refusalEnd = some (s.now + 2000) ∧
      (∀ n, s.own = some n → t.viewIs n g.number = false) ∧
      (s.ylc.queue.length < 8 → t.queued (.release g.number 4#8))) ∧
    (¬ g.noZones (s.ownAccepted g.number) = true →
      (s.chimeLines = 0#16 → exec c s = .next (endOfStep
        { base with
          fu := { s.fu with
            own := some { g with phase := .live, readyWaitEnd := none }
            micLive := true } })) ∧
      (s.chimeLines ≠ 0#16 → ∃ t, exec c s = .next t ∧
        t.fu = { s.fu with own := some { g with phase := .chiming, readyWaitEnd := none } } ∧
        t.dsq.chime = .on 0 s.chimeLines (s.now + s.dsq.chimePattern.w1) ∧
        ∀ l, inLines s.chimeLines l = true → (s.line l).state = .off →
          (t.line l).state = .energized)) := by
  have dsq : base.dsq = s.dsq := same.part .dsq
  have fu : base.fu = s.fu := same.part .fu
  have za : base.za = s.za := same.part .za
  have now : base.now = s.now := now_of_tb (same.part .tb)
  have own : base.own = s.own := own_of_sp (same.part .sp)
  have run : base.running = s.running := by
    rw [State.running, same.part .sp, same.part .ds]
    rfl
  have view (x : Option OwnClaim) : (base.setOwn x).ownAccepted g.number = s.ownAccepted g.number := by
    have held : (base.setOwn x).fu.view = s.fu.view := (congrArg FloorUnit.view fu : base.fu.view = s.fu.view)
    rw [State.ownAccepted, held, show (base.setOwn x).own = s.own from own]
    rfl
  have chime : (base.setOwn (some g)).chimeLines = s.chimeLines := by
    simp [State.chimeLines, State.line, dsq]
  refine ⟨fun no => ?_, fun zones => ?_⟩
  · obtain ⟨idle', refusal, out, queued⟩ := closeGathering_of_noZones (g := g) (s := base.setOwn (some g))
      (by rw [view]; exact no)
    have ends := asOneChange_frame (fun _ => closeGathering g (base.setOwn (some g))) s
    have frames := asOneChange_sameFrames (fun _ => closeGathering g (base.setOwn (some g))) s
    have fu' := ends.part .fu
    refine ⟨_, ran, ?_, ?_, fun n holder => ?_, fun room => frames.queued (queued (run.trans running) ?_)⟩
    · exact (congrArg FloorUnit.own fu').trans idle'
    · refine (congrArg (fun f : FloorUnit => f.inputs[g.key].refusalEnd) fu').trans (refusal.trans ?_)
      exact congrArg (fun x => some (x + 2000)) now
    · refine Eq.trans ?_ (out n (own.trans holder))
      unfold State.viewIs
      rw [fu']
    · exact queue ▸ room
  · have closed := closeGathering_of_zones (g := g) (s := base.setOwn (some g)) (by rw [view]; exact zones)
    have ended (zones : (closeGathering g (base.setOwn (some g))).za = s.za) :=
      ran.trans (congrArg Host.Outcome.next (asOneChange_of_za zones))
    rw [closed] at ended
    refine ⟨fun none_ => ?_, fun some_ => ?_⟩
    · have live := enterChiming_of_none (o := g) (s := base.setOwn (some g)) (by rw [← idle, ← dsq]; rfl)
        (chime.trans none_)
      rw [ended (by rw [live]; exact za), live, ← fu]
      rfl
    · have begun := enterChiming_of_some (o := g) (s := base.setOwn (some g)) (by rw [← idle, ← dsq]; rfl)
        (by rw [chime]; exact some_) (run.trans running)
      have frame := enterChiming_frame g (base.setOwn (some g))
      refine ⟨_, ended (by rw [frame.part .za]; exact za), ?_, ?_, fun l taken off => ?_⟩
      · have kept := (chimeOn_frame (base.setOwn (some g)).chimeLines
          ((base.setOwn (some g)).setOwn (some { g with phase := .chiming, readyWaitEnd := none }))).part .fu
        rw [(endOfStep_frame _).part .fu, begun, ← fu]
        exact kept
      · rw [endOfStep_chime, begun, ← chime, ← now, ← dsq]
        rfl
      · have line : (enterChiming g (base.setOwn (some g))).line l = { s.line l with state := .energized } := by
          rw [begun, chime]
          refine (chimeOn_line _ _ l).trans ?_
          have stands : ((base.setOwn (some g)).setOwn
              (some { g with phase := .chiming, readyWaitEnd := none })).line l = s.line l := State.line_of_dsq dsq l
          rw [stands, if_pos (by simp [taken, off])]
        rw [endOfStep_line (by rw [line]; exact nofun), line]

/-- Settles O40: a READY stores its mask, and a close is that of `closeGathering`. -/
theorem readyIsStoredAndGatheringCloses : Obligations.ReadyIsStoredAndGatheringCloses := by
  intro o s own closes
  have closing {c : Instr} {g : OwnClaim} {base : State} (key : g.key = o.key) (number : g.number = o.number)
      (ran : exec c s = .next (asOneChange (fun _ => closeGathering g (base.setOwn (some g))) s))
      (same : s.keepsAllBut [.ylc, .pt] base) (queue : base.ylc.queue = s.ylc.queue) (running : s.running = true)
      (idle : s.dsq.chime = .idle) : closes c g base := by
    obtain ⟨no, zones⟩ := gathering_closes ran same queue running idle
    rw [key, number] at no
    refine ⟨fun accepted none_ => no ((noZones_iff g _).mpr ⟨accepted, none_⟩), fun some_ => zones fun no => ?_⟩
    rw [number] at no
    obtain ⟨accepted, none_⟩ := (noZones_iff g _).mp no
    rcases some_ with own | ⟨m, r, answered, r0⟩
    · exact own accepted
    · rcases none_ m with h | h <;> rw [h] at answered
      · cases answered
      · exact r0 (Option.some.inj answered).symm
  refine ⟨fun sender holder number mask refused n h hears taking named => ?_, fun up running gathering out idle => ?_⟩
  · have ran := exec_ready (number := number) (mask := mask) (refused := refused) hears taking named
    have own' : (s.heardFrom n).fu.own = some o := own
    have heard := s.heardFrom_frame n
    refine ⟨fun holds number_ floor more => ?_, fun holds number_ gathering running idle last => ?_, fun other => ?_⟩
    · have open_ : ¬(o.phase = .gathering ∧ (o.withReady n mask).allAnswered = true) := fun ⟨gathering, all_⟩ => by
        obtain ⟨m, other, expected, none_⟩ := more gathering
        exact (withReady_allAnswered_iff o n mask).mp all_ m other expected none_
      rw [ran, asOneChange_of_za, hearReady_of_own own' holds number_ floor, if_neg open_]
      · rfl
      · rw [hearReady_of_own own' holds number_ floor, if_neg open_]
        exact heard.part .za
    · have closed : o.phase = .gathering ∧ (o.withReady n mask).allAnswered = true :=
        ⟨gathering, (withReady_allAnswered_iff o n mask).mpr last⟩
      rw [hearReady_of_own own' holds number_ (by rw [gathering]; rfl), if_pos closed] at ran
      exact closing rfl rfl ran heard (s.heardFrom_queue n) running idle
    · rw [ran, asOneChange_of_za, hearReady_of_other own' other]
      rw [hearReady_of_other own' other]
      exact heard.part .za
  · have stands : s.setOwn (some o) = s := by
      rw [← own]
      rfl
    have effect : readyWaitEnds s = closeGathering o (s.setOwn (some o)) := by
      simp [readyWaitEnds, own, gathering, out, stands]
    refine closing rfl rfl ?_ (s.keepsAllBut_refl _) rfl running idle
    exact congrArg Host.Outcome.next ((change_of_up up).trans (asOneChange_eq effect))

end Sys2Proof.Machine
end

section
/-! PROOF. The zones that a claim is offered (R106, R110, R152). -/

namespace Sys2Proof.Machine

-- one declaration at a time, as in the tests: the threads of a whole text's proofs do not fit the memory limit
set_option Elab.async false

/-! ## Masks of zones -/

theorem inZones_or (a b : ZoneMask) (z : ZoneId) : inZones (a ||| b) z = (inZones a z || inZones b z) := BitVec.getLsbD_or

theorem inZones_zoneBit (y z : ZoneId) : inZones (zoneBit z) y = decide (y = z) := by
  revert y z
  decide

theorem mem_zonesOf (mask : ZoneMask) (z : ZoneId) : z ∈ zonesOf mask ↔ inZones mask z = true := by
  simp [zonesOf, mem_allZones]

theorem nodup_zonesOf (mask : ZoneMask) : (zonesOf mask).Nodup := nodup_allZones.filter _

/-- Masks that name the same zones are one. -/
theorem zoneMask_ext {a b : ZoneMask} (h : ∀ z : ZoneId, inZones a z = inZones b z) : a = b :=
  BitVec.eq_of_getLsbD_eq fun i inside => h ⟨i, inside⟩

/-! ## Releases and the entries of a zone -/

/-- The owners of a zone, current and stacked. -/
def Zone.entries (r : Zone) : List Owner := r.owner.toList ++ r.stack

theorem Zone.mem_entries {r : Zone} {o : Owner} : o ∈ r.entries ↔ r.owner = some o ∨ o ∈ r.stack := by
  simp [Zone.entries]

section

variable {is : Owner → Bool} {s : State}

/-- R110, R111: a release brings no entry to a zone. -/
theorem releaseAt_entries (y z : ZoneId) {o : Owner} (mem : o ∈ ((releaseAt is y s).zone z).entries) :
    o ∈ (s.zone z).entries := by
  by_cases e : z = y
  · subst e
    have filtered {p : Owner} (h : p ∈ (s.zone z).stack.filter fun o => !is o) : p ∈ (s.zone z).stack :=
      List.mem_of_mem_filter h
    rw [Zone.mem_entries] at mem ⊢
    unfold releaseAt at mem
    dsimp only at mem
    split at mem
    · split at mem
      · rw [popZone, State.setZone_zone_same, State.setZone_zone_same] at mem
        exact .inr (filtered (popStack_mem mem))
      · rw [State.setZone_zone_same] at mem
        exact mem.imp_right filtered
    · rw [State.setZone_zone_same] at mem
      exact mem.imp_right filtered
  · rwa [releaseAt_other is e] at mem

/-- R110: an IDLE zone stays IDLE through a release. -/
theorem releaseAt_owner_none {y z : ZoneId} (free : (s.zone z).owner = none) :
    ((releaseAt is y s).zone z).owner = none := by
  by_cases e : z = y
  · subst e
    simp [releaseAt, free]
  · rwa [releaseAt_other is e]

theorem releaseEverywhere_entries (z : ZoneId) {o : Owner} (mem : o ∈ ((releaseEverywhere is s).zone z).entries) :
    o ∈ (s.zone z).entries := by
  unfold releaseEverywhere at mem
  generalize allZones = zones at mem
  induction zones generalizing s with
  | nil => exact mem
  | cons y rest ih => exact releaseAt_entries y z (ih mem)

theorem releaseEverywhere_owner_none {z : ZoneId} (free : (s.zone z).owner = none) :
    ((releaseEverywhere is s).zone z).owner = none := by
  unfold releaseEverywhere
  generalize allZones = zones
  induction zones generalizing s with
  | nil => exact free
  | cons y rest ih => exact ih (releaseAt_owner_none free)

end

/-! ## A page request -/

section

variable {holder : Station} {number : Byte} {cls : FloorClass} {z : ZoneId} {s : State}

/-- R106: a page request rewrites its own zone alone. -/
theorem displace_other (toYield : Bool) (new : Owner) {y z : ZoneId} (h : y ≠ z) (s : State) :
    (displace toYield new z s).zone y = s.zone y := by
  unfold displace
  dsimp only
  split
  · exact State.setZone_zone_ne _ _ _ _ h
  · split
    · exact (State.zone_of_za ((bellMissed_frame _ _).part .za) y).trans (State.setZone_zone_ne _ _ _ _ h)
    · exact State.setZone_zone_ne _ _ _ _ h
  · exact State.setZone_zone_ne _ _ _ _ h

theorem pageRequest_other {y : ZoneId} (h : y ≠ z) : (pageRequest holder number cls z s).1.zone y = s.zone y := by
  have released := releaseAt_other (fun o => o.anyFloor && !o.isFloor holder number) h s
  unfold pageRequest
  split
  · rfl
  · dsimp only
    split
    · exact released
    · split
      · exact released
      · split
        · exact released
        · split
          · exact (displace_other _ _ h _).trans released
          · exact released

/-- R106: a zone that accepts has the floor for its owner, or held it before. -/
theorem pageRequest_accepted (accepted : (pageRequest holder number cls z s).2 = true) :
    ((pageRequest holder number cls z s).1.zone z).owner = some (.floor holder number cls) ∨
      ∃ o ∈ (s.zone z).entries, Owner.isFloor holder number o = true := by
  have before {o : Owner} := releaseAt_entries (is := fun o => o.anyFloor && !o.isFloor holder number) (s := s) z z (o := o)
  unfold pageRequest at accepted ⊢
  split at accepted
  · cases accepted
  · rename_i running
    rw [if_neg running]
    dsimp only at accepted ⊢
    split at accepted
    · rename_i held
      simp only [Bool.or_eq_true, Option.any_eq_true, List.any_eq_true] at held
      refine .inr ?_
      rcases held with ⟨o, owner, floor⟩ | ⟨o, mem, floor⟩
      · exact ⟨o, before (Zone.mem_entries.mpr (.inl owner)), floor⟩
      · exact ⟨o, before (Zone.mem_entries.mpr (.inr mem)), floor⟩
    · rename_i fresh
      rw [if_neg fresh]
      split at accepted
      · cases accepted
      · split at accepted
        · cases accepted
        · split at accepted
          · rename_i good room
            rw [if_neg good, if_pos room]
            exact .inl (displace_owner _ _ _ _)
          · cases accepted

/-- R106: an IDLE zone whose page line is good accepts. -/
theorem pageRequest_of_idle {l : LineId} (running : s.running = true) (free : (s.zone z).owner = none)
    (page : (s.zone z).pageLine = some l) (good : (s.line l).cls.faulted = false) :
    (pageRequest holder number cls z s).2 = true := by
  have free' := releaseAt_owner_none (is := fun o => o.anyFloor && !o.isFloor holder number) (y := z) free
  have frame := releaseAt_frame (fun o => o.anyFloor && !o.isFloor holder number) z s
  have page' := ((releaseAt_moves (fun o => o.anyFloor && !o.isFloor holder number) z s).pages z).trans page
  unfold pageRequest
  rw [if_neg (by simp [running])]
  dsimp only
  generalize releaseAt _ z s = u at *
  split
  · rfl
  · have rank : (u.zone z).level.rank < cls.level.rank := by
      rw [Zone.level, free']
      cases cls <;> decide
    rw [page']
    dsimp only
    rw [State.line_of_dsq (frame.part .dsq), good, if_neg Bool.false_ne_true, if_pos rank]

end

/-! ## The offers of a claim -/

/-- R152 step 3: the station after one offer. -/
theorem offerZone_state (x : ClaimEntry) (z : ZoneId) (a : State × ZoneMask × ZoneMask) :
    (offerZone x z a).1 = (pageRequest x.claimant x.number x.cls z a.1).1 := by
  unfold offerZone
  split <;> rename_i h <;> rw [h]

/-- R152 step 3: what becomes of the zones offered: the masks name the zones that accepted and that refused, and each zone
stands as its own request left it. -/
theorem foldl_offerZone (x : ClaimEntry) {zones : List ZoneId} (nodup : zones.Nodup) (a : State × ZoneMask × ZoneMask)
    (y : ZoneId) :
    let r := zones.foldl (fun a z => offerZone x z a) a
    (y ∉ zones → r.1.zone y = a.1.zone y ∧ inZones r.2.1 y = inZones a.2.1 y ∧ inZones r.2.2 y = inZones a.2.2 y) ∧
    (y ∈ zones → ∃ w : State, w.zone y = a.1.zone y ∧ a.1.keepsAllBut [.za, .bs] w ∧
      r.1.zone y = (pageRequest x.claimant x.number x.cls y w).1.zone y ∧
      inZones r.2.1 y = (inZones a.2.1 y || (pageRequest x.claimant x.number x.cls y w).2) ∧
      inZones r.2.2 y = (inZones a.2.2 y || !(pageRequest x.claimant x.number x.cls y w).2)) := by
  induction zones generalizing a with
  | nil => exact ⟨fun _ => ⟨rfl, rfl, rfl⟩, nofun⟩
  | cons z rest ih =>
    obtain ⟨fresh, nodup⟩ := List.nodup_cons.mp nodup
    obtain ⟨out, inside⟩ := ih nodup (offerZone x z a)
    have zone := offerZone_state x z a
    have masks : inZones (offerZone x z a).2.1 y =
        (inZones a.2.1 y || (decide (y = z) && (pageRequest x.claimant x.number x.cls z a.1).2)) ∧
        inZones (offerZone x z a).2.2 y =
          (inZones a.2.2 y || (decide (y = z) && !(pageRequest x.claimant x.number x.cls z a.1).2)) := by
      unfold offerZone
      split <;> rename_i h <;> rw [h] <;> simp [inZones_or, inZones_zoneBit]
    dsimp only [List.foldl_cons]
    by_cases e : y = z
    · subst e
      obtain ⟨zone', acc, ref⟩ := out fresh
      refine ⟨fun absent => absurd (List.mem_cons_self) absent, fun _ => ⟨a.1, rfl, a.1.keepsAllBut_refl _, ?_, ?_, ?_⟩⟩
      · rw [zone', zone]
      · rw [acc, masks.1]
        simp
      · rw [ref, masks.2]
        simp
    · have stands : (offerZone x z a).1.zone y = a.1.zone y := by
        rw [zone]
        exact pageRequest_other e
      simp only [e, decide_false, Bool.false_and, Bool.or_false] at masks
      refine ⟨fun absent => ?_, fun mem => ?_⟩
      · obtain ⟨zone', acc, ref⟩ := out fun h => absent (List.mem_cons_of_mem _ h)
        exact ⟨zone'.trans stands, acc.trans masks.1, ref.trans masks.2⟩
      · obtain ⟨w, same, frame, zone', acc, ref⟩ := inside ((List.mem_cons.mp mem).resolve_left e)
        rw [masks.1] at acc
        rw [masks.2] at ref
        exact ⟨w, same.trans stands, State.keepsAllBut_trans (offerZone_frame x z a) frame, zone', acc, ref⟩

/-- R152 step 3: the zones of a mask offered: those that accept have the floor for their owner, or held it before; an
IDLE zone whose page line is good accepts; and the mask of those refused is the rest. -/
theorem offerZones_spec (x : ClaimEntry) (mask : ZoneMask) {s : State} :
    let r := offerZones x (zonesOf mask) s
    (∀ z : ZoneId, inZones r.2.1 z = true → inZones mask z = true ∧
      ((r.1.zone z).owner = some (.floor x.claimant x.number x.cls) ∨
        ∃ o ∈ (s.zone z).entries, Owner.isFloor x.claimant x.number o = true)) ∧
    (∀ (z : ZoneId) (l : LineId), s.running = true → inZones mask z = true → (s.zone z).owner = none →
      (s.zone z).pageLine = some l → (s.line l).cls.faulted = false → inZones r.2.1 z = true) ∧
    r.2.2 = mask &&& ~~~r.2.1 := by
  have offered := foldl_offerZone x (nodup_zonesOf mask) (s, 0, 0)
  have zero (z : ZoneId) : inZones 0 z = false := BitVec.getLsbD_zero
  intro r
  refine ⟨fun z accepted => ?_, fun z l running targeted free page good => ?_, zoneMask_ext fun z => ?_⟩
  · by_cases targeted : inZones mask z = true
    · obtain ⟨w, same, -, zone, acc, -⟩ := (offered z).2 ((mem_zonesOf mask z).mpr targeted)
      refine ⟨targeted, ?_⟩
      have answer : (pageRequest x.claimant x.number x.cls z w).2 = true := by
        rw [zero, Bool.false_or] at acc
        exact acc.symm.trans accepted
      rw [show (r.1.zone z) = _ from zone, ← show w.zone z = s.zone z from same]
      exact pageRequest_accepted answer
    · obtain ⟨-, acc, -⟩ := (offered z).1 fun mem => targeted ((mem_zonesOf mask z).mp mem)
      rw [zero] at acc
      exact absurd (acc.symm.trans accepted) Bool.false_ne_true
  · obtain ⟨w, same, frame, -, acc, -⟩ := (offered z).2 ((mem_zonesOf mask z).mpr targeted)
    have answer : (pageRequest x.claimant x.number x.cls z w).2 = true := by
      refine pageRequest_of_idle (l := l) ?_ (by rw [same]; exact free) (by rw [same]; exact page) ?_
      · rw [State.running, frame.part .sp, frame.part .ds]
        exact running
      · rw [State.line_of_dsq (frame.part .dsq)]
        exact good
    exact acc.trans (by rw [answer, Bool.or_true])
  · have complement : inZones (mask &&& ~~~r.2.1) z = (inZones mask z && !inZones r.2.1 z) := by
      simp [inZones]
    rw [complement]
    cases targeted : inZones mask z with
    | true =>
      obtain ⟨w, -, -, -, acc, ref⟩ := (offered z).2 ((mem_zonesOf mask z).mpr targeted)
      rw [zero, Bool.false_or] at acc ref
      rw [show inZones r.2.1 z = _ from acc, show inZones r.2.2 z = _ from ref]
      rfl
    | false =>
      obtain ⟨-, -, ref⟩ := (offered z).1 fun mem => by
        rw [(mem_zonesOf mask z).mp mem] at targeted
        cases targeted
      exact ref.trans (zero z)

/-- R106, R143: a page request for another floor brings back no floor that stands nowhere. -/
theorem State.nowhere.pageRequest {is : Owner → Bool} {s : State} (h : s.nowhere is) {holder : Station} {number : Byte}
    {cls : FloorClass} (other : is (.floor holder number cls) = false) (z : ZoneId) :
    (pageRequest holder number cls z s).1.nowhere is := by
  have released := h.releaseAt (fun o => o.anyFloor && !o.isFloor holder number) z
  unfold Machine.pageRequest
  split
  · exact h
  · dsimp only
    split
    · exact released
    · split
      · exact released
      · split
        · exact released
        · split
          · exact released.displace other false z
          · exact released

theorem State.nowhere.offerZones {is : Owner → Bool} {s : State} (h : s.nowhere is) {x : ClaimEntry}
    (other : is (.floor x.claimant x.number x.cls) = false) (zones : List ZoneId) :
    (offerZones x zones s).1.nowhere is := by
  have folded (a : State × ZoneMask × ZoneMask) (ha : a.1.nowhere is) :
      (zones.foldl (fun a z => offerZone x z a) a).1.nowhere is := by
    induction zones generalizing a with
    | nil => exact ha
    | cons z rest ih =>
      refine ih (offerZone x z a) ?_
      rw [offerZone_state]
      exact ha.pageRequest other z
  exact folded (s, 0, 0) h

theorem offerZones_moves (x : ClaimEntry) (zones : List ZoneId) (s : State) : s.Moves (offerZones x zones s).1 := by
  have folded (a : State × ZoneMask × ZoneMask) : a.1.Moves (zones.foldl (fun a z => offerZone x z a) a).1 := by
    induction zones generalizing a with
    | nil => exact .refl _
    | cons z rest ih =>
      refine State.Moves.trans ?_ (ih (offerZone x z a))
      rw [offerZone_state]
      exact pageRequest_moves _ _ _ z a.1
  exact folded (s, 0, 0)

/-! ## The end of a change at an owned zone -/

theorem examineDeferred_other {y z : ZoneId} (h : y ≠ z) (s : State) : (examineDeferred z s).zone y = s.zone y := by
  have missed (b : Bell) (r : Zone) : (bellMissed b (s.setZone z r)).zone y = s.zone y :=
    (State.zone_of_za ((bellMissed_frame b _).part .za) y).trans (State.setZone_zone_ne _ _ _ _ h)
  unfold examineDeferred
  dsimp only
  split
  · rfl
  · split
    · exact missed _ _
    · split
      · exact missed _ _
      · split
        · exact (State.setZone_zone_ne _ _ _ _ h).trans (State.setZone_zone_ne _ _ _ _ h)
        · exact missed _ _

/-- R111 to R113: the end of a change leaves the owner of a zone that has one. -/
theorem settleZone_owner {old : Zone} {y z : ZoneId} {o : Owner} {s : State} (owned : (s.zone y).owner = some o) :
    ((settleZone old z s).zone y).owner = some o := by
  have goOn {t : State} (examined : (t.zone y).owner = some o) :
      ((if (t.zone z).owner = old.owner then t else startEffects z (stopEffects old.owner z t)).zone y).owner = some o := by
    split
    · exact examined
    · rw [((stopEffects_sameOwners old.owner z t).trans (startEffects_sameOwners z _) y).1]
      exact examined
  refine goOn ?_
  split
  · rename_i emptied
    by_cases e : y = z
    · subst e
      simp [owned] at emptied
    · rw [examineDeferred_other e]
      exact owned
  · exact owned

theorem asOneChange_owner {f : State → State} {y : ZoneId} {o : Owner} {s : State}
    (owned : ((f s).zone y).owner = some o) : ((asOneChange f s).zone y).owner = some o := by
  have each (zones : List ZoneId) {t : State} (h : (t.zone y).owner = some o) :
      ((forEach zones (fun z t => settleZone s.za.zones[z] z t) t).zone y).owner = some o := by
    induction zones generalizing t with
    | nil => exact h
    | cons z rest ih => exact ih (settleZone_owner h)
  have settled := each allZones owned
  unfold asOneChange settleZones
  generalize forEach allZones (fun z t => settleZone s.za.zones[z] z t) (f s) = u at settled
  have ended := (arbitrate_sameOwners (syncTrunk u)).trans
    (State.sameOwners_of_za ((selectNext_frame (arbitrate (syncTrunk u))).part .za))
  exact (ended y).1.trans settled

end Sys2Proof.Machine
end

section
/-! PROOF. WINDOW_CLOSE (R151 to R154, R161): the claim that loses, the floor that is displaced, and what the winner takes. -/

namespace Sys2Proof.Machine

-- one declaration at a time, as in the tests: the threads of a whole text's proofs do not fit the memory limit
set_option Elab.async false

/-! ## The own floor displaced -/

/-- R90: a cancel of the chime leaves it idle. -/
theorem cancelChime_chime (s : State) : (cancelChime s).dsq.chime = .idle := by
  unfold cancelChime
  split
  · assumption
  all_goals rfl

/-- R90: a cancel of the chime leaves the class of every line. -/
theorem cancelChime_cls (s : State) (l : LineId) : ((cancelChime s).line l).cls = (s.line l).cls := by
  have off (mask : LineMask) (c : ChimePlayer) : (((chimeOff mask s).setChime c).line l).cls = (s.line l).cls := by
    rw [State.setChime_line, chimeOff_line]
    split <;> rfl
  unfold cancelChime
  split
  · rfl
  · exact off _ _
  · exact off _ _

/-- R152 step 1: the own floor displaced. -/
theorem ownDisplaced_of_floor {o : OwnClaim} {s : State} (own : s.fu.own = some o) (floor : o.phase.holdsFloor = true) :
    (ownDisplaced s).fu.own = none ∧ (ownDisplaced s).fu.micLive = false ∧ (ownDisplaced s).dsq.chime = .idle ∧
      ((ownDisplaced s).key o.key).refusalEnd = none := by
  have made : ownDisplaced s = lampOff o.key (cancelChime ((s.setOwn none).setMic false)) := by
    simp [ownDisplaced, own, floor, ownIdle]
  have fu := (cancelChime_frame ((s.setOwn none).setMic false)).part .fu
  have chime := cancelChime_chime ((s.setOwn none).setMic false)
  rw [made]
  generalize cancelChime ((s.setOwn none).setMic false) = u at *
  refine ⟨congrArg FloorUnit.own fu, congrArg FloorUnit.micLive fu, chime, ?_⟩
  rw [lampOff, State.setKey_key_same]

theorem ownDisplaced_of_unheld {s : State} (unheld : ∀ o, s.fu.own = some o → o.phase.holdsFloor = false) :
    ownDisplaced s = s := by
  unfold ownDisplaced
  split
  · rename_i o own
    rw [unheld o own]
    rfl
  · rfl

theorem ownDisplaced_lists (s : State) :
    (ownDisplaced s).fu.view = s.fu.view ∧ (ownDisplaced s).fu.claims = s.fu.claims ∧
    ∀ l, ((ownDisplaced s).line l).cls = (s.line l).cls := by
  unfold ownDisplaced
  split
  · rename_i o own
    split
    · have fu : (cancelChime ((s.setOwn none).setMic false)).fu = ((s.setOwn none).setMic false).fu :=
        (cancelChime_frame _).part .fu
      have cls := cancelChime_cls ((s.setOwn none).setMic false)
      unfold ownIdle
      generalize cancelChime ((s.setOwn none).setMic false) = u at *
      change u.fu.view = s.fu.view ∧ u.fu.claims = s.fu.claims ∧ _
      rw [fu]
      exact ⟨rfl, rfl, cls⟩
    · exact ⟨rfl, rfl, fun _ => rfl⟩
  · exact ⟨rfl, rfl, fun _ => rfl⟩

/-! ## The floor displaced from the view -/

/-- R152 step 1: what the displacement of a floor leaves for the offers that follow. -/
structure State.Displaced (s t : State) : Prop where
  claims : t.fu.claims = s.fu.claims
  cls : ∀ l : LineId, (t.line l).cls = (s.line l).cls
  page : ∀ z : ZoneId, (t.zone z).pageLine = (s.zone z).pageLine
  free : ∀ z : ZoneId, (s.zone z).owner = none → (t.zone z).owner = none
  entries : ∀ (z : ZoneId) (o : Owner), o ∈ (t.zone z).entries → o ∈ (s.zone z).entries

theorem State.Displaced.refl (s : State) : s.Displaced s :=
  ⟨rfl, fun _ => rfl, fun _ => rfl, fun _ free => free, fun _ _ mem => mem⟩

theorem floorLeavesView_displaced (s : State) : s.Displaced (floorLeavesView s) := by
  cases view : s.fu.view with
  | none =>
    rw [floorLeavesView, view]
    exact .refl s
  | some v =>
    have left := (floorLeavesView_spec view).1
    have dsq := (floorLeavesView_frame s).part .dsq
    have made : floorLeavesView s = releaseEverywhere (Owner.isFloor v.holder v.number) (s.setView none) := by
      rw [floorLeavesView, view]
    exact {
      claims := by rw [left]
      cls l := by rw [State.line_of_dsq dsq]
      page z := by
        rw [made]
        exact (releaseEverywhere_moves _ (s.setView none)).pages z
      free z free := by
        rw [made]
        exact releaseEverywhere_owner_none (s := s.setView none) free
      entries z o mem := by
        rw [made] at mem
        exact releaseEverywhere_entries (s := s.setView none) z mem }

section

variable {x : ClaimEntry} {s : State}

/-- R152 step 1: the floor of the winner stays. -/
theorem displaceFloor_of_same {w : FloorView} (view : s.fu.view = some w)
    (same : w.holder = x.claimant ∧ w.number = x.number) : displaceFloor x s = s := by
  simp [displaceFloor, view, same]

theorem displaceFloor_of_other {w : FloorView} (view : s.fu.view = some w)
    (other : ¬(w.holder = x.claimant ∧ w.number = x.number)) :
    displaceFloor x s = if s.own = some w.holder then ownDisplaced (floorLeavesView s) else floorLeavesView s := by
  unfold displaceFloor
  rw [view]
  dsimp only
  rw [if_neg (by simpa using other)]

theorem displaceFloor_displaced (x : ClaimEntry) (s : State) : s.Displaced (displaceFloor x s) := by
  cases view : s.fu.view with
  | none =>
    rw [displaceFloor, view]
    exact .refl s
  | some w =>
    by_cases same : w.holder = x.claimant ∧ w.number = x.number
    · rw [displaceFloor_of_same view same]
      exact .refl s
    · have left := floorLeavesView_displaced s
      rw [displaceFloor_of_other view same]
      split
      · obtain ⟨-, claims, cls⟩ := ownDisplaced_lists (floorLeavesView s)
        have zone (z : ZoneId) := State.zone_of_za ((ownDisplaced_frame (floorLeavesView s)).part .za) z
        exact {
          claims := claims.trans left.claims
          cls l := (cls l).trans (left.cls l)
          page z := by rw [zone]; exact left.page z
          free z := by rw [zone]; exact left.free z
          entries z := by rw [zone]; exact left.entries z }
      · exact left

/-- R143, R152 step 1: the floor displaced stands nowhere. -/
theorem displaceFloor_nowhere {w : FloorView} (view : s.fu.view = some w)
    (other : ¬(w.holder = x.claimant ∧ w.number = x.number)) :
    (displaceFloor x s).nowhere (Owner.isFloor w.holder w.number) := by
  have gone := (floorLeavesView_spec view).2
  rw [displaceFloor_of_other view other]
  split
  · exact gone.same (State.sameOwners_of_za ((ownDisplaced_frame _).part .za))
  · exact gone

/-- R152 step 1: the own floor displaced from the view. -/
theorem displaceFloor_of_own {n : Station} {w : FloorView} {o : OwnClaim} (own : s.own = some n)
    (view : s.fu.view = some w) (holder : w.holder = n) (foreign : n ≠ x.claimant) (record : s.fu.own = some o)
    (floor : o.phase.holdsFloor = true) :
    (displaceFloor x s).fu.own = none ∧ (displaceFloor x s).fu.micLive = false ∧
      (displaceFloor x s).dsq.chime = .idle ∧ ((displaceFloor x s).key o.key).refusalEnd = none := by
  subst holder
  rw [displaceFloor_of_other view fun same => foreign same.1, if_pos own]
  refine ownDisplaced_of_floor ?_ floor
  rw [(floorLeavesView_spec view).1]
  exact record

/-- R152 step 1: with no own floor held, a displacement writes the view and the zones alone. -/
theorem displaceFloor_of_unheld (unheld : ∀ o, s.fu.own = some o → o.phase.holdsFloor = false) :
    (displaceFloor x s).dsq = s.dsq ∧
    (displaceFloor x s).fu = { s.fu with view := (displaceFloor x s).fu.view } := by
  cases view : s.fu.view with
  | none =>
    have same : displaceFloor x s = s := by simp [displaceFloor, view]
    rw [same]
    exact ⟨rfl, rfl⟩
  | some w =>
    by_cases same : w.holder = x.claimant ∧ w.number = x.number
    · rw [displaceFloor_of_same view same]
      exact ⟨rfl, rfl⟩
    · have left := (floorLeavesView_spec view).1
      have stays : ownDisplaced (floorLeavesView s) = floorLeavesView s :=
        ownDisplaced_of_unheld fun o own => unheld o (by rw [left] at own; exact own)
      rw [displaceFloor_of_other view same, stays, ite_self]
      exact ⟨(floorLeavesView_frame s).part .dsq, by rw [left]⟩

end

/-! ## The winner's view -/

/-- R152: what the station is left with by a claim that wins, with the zones that accepted it. -/
structure State.HeldBy (s : State) (x : ClaimEntry) (t : State) (accepted : ZoneMask) : Prop where
  view : t.fu.view = some { x.view s.now with accepted }
  claims : t.fu.claims = s.fu.claims
  gone : ∀ w, s.fu.view = some w → ¬(w.holder = x.claimant ∧ w.number = x.number) →
    t.nowhere (Owner.isFloor w.holder w.number)
  displaced : ∀ (n : Station) (w : FloorView) (o : OwnClaim), s.own = some n → n ≠ x.claimant → s.fu.view = some w →
    w.holder = n → s.fu.own = some o → o.phase.holdsFloor = true →
    t.fu.own = none ∧ t.fu.micLive = false ∧ t.dsq.chime = .idle ∧ (t.key o.key).refusalEnd = none
  zones : ∀ z : ZoneId, inZones accepted z = true → inZones (zonesTargeted s.own x.targets) z = true ∧
    ((t.zone z).owner = some (.floor x.claimant x.number x.cls) ∨
      ∃ o ∈ (s.zone z).entries, Owner.isFloor x.claimant x.number o = true)

/-- R152 step 3: the winner's view once its zones of this station have answered. -/
def State.takenBy (s : State) (x : ClaimEntry) : State :=
  let r := offerZones x (zonesOf (zonesTargeted s.own x.targets)) ((displaceFloor x s).setView (some (x.view s.now)))
  r.1.setView (some { x.view s.now with accepted := r.2.1 })

/-- R152 step 3: the zones that accepted. -/
def State.acceptedBy (s : State) (x : ClaimEntry) : ZoneMask :=
  (offerZones x (zonesOf (zonesTargeted s.own x.targets)) ((displaceFloor x s).setView (some (x.view s.now)))).2.1

section

variable {x : ClaimEntry} {s : State}

theorem takenBy_frame (x : ClaimEntry) (s : State) : s.keepsAllBut [.fu, .za, .dsq, .bs] (s.takenBy x) :=
  ((((displaceFloor_frame x s).andThen (State.setView_frame _ (some (x.view s.now)))).andThen
    (offerZones_frame x (zonesOf (zonesTargeted s.own x.targets)) _)).andThen (State.setView_frame _ _)).within

/-- R152 step 3: the offers leave the sequencer and the FU, its view aside. -/
theorem takenBy_dsq (x : ClaimEntry) (s : State) : (s.takenBy x).dsq = (displaceFloor x s).dsq :=
  (offerZones_frame x (zonesOf (zonesTargeted s.own x.targets)) _).part .dsq

theorem takenBy_fu (x : ClaimEntry) (s : State) : (s.takenBy x).fu =
    { (displaceFloor x s).fu with view := some { x.view s.now with accepted := s.acceptedBy x } } := by
  have fu := (offerZones_frame x (zonesOf (zonesTargeted s.own x.targets))
    ((displaceFloor x s).setView (some (x.view s.now)))).part .fu
  exact congrArg (fun f : FloorUnit => { f with view := some { x.view s.now with accepted := s.acceptedBy x } }) fu

/-- R143: the floor of another holder or number. -/
theorem isFloor_of_other {h h' : Station} {n n' : Byte} (other : ¬(h = h' ∧ n = n')) (cls : FloorClass) :
    Owner.isFloor h n (.floor h' n' cls) = false :=
  Bool.eq_false_iff.mpr fun same => by
    obtain ⟨holder, number⟩ := Bool.and_eq_true_iff.mp same
    exact other ⟨(eq_of_beq holder).symm, (eq_of_beq number).symm⟩

/-- R152: the claim wins in RUNNING. -/
theorem takenBy_heldBy (x : ClaimEntry) (s : State) : s.HeldBy x (s.takenBy x) (s.acceptedBy x) where
  view := by rw [takenBy_fu]
  claims := by
    rw [takenBy_fu]
    exact (displaceFloor_displaced x s).claims
  gone w view other := by
    have left := (displaceFloor_nowhere view other).frame (State.setView_frame _ (some (x.view s.now)))
    refine (left.offerZones ?_ _).frame (State.setView_frame _ _)
    exact isFloor_of_other other x.cls
  displaced n w o own foreign view holder record floor := by
    obtain ⟨none_, mic, chime, lamp⟩ := displaceFloor_of_own (x := x) own view holder foreign record floor
    have key : (s.takenBy x).key o.key = (displaceFloor x s).key o.key :=
      (congrArg (fun f : FloorUnit => f.inputs[o.key]) (takenBy_fu x s)).trans rfl
    rw [takenBy_dsq, key, takenBy_fu]
    exact ⟨none_, mic, chime, lamp⟩
  zones z accepted := by
    obtain ⟨took, -, -⟩ := offerZones_spec x (zonesTargeted s.own x.targets)
      (s := (displaceFloor x s).setView (some (x.view s.now)))
    obtain ⟨targeted, floor⟩ := took z accepted
    refine ⟨targeted, floor.imp_right fun ⟨o, mem, is⟩ => ⟨o, (displaceFloor_displaced x s).entries z o mem, is⟩⟩

/-- R152 step 3: an IDLE zone targeted whose page line is good accepts. -/
theorem acceptedBy_of_idle {z : ZoneId} {l : LineId} (running : s.running = true)
    (targeted : inZones (zonesTargeted s.own x.targets) z = true) (free : (s.zone z).owner = none)
    (page : (s.zone z).pageLine = some l) (good : (s.line l).cls.faulted = false) :
    inZones (s.acceptedBy x) z = true := by
  have displaced := displaceFloor_displaced x s
  have frame := displaceFloor_frame x s
  obtain ⟨-, takes, -⟩ := offerZones_spec x (zonesTargeted s.own x.targets)
    (s := (displaceFloor x s).setView (some (x.view s.now)))
  refine takes z l ?_ targeted (displaced.free z free) ((displaced.page z).trans page) ?_
  · rw [State.setView_running, State.running, frame.part .sp, frame.part .ds]
    exact running
  · exact (congrArg LineClass.faulted (displaced.cls l)).trans good

/-- R161: the claim wins in LISTENING. -/
theorem claimWonListening_heldBy (x : ClaimEntry) (s : State) : s.HeldBy x (claimWonListening x s) 0 where
  view := rfl
  claims := (displaceFloor_displaced x s).claims
  gone w view other := (displaceFloor_nowhere view other).frame (State.setView_frame _ (some (x.view s.now)))
  displaced n w o own foreign view holder record floor :=
    displaceFloor_of_own (x := x) own view holder foreign record floor
  zones z accepted := by
    exact absurd (accepted.symm.trans (BitVec.getLsbD_zero (w := 8))) Bool.noConfusion

/-- R36, R147: a frame lost writes nothing of the FU but the own record and the lamps. -/
theorem enqueue_fu (f : OutFrame) (s : State) :
    (enqueue f s).fu.view = s.fu.view ∧ (enqueue f s).fu.claims = s.fu.claims := by
  have lost (g : OutFrame) (t : State) : (reportLost g t).fu.view = t.fu.view ∧ (reportLost g t).fu.claims = t.fu.claims := by
    unfold reportLost claimLost
    split
    · split
      · split <;> exact ⟨rfl, rfl⟩
      · exact ⟨rfl, rfl⟩
    · exact ⟨rfl, rfl⟩
  unfold enqueue
  split
  · exact lost f s
  · split
    · exact ⟨rfl, rfl⟩
    · split
      · exact lost f _
      · dsimp only
        split
        · exact lost _ _
        · exact ⟨rfl, rfl⟩

/-- R152 step 3: a READY queued takes nothing from what the winner was given. -/
theorem State.HeldBy.enqueue {t : State} {accepted : ZoneMask} (h : s.HeldBy x t accepted) (f : OutFrame) :
    s.HeldBy x (enqueue f t) accepted where
  view := (enqueue_fu f t).1.trans h.view
  claims := (enqueue_fu f t).2.trans h.claims
  gone w view other := (h.gone w view other).frame (enqueue_frame f t)
  displaced n w o own foreign view holder record floor := by
    obtain ⟨none_, mic, chime, lamp⟩ := h.displaced n w o own foreign view holder record floor
    have same := (enqueue_frame_of_unclaiming (s := t) (by rw [none_]; exact nofun) f)
    have key : (Machine.enqueue f t).key o.key = t.key o.key := by rw [State.key, same.part .fu]; rfl
    rw [key, same.part .fu, same.part .dsq]
    exact ⟨none_, mic, chime, lamp⟩
  zones z took := by
    obtain ⟨targeted, owner⟩ := h.zones z took
    rw [State.zone_of_za ((enqueue_frame f t).part .za)]
    exact ⟨targeted, owner⟩

end

end Sys2Proof.Machine
end

section
/-! PROOF. WINDOW_CLOSE as a step (R151, R152, R153, R161). -/

namespace Sys2Proof.Machine

-- one declaration at a time, as in the tests: the threads of a whole text's proofs do not fit the memory limit
set_option Elab.async false

/-! ## The claim that loses -/

theorem classAtOrAbove_iff (a b : FloorClass) : classAtOrAbove a b = true ↔ a = .urgent ∨ b = .general := by
  cases a <;> cases b <;> decide

/-- R151: a claim wins that is neither outranked nor objected and meets no other floor of a class at or above its own. -/
theorem claimWins_iff (s : State) (x : ClaimEntry) : s.claimWins x = true ↔
    ¬(x.objected = true ∨ (∃ e ∈ s.fu.claims, e.claimant ≠ x.claimant ∧ e.outranks x = true) ∨
      ∃ v, s.fu.view = some v ∧ ¬(v.holder = x.claimant ∧ v.number = x.number) ∧
        (v.cls = .urgent ∨ x.cls = .general)) := by
  unfold State.claimWins
  rw [Bool.and_eq_true, Bool.and_eq_true, not_or, not_or, ← and_assoc]
  refine and_congr (and_comm.trans (and_congr (by simp) (by simp))) ?_
  cases s.fu.view with
  | none => simp
  | some v =>
    simp only [← classAtOrAbove_iff, Option.some.injEq, exists_eq_left', Bool.or_eq_true, Bool.and_eq_true, beq_iff_eq,
      Bool.not_eq_true']
    cases classAtOrAbove v.cls x.cls <;> simp

section

variable {x : ClaimEntry} {s : State}

theorem closeWindow_of_lost (loses : ¬ s.claimWins x = true) :
    closeWindow x s = claimLoses x (claimLeaves x.claimant s) := by
  simp [closeWindow, loses]

theorem closeWindow_of_running (wins : s.claimWins x = true) (running : s.running = true) :
    closeWindow x s = claimWon x (claimLeaves x.claimant s) := by
  simp [closeWindow, wins, running]

theorem closeWindow_of_listening (wins : s.claimWins x = true) (listening : s.running = false) :
    closeWindow x s = claimWonListening x (claimLeaves x.claimant s) := by
  simp [closeWindow, wins, listening]

/-- R152: the claim of a peer wins in RUNNING. -/
theorem claimWon_of_peer (foreign : s.own ≠ some x.claimant) : claimWon x s =
    if zonesTargeted s.own x.targets = 0 then s.takenBy x
    else enqueue (.ready x.claimant x.number (s.acceptedBy x) (zonesTargeted s.own x.targets &&& ~~~s.acceptedBy x))
      (s.takenBy x) := by
  have refused := (offerZones_spec x (zonesTargeted s.own x.targets)
    (s := (displaceFloor x s).setView (some (x.view s.now)))).2.2
  unfold claimWon
  dsimp only
  rw [if_neg foreign, refused]
  rfl

/-- R153: the own claim wins. -/
theorem claimWon_of_own (own : s.own = some x.claimant) : claimWon x s = ownWin x.number (s.takenBy x) := by
  unfold claimWon
  dsimp only
  rw [if_pos own]
  rfl

/-- R151: the window that closes. -/
theorem windowCloses_of_closing {c : Station} (taking : s.taking = true) (closing : s.closingClaim c = some x) :
    windowCloses c s = closeWindow x s := by
  simp [windowCloses, closing, taking]

/-! ## A peer's claim that wins -/

/-- R152, R161: the winner's view through the end of the step. -/
theorem State.HeldBy.asOneChange {f : State → State} {t : State} {accepted : ZoneMask} {u : State}
    (h : s.HeldBy x t accepted) (effect : f u = t) : s.HeldBy x (asOneChange f u) accepted := by
  subst effect
  have ends := asOneChange_frame f u
  exact {
    view := by rw [ends.part .fu]; exact h.view
    claims := by rw [ends.part .fu]; exact h.claims
    gone w view other := (h.gone w view other).asOneChange fun _ => rfl
    displaced n w o own foreign view holder record floor := by
      obtain ⟨none_, mic, chime, lamp⟩ := h.displaced n w o own foreign view holder record floor
      have key : (Machine.asOneChange f u).key o.key = (f u).key o.key := by rw [State.key, ends.part .fu]; rfl
      rw [key, ends.part .fu, (asOneChange_moves f u).dsq]
      exact ⟨none_, mic, chime, lamp⟩
    zones z took := by
      obtain ⟨targeted, owner⟩ := h.zones z took
      exact ⟨targeted, owner.imp_left asOneChange_owner⟩ }

/-- R152, R161: what a peer's claim that wins leaves, of RUNNING or of LISTENING. -/
theorem closeWindow_of_peer (foreign : s.own ≠ some x.claimant) (wins : s.claimWins x = true) :
    ∃ accepted, (claimLeaves x.claimant s).HeldBy x (closeWindow x s) accepted ∧
      (s.running = false → accepted = 0) ∧
      (s.running = true → zonesTargeted s.own x.targets ≠ 0 → s.ylc.queue.length < 8 →
        (closeWindow x s).queued
          (.ready x.claimant x.number accepted (zonesTargeted s.own x.targets &&& ~~~accepted))) ∧
      (∀ (z : ZoneId) (l : LineId), s.running = true → inZones (zonesTargeted s.own x.targets) z = true →
        (s.zone z).owner = none → (s.zone z).pageLine = some l → (s.line l).cls.faulted = false →
        inZones accepted z = true) := by
  cases running : s.running with
  | false =>
    rw [closeWindow_of_listening wins running]
    exact ⟨0, claimWonListening_heldBy x _, fun _ => rfl, nofun, nofun⟩
  | true =>
    have held := takenBy_heldBy x (claimLeaves x.claimant s)
    have frame := (claimLeaves_frame x.claimant s).andThen (takenBy_frame x (claimLeaves x.claimant s))
    rw [closeWindow_of_running wins running, claimWon_of_peer (s := claimLeaves x.claimant s) foreign]
    refine ⟨(claimLeaves x.claimant s).acceptedBy x, ?_, nofun, fun _ targeted room => ?_, fun z l _ targeted free page good =>
      acceptedBy_of_idle (s := claimLeaves x.claimant s) running targeted free page good⟩
    · split
      · exact held
      · exact held.enqueue _
    · rw [if_neg (by exact targeted)]
      refine enqueue_queued ?_ ?_
      · rw [State.running, frame.part .sp, frame.part .ds]
        exact running
      · rw [frame.part .ylc]
        exact room

/-! ## The own claim that wins -/

/-- R153: the own record as it starts to gather. -/
def OwnClaim.gathers (o : OwnClaim) (ends : Nat) : OwnClaim := { o with phase := .gathering, readyWaitEnd := some ends }

theorem ownWin_of_claiming {o : OwnClaim} {number : Byte} (own : s.fu.own = some o) (claiming : o.phase = .claiming)
    (number_ : o.number = number) : ownWin number s =
      if o.allAnswered = true then
        closeGathering (o.gathers (s.now + s.fu.readyWait)) (s.setOwn (some (o.gathers (s.now + s.fu.readyWait))))
      else s.setOwn (some (o.gathers (s.now + s.fu.readyWait))) := by
  unfold ownWin
  rw [own]
  dsimp only
  rw [if_pos (by simp [claiming, number_])]
  rfl

theorem enterLive_lists (s : State) : (enterLive s).fu.claims = s.fu.claims ∧ (enterLive s).fu.view = s.fu.view := by
  unfold enterLive
  split
  · split <;> exact ⟨rfl, rfl⟩
  · exact ⟨rfl, rfl⟩

theorem enterChiming_lists (o : OwnClaim) (s : State) :
    (enterChiming o s).fu.claims = s.fu.claims ∧ (enterChiming o s).fu.view = s.fu.view := by
  have frame := (startChime_frame (s.setOwn (some { o with phase := .chiming, readyWaitEnd := none }))).part .fu
  have claims := congrArg FloorUnit.claims frame
  have view := congrArg FloorUnit.view frame
  unfold enterChiming
  split
  · rename_i u h
    rw [h] at claims view
    obtain ⟨claims', view'⟩ := enterLive_lists u
    exact ⟨claims'.trans claims, view'.trans view⟩
  · rename_i u h
    rw [h] at claims view
    exact ⟨claims, view⟩

/-- R153: the close of the gathering leaves the claim list. -/
theorem closeGathering_claims (g : OwnClaim) (s : State) : (closeGathering g s).fu.claims = s.fu.claims := by
  unfold closeGathering
  split
  · rw [(ownFloorLeaves_spec _ _).1]
    exact (enqueue_fu _ (s.setOwn none)).2
  · exact (enterChiming_lists g s).1

/-- R152: with the own claim still CLAIMING, the winner's view is all that the FU is given. -/
theorem takenBy_of_claiming {o : OwnClaim} (own : s.fu.own = some o) (claiming : o.phase = .claiming) :
    (s.takenBy x).dsq = s.dsq ∧
    (s.takenBy x).fu = { s.fu with view := some { x.view s.now with accepted := s.acceptedBy x } } := by
  obtain ⟨dsq, fu⟩ := displaceFloor_of_unheld (x := x) (s := s) fun p record => by
    cases own.symm.trans record
    rw [claiming]
    rfl
  exact ⟨(takenBy_dsq x s).trans dsq, by rw [takenBy_fu, fu]⟩

/-- R153: what the own claim that wins leaves: its record gathers, or the gathering closes at once. -/
theorem closeWindow_of_own {o : OwnClaim} (own : s.own = some x.claimant) (wins : s.claimWins x = true)
    (running : s.running = true) (record : s.fu.own = some o) (claiming : o.phase = .claiming)
    (number : o.number = x.number) : ∃ u : State, ∃ accepted,
    s.keepsAllBut [.fu, .za, .dsq, .bs] u ∧ u.dsq = s.dsq ∧
    u.fu = { s.fu with
      claims := s.fu.claims.filter fun e => e.claimant != x.claimant
      view := some { x.view s.now with accepted } } ∧
    (∀ z : ZoneId, inZones accepted z = true → inZones (zonesTargeted s.own x.targets) z = true) ∧
    (∀ (z : ZoneId) (l : LineId), inZones (zonesTargeted s.own x.targets) z = true →
      (s.zone z).owner = none → (s.zone z).pageLine = some l → (s.line l).cls.faulted = false →
      inZones accepted z = true) ∧
    closeWindow x s =
      if o.allAnswered = true then
        closeGathering (o.gathers (s.now + s.fu.readyWait)) (u.setOwn (some (o.gathers (s.now + s.fu.readyWait))))
      else u.setOwn (some (o.gathers (s.now + s.fu.readyWait))) := by
  have held := takenBy_heldBy x (claimLeaves x.claimant s)
  have frame := (claimLeaves_frame x.claimant s).andThen (takenBy_frame x (claimLeaves x.claimant s))
  obtain ⟨dsq, fu⟩ := takenBy_of_claiming (x := x) (s := claimLeaves x.claimant s) record claiming
  have record' : ((claimLeaves x.claimant s).takenBy x).fu.own = some o := by rw [fu]; exact record
  have now : ((claimLeaves x.claimant s).takenBy x).now = s.now := now_of_tb (frame.part .tb)
  refine ⟨(claimLeaves x.claimant s).takenBy x, (claimLeaves x.claimant s).acceptedBy x, frame.within, dsq, fu,
    fun z took => (held.zones z took).1, fun z l targeted free page good =>
      acceptedBy_of_idle (s := claimLeaves x.claimant s) running targeted free page good, ?_⟩
  rw [closeWindow_of_running wins running, claimWon_of_own (s := claimLeaves x.claimant s) own,
    ownWin_of_claiming record' claiming number, now, fu]
  rfl

/-- R153: the accepted zones of a view that the own claim holds. -/
theorem ownAccepted_of_held {u : State} {n : Station} {v : FloorView} {number : Byte} (own : u.own = some n)
    (view : u.fu.view = some v) (holder : v.holder = n) (number_ : v.number = number) :
    u.ownAccepted number = v.accepted := by
  simp [State.ownAccepted, own, view, holder, number_]

end

/-- R151: the peer's claim that loses leaves the list, and nothing else happens. -/
theorem exec_windowClose_of_lost {x : ClaimEntry} {s : State} (up : s.up = true) (taking : s.taking = true)
    (closing : s.closingClaim x.claimant = some x) (loses : ¬ s.claimWins x = true) (foreign : s.own ≠ some x.claimant) :
    exec (.windowClose x.claimant) s = .next (endOfStep (claimLeaves x.claimant s)) := by
  refine change_eq_endOfStep up ?_ rfl
  rw [windowCloses_of_closing taking closing, closeWindow_of_lost loses, claimLoses, if_neg (by exact foreign)]

/-- R151: the own claim that loses, with its refusal shown. -/
theorem exec_windowClose_of_own_lost {x : ClaimEntry} {o : OwnClaim} {s : State} (up : s.up = true)
    (taking : s.taking = true) (closing : s.closingClaim x.claimant = some x) (loses : ¬ s.claimWins x = true)
    (own : s.own = some x.claimant) (record : s.fu.own = some o) (claiming : o.phase = .claiming)
    (number : o.number = x.number) : exec (.windowClose x.claimant) s =
      .next (endOfStep (showRefusal o.key ((claimLeaves x.claimant s).setOwn none))) := by
  refine change_eq_endOfStep up ?_ rfl
  rw [windowCloses_of_closing taking closing, closeWindow_of_lost loses, claimLoses, if_pos (by exact own)]
  exact claimLost_of_claiming (s := claimLeaves x.claimant s) record claiming number

/-- R152, R153, R154: what the station is left with by the own claim that wins: its record gathers, or, with no responder
expected, the gathering has closed over no zone, or over a zone of this station. -/
structure State.OwnWon (s : State) (x : ClaimEntry) (o : OwnClaim) (t : State) : Prop where
  claims : t.fu.claims = s.fu.claims.filter fun e => e.claimant != x.claimant
  gathers : (∃ n, inSet o.expected n = true ∧ o.responders[n] = none) →
    t.fu.own = some { o with phase := .gathering, readyWaitEnd := some (s.now + s.fu.readyWait) } ∧
    t.viewIs x.claimant x.number = true ∧ t.fu.micLive = s.fu.micLive ∧ ∀ f, t.queued f → s.queued f
  unheard : (∀ n, inSet o.expected n = true → o.responders[n] ≠ none) → zonesTargeted s.own x.targets = 0#8 →
    (∀ n : Station, o.responders[n] = none ∨ o.responders[n] = some 0#8) →
    t.fu.own = none ∧ (t.key o.key).refusalEnd = some (s.now + 2000) ∧ t.viewIs x.claimant x.number = false ∧
    (s.ylc.queue.length < 8 → t.queued (.release o.number 4#8))
  heard : (∀ n, inSet o.expected n = true → o.responders[n] ≠ none) →
    ∀ (z : ZoneId) (l : LineId), inZones (zonesTargeted s.own x.targets) z = true →
    (s.zone z).owner = none → (s.zone z).pageLine = some l → (s.line l).cls.faulted = false → s.dsq.chime = .idle →
    (∃ v, t.fu.view = some v ∧ v.holder = x.claimant ∧ v.number = x.number ∧ inZones v.accepted z = true) ∧
    (s.chimeLines ≠ 0#16 → t.fu.own = some { o with phase := .chiming, readyWaitEnd := none } ∧
      t.dsq.chime = .on 0 s.chimeLines (s.now + s.dsq.chimePattern.w1)) ∧
    (s.chimeLines = 0#16 → t.fu.own = some { o with phase := .live, readyWaitEnd := none } ∧ t.fu.micLive = true)

theorem viewIs_of_view {s : State} {v : FloorView} (view : s.fu.view = some v) : s.viewIs v.holder v.number = true := by
  simp [State.viewIs, view]

/-- The same FU, the same chime and the same frames tell the same of an own win. -/
theorem State.OwnWon.same {s : State} {x : ClaimEntry} {o : OwnClaim} {e t : State} (h : s.OwnWon x o e)
    (fu : t.fu = e.fu) (chime : t.dsq.chime = e.dsq.chime) (frames : e.sameFrames t) : s.OwnWon x o t := by
  have key : t.key o.key = e.key o.key := by rw [State.key, fu]; rfl
  have view : t.viewIs x.claimant x.number = e.viewIs x.claimant x.number := by rw [State.viewIs, fu]; rfl
  exact {
    claims := by rw [fu]; exact h.claims
    gathers waits := by
      obtain ⟨own, is, mic, queue⟩ := h.gathers waits
      have back : t.sameFrames e := ⟨frames.1.symm, frames.2.symm⟩
      rw [fu, view]
      exact ⟨own, is, mic, fun f queued => queue f (back.queued queued)⟩
    unheard all_ nowhere_ silent := by
      obtain ⟨own, refusal, out, queued⟩ := h.unheard all_ nowhere_ silent
      rw [fu, view, key]
      exact ⟨own, refusal, out, fun room => frames.queued (queued room)⟩
    heard all_ := by
      rw [fu, chime]
      exact h.heard all_ }

/-- R153: the own claim that wins, before the step ends. -/
theorem closeWindow_ownWon {x : ClaimEntry} {o : OwnClaim} {s : State} (own : s.own = some x.claimant)
    (wins : s.claimWins x = true) (running : s.running = true) (record : s.fu.own = some o)
    (claiming : o.phase = .claiming) (number : o.number = x.number) : s.OwnWon x o (closeWindow x s) := by
  obtain ⟨u, accepted, frame, dsq, fu, targeted, idles, closed⟩ :=
    closeWindow_of_own own wins running record claiming number
  have run : u.running = true := by
    rw [State.running, frame.part .sp, frame.part .ds]
    exact running
  have now : u.now = s.now := now_of_tb (frame.part .tb)
  have own' : u.own = some x.claimant := (own_of_sp (frame.part .sp)).trans own
  have view : u.fu.view = some { x.view s.now with accepted } := by rw [fu]
  have mic : u.fu.micLive = s.fu.micLive := by rw [fu]
  have answered : o.allAnswered = true ↔ ∀ n, inSet o.expected n = true → o.responders[n] ≠ none := allAnswered_iff o
  generalize gathers : o.gathers (s.now + s.fu.readyWait) = g at closed
  have took : (u.setOwn (some g)).ownAccepted g.number = accepted := by
    subst gathers
    exact ownAccepted_of_held (u := u.setOwn _) (v := { x.view s.now with accepted }) own' view rfl number.symm
  exact {
    claims := by
      rw [closed]
      split
      · rw [closeGathering_claims]
        exact congrArg FloorUnit.claims fu
      · exact congrArg FloorUnit.claims fu
    gathers := fun ⟨n, expected, none_⟩ => by
      rw [closed, if_neg fun h => answered.mp h n expected none_, ← gathers]
      refine ⟨rfl, viewIs_of_view (s := u.setOwn _) view, mic, fun f => ?_⟩
      exact ((State.sameFrames_of_ylc (s := u.setOwn _) (t := s) (frame.part .ylc).symm)).queued
    unheard all_ nowhere_ silent := by
      have nothing : accepted = 0#8 := zoneMask_ext fun z => by
        cases took : inZones accepted z with
        | false => exact (BitVec.getLsbD_zero (w := 8)).symm
        | true => rw [← targeted z took, nowhere_]
      obtain ⟨none_, refusal, out, queued⟩ := closeGathering_of_noZones (g := g) (s := u.setOwn (some g))
        ((noZones_iff g _).mpr ⟨took.trans nothing, by subst gathers; exact silent⟩)
      rw [closed, if_pos (answered.mpr all_)]
      subst gathers
      refine ⟨none_, refusal.trans (congrArg (fun n => some (n + 2000)) now), ?_, fun room => queued run ?_⟩
      · rw [← number]
        exact out _ own'
      · exact (congrArg (fun y : YardLine => y.queue.length) (frame.part .ylc)).trans_lt room
    heard all_ z l target free page good idle := by
      have some_ : inZones accepted z = true := idles z l target free page good
      have zones : ¬ g.noZones ((u.setOwn (some g)).ownAccepted g.number) = true := fun no => by
        rw [((noZones_iff g _).mp no).1.symm.trans took |>.symm] at some_
        exact absurd (some_.symm.trans (BitVec.getLsbD_zero (w := 8))) Bool.noConfusion
      have lines : (u.setOwn (some g)).chimeLines = s.chimeLines := by
        simp [State.chimeLines, State.line, dsq]
      have idle' : (u.setOwn (some g)).dsq.chime = .idle := (congrArg Sequencer.chime dsq).trans idle
      rw [closed, if_pos (answered.mpr all_), closeGathering_of_zones zones]
      refine ⟨⟨{ x.view s.now with accepted }, ?_, rfl, rfl, some_⟩, fun chimes => ?_, fun none_ => ?_⟩
      · rw [(enterChiming_lists g _).2]
        exact view
      · have begun := enterChiming_of_some (o := g) idle' (by rw [lines]; exact chimes) run
        have fu' := (chimeOn_frame (u.setOwn (some g)).chimeLines
          ((u.setOwn (some g)).setOwn (some { g with phase := .chiming, readyWaitEnd := none }))).part .fu
        rw [begun]
        subst gathers
        refine ⟨congrArg FloorUnit.own fu', ?_⟩
        rw [lines, ← now, ← dsq]
        rfl
      · rw [enterChiming_of_none (o := g) idle' (lines.trans none_), ← gathers]
        exact ⟨rfl, rfl⟩ }

/-- Settles O43: what the close of the window leaves, and that the end of the step takes nothing of it back. -/
theorem windowCloseDecidesTheClaim : Obligations.WindowCloseDecidesTheClaim := by
  intro c x s up taking closing left loses
  have claimant : x.claimant = c := by
    have found := List.find?_some closing
    simp only [Bool.and_eq_true, beq_iff_eq] at found
    exact found.1
  subst claimant
  have lost (h : loses) : ¬ s.claimWins x = true := fun wins => (claimWins_iff s x).mp wins h
  have won (h : ¬ loses) : s.claimWins x = true := (claimWins_iff s x).mpr h
  have ran : exec (.windowClose x.claimant) s = .next (asOneChange (windowCloses x.claimant) s) :=
    congrArg Host.Outcome.next (change_of_up up)
  have effect := windowCloses_of_closing taking closing
  refine ⟨fun h foreign => exec_windowClose_of_lost up taking closing (lost h) foreign,
    fun o h own record claiming number =>
      exec_windowClose_of_own_lost up taking closing (lost h) own record claiming number,
    fun h foreign => ?_, fun o h own running record claiming number => ?_⟩
  · obtain ⟨accepted, held, silent, ready, idles⟩ := closeWindow_of_peer foreign (won h)
    have ended := held.asOneChange effect
    have frames := asOneChange_sameFrames (windowCloses x.claimant) s
    have running_of {z : ZoneId} (took : inZones accepted z = true) : s.running = true := by
      cases running : s.running with
      | true => rfl
      | false =>
        rw [silent running] at took
        exact absurd (took.symm.trans (BitVec.getLsbD_zero (w := 8))) Bool.noConfusion
    refine ⟨_, _, ran, ended.view, rfl, rfl, rfl, rfl, rfl, ended.claims, ended.gone, fun listening => silent ?_,
      fun z took => ⟨running_of took, (ended.zones z took).1, (ended.zones z took).2⟩, fun running targeted room =>
        frames.queued (effect ▸ ready running targeted room), idles,
      fun n w o own view holder record floor => ended.displaced n w o own ?_ view holder record floor⟩
    · simp only [State.listening, Bool.and_eq_true, beq_iff_eq] at listening
      simp [State.running, listening.1]
    · rintro rfl
      exact foreign own
  · have ended := (closeWindow_ownWon own (won h) running record claiming number).same
      (t := asOneChange (windowCloses x.claimant) s)
      ((asOneChange_frame _ s).part .fu |>.trans (congrArg State.fu effect))
      (by rw [(asOneChange_moves (windowCloses x.claimant) s).dsq, effect])
      (effect ▸ asOneChange_sameFrames (windowCloses x.claimant) s)
    exact ⟨_, ran, ended.claims, ended.gathers, fun all_ =>
      ⟨ended.unheard all_, ended.heard all_⟩⟩

end Sys2Proof.Machine
end

section
/-! PROOF. What the schedulers, the drills and the movements of school time do to the lines (R18, R107, R110, R131, R169). -/

namespace Sys2Proof.Machine

-- one declaration at a time, as in the tests: the threads of a whole text's proofs do not fit the memory limit
set_option Elab.async false

/-! ## Bells -/

theorem examineEntry_moves (day i : Nat) (due : Int) (s : State) : s.Moves (examineEntry day i due s) := by
  unfold examineEntry
  dsimp only
  split
  · exact ((s.setBs_frame _).moves).trans (forEach_moves (bellRequest_moves _) _ _)
  · exact (s.setBs_frame _).moves

theorem examineDue_moves (s : State) : s.Moves (examineDue s) := by
  have upTo (n : Nat) (t : State) : t.Moves (examineDueUpTo n t) := by
    induction n generalizing t with
    | zero => exact .refl t
    | succ n ih =>
      unfold examineDueUpTo
      split
      · split
        · exact (examineEntry_moves _ _ _ t).trans (ih _)
        · exact .refl t
      · exact .refl t
  unfold examineDue
  split
  · exact upTo _ s
  · exact .refl s

theorem bellsDayChange_moves (t : Nat) (s : State) : s.Moves (bellsDayChange t s) :=
  (newPlanDay_frame _ s).moves.trans (examineDue_moves _)

theorem bellsMovement_moves (m : Movement) (s : State) : s.Moves (bellsMovement m s) := by
  have dayChange := ((examineDue_moves s).frame (newPlanDay_frame (dayOf m.after) _)).trans (examineDue_moves _)
  unfold bellsMovement
  split
  · exact (adoptPlanDay_frame _ s).moves
  all_goals
    split
    · exact .refl s
    · dsimp only
      split
      · exact dayChange
      · exact examineDue_moves s

theorem bellsTakeUp_moves (s : State) : s.Moves (bellsTakeUp s) := (bellsTakeUp_frame s).moves

/-! ## Drills -/

theorem soundOff_moves (initiator : Station) (number : Byte) (s : State) : s.Moves (soundOff initiator number s) :=
  forEach_moves (fun z t => by
    split
    · exact sounderOff_moves z t
    · exact .refl t) allZones s

theorem changeRecord_moves (old new : DrillRecord) (s : State) : s.Moves (changeRecord old new s) := by
  have recorded := (s.setRecord_frame (some new)).moves
  unfold changeRecord phaseEffects
  split
  · exact recorded.trans (releaseEverywhere_moves _ _)
  · split
    · exact recorded.trans (soundOff_moves _ _ _)
    · exact recorded

theorem checkPhase_moves (s : State) : s.Moves (checkPhase s) := by
  unfold checkPhase
  split
  · exact .refl s
  · exact changeRecord_moves _ _ s

theorem askZones_moves (r : DrillRecord) (s : State) : s.Moves (askZones r s) :=
  forEach_moves (drillRequest_moves r.initiator r.number) allZones s

theorem joinDrill_moves (o : DrillOffer) (s : State) : s.Moves (joinDrill o s) := by
  have recorded := (s.setRecord_frame (some (s.joinedRecord o))).moves
  unfold joinDrill
  dsimp only
  split
  · exact recorded.trans (askZones_moves _ _)
  · exact recorded

theorem competeDrill_moves (o : DrillOffer) (r : DrillRecord) (s : State) : s.Moves (competeDrill o r s) := by
  unfold competeDrill
  split
  · exact (((s.setRecord_frame none).moves).trans (releaseEverywhere_moves _ _)).trans (joinDrill_moves o _)
  · exact .refl s

theorem takeOffer_moves (o : DrillOffer) (s : State) : s.Moves (takeOffer o s) := by
  unfold takeOffer
  split
  · exact .refl s
  · split
    · split
      · split
        · exact changeRecord_moves _ _ s
        · exact .refl s
      · split
        · exact .refl s
        · split
          · exact competeDrill_moves o _ s
          · exact joinDrill_moves o s
    · split
      · exact .refl s
      · exact joinDrill_moves o s

theorem hearSilence_moves (initiator : Station) (number : Byte) (s : State) :
    s.Moves (hearSilence initiator number s) := by
  unfold hearSilence
  split
  · split
    · exact changeRecord_moves _ _ s
    · exact .refl s
  · exact .refl s

theorem hearMuster_moves (sender initiator : Station) (number : Byte) (elapsed : Half) (s : State) :
    s.Moves (hearMuster sender initiator number elapsed s) := by
  unfold hearMuster
  split
  · split
    · exact changeRecord_moves _ _ s
    · exact .refl s
  · exact .refl s

theorem hearDrillEnd_moves (initiator : Station) (number : Byte) (why : EndReason) (s : State) :
    s.Moves (hearDrillEnd initiator number why s) := by
  unfold hearDrillEnd
  split
  · split
    · exact changeRecord_moves _ _ s
    · exact .refl s
  · exact .refl s

theorem startDrill_moves (own : Station) (t : Nat) (s : State) : s.Moves (startDrill own t s) :=
  ((((setDru_frame s _).moves).trans (checkPhase_moves _)).trans (askZones_moves _ _)).frame (enqueue_frame _ _)

theorem pressDrillKey_moves (s : State) : s.Moves (pressDrillKey s) := by
  unfold pressDrillKey
  split
  · split
    · exact .refl s
    · split
      · split
        · unfold pressOnDrill
          split <;> exact (changeRecord_moves _ _ s).frame (enqueue_frame _ _)
        · exact startDrill_moves _ _ s
      · exact startDrill_moves _ _ s
  · exact .refl s

theorem pressMusterKey_moves (s : State) : s.Moves (pressMusterKey s) := by
  unfold pressMusterKey
  split
  · split
    · exact ((enqueue_frame _ s).moves).trans (changeRecord_moves _ _ _)
    · exact .refl s
  · exact .refl s

theorem yieldEndsDrill_moves (s : State) : s.Moves (yieldEndsDrill s) := by
  unfold yieldEndsDrill
  split
  · split
    · dsimp only
      split
      · exact (changeRecord_moves _ _ s).frame (enqueue_frame _ _)
      · exact changeRecord_moves _ _ s
    · exact .refl s
  · exact .refl s

theorem yieldEnd_moves (s : State) : s.Moves (yieldEnd s) :=
  ((s.setYielding_frame false).moves).trans (releaseEverywhere_moves _ _)

theorem drillFromBeacon_moves (n : Station) (b : BeaconBody) (s : State) : s.Moves (drillFromBeacon n b s) := by
  unfold drillFromBeacon
  split
  · exact takeOffer_moves _ s
  · exact .refl s

/-! ## School time -/

theorem notifyMovement_moves (m : Movement) (s : State) : s.Moves (notifyMovement m s) := by
  have told := (bellsMovement_moves m s).trans (recomputeAll_moves _)
  have checked : s.Moves (if (recomputeAll (bellsMovement m s)).taking then checkPhase (recomputeAll (bellsMovement m s))
      else recomputeAll (bellsMovement m s)) := by
    split
    · exact told.trans (checkPhase_moves _)
    · exact told
  unfold notifyMovement
  dsimp only
  split
  · exact checked.frame (hourByMovement_frame _)
  · exact checked

theorem moveSchool_moves (kind : MovementKind) (amount : Int) (t : Nat) (s : State) :
    s.Moves (moveSchool kind amount t s) := by
  unfold moveSchool
  dsimp only
  split
  · exact .refl s
  · refine State.Moves.trans (State.keepsAllBut.moves (parts := [.tb, .pt, .ylc]) ?_) (notifyMovement_moves _ _)
    exact ((s.setSchool_frame _ _).andThen (adjustSamples_frame _ _)).andThen (State.setYlc_frame _ _)

theorem agreementRound_moves (s : State) : s.Moves (agreementRound s) := by
  unfold agreementRound
  split
  · exact .refl s
  · dsimp only
    split
    · exact (s.setSchool_frame _ _).moves
    · split
      · exact (s.setSchool_frame _ _).moves
      · exact ((s.setSchool_frame _ _).moves).trans (moveSchool_moves _ _ _ _)

theorem timeFromBeacon_moves (b : BeaconBody) (r : ReceiveStamp) (s : State) : s.Moves (timeFromBeacon b r s) := by
  unfold timeFromBeacon adopt
  split
  · refine State.Moves.trans ?_ (notifyMovement_moves _ _)
    exact (s.setSchool_frame _ _).moves
  · exact .refl s

theorem boundaryReached_moves (t : Nat) (s : State) : s.Moves (boundaryReached t s) := by
  have told : s.Moves (if t % Config.dayMs = 0 && (recomputeAll s).loaded then bellsDayChange t (recomputeAll s)
      else recomputeAll s) := by
    split
    · exact (recomputeAll_moves s).trans (bellsDayChange_moves t _)
    · exact recomputeAll_moves s
  unfold boundaryReached
  dsimp only
  split
  · exact told.frame (hourByRunning_frame t _)
  · exact told

/-! ## The floor in the view -/

theorem floorLeavesView_moves (s : State) : s.Moves (floorLeavesView s) := by
  unfold floorLeavesView
  split
  · exact .refl s
  · exact ((s.setView_frame none).moves).trans (releaseEverywhere_moves _ _)

theorem floorLeaves_moves (holder : Station) (number : Byte) (s : State) : s.Moves (floorLeaves holder number s) := by
  unfold floorLeaves
  split
  · exact floorLeavesView_moves s
  · exact .refl s

theorem ownFloorLeaves_moves (number : Byte) (s : State) : s.Moves (ownFloorLeaves number s) := by
  unfold ownFloorLeaves
  split
  · exact floorLeaves_moves _ number s
  · exact .refl s

theorem hearRelease_moves (sender : Station) (number : Byte) (s : State) : s.Moves (hearRelease sender number s) :=
  ((s.setClaims_frame _).moves).trans (floorLeaves_moves sender number _)

theorem hearFloorSummary_moves (sender : Station) (summary : Option FloorSummary) (delimiter : Nat) (s : State) :
    s.Moves (hearFloorSummary sender summary delimiter s) := by
  unfold hearFloorSummary
  split
  · split
    · exact floorLeavesView_moves s
    · exact .refl s
  · split
    · exact .refl s
    · split
      · exact .refl s
      · exact (s.setView_frame _).moves

theorem floorPeerLost_moves (n : Station) (s : State) : s.Moves (floorPeerLost n s) := by
  unfold floorPeerLost
  split
  · split
    · exact floorLeavesView_moves s
    · exact .refl s
  · exact .refl s

theorem hearClaim_moves (sender : Station) (b : ClaimBody) (s : State) : s.Moves (hearClaim sender b s) := by
  unfold hearClaim
  extract_lets c s1 s2
  have left : s.Moves s1 := by
    unfold s1
    split
    · split
      · exact floorLeavesView_moves s
      · exact .refl s
    · exact .refl s
  have joined : s.Moves s2 := left.frame (joinClaim_frame c s1)
  split
  · split
    · exact joined.frame (enqueue_frame _ _)
    · exact joined
  · exact joined

theorem graceExpires_moves (s : State) : s.Moves (graceExpires s) := by
  unfold graceExpires
  split
  · split
    · exact floorLeavesView_moves s
    · exact .refl s
  · exact .refl s

end Sys2Proof.Machine
end

section
/-! PROOF. The laws of the drive lines (R81, R83, R89, R90) through the chime, the classes of the lines, the resets and the
load. -/

namespace Sys2Proof.Machine

-- one declaration at a time, as in the tests: the threads of a whole text's proofs do not fit the memory limit
set_option Elab.async false

/-! ## What keeps the laws -/

/-- What made `t` of `s` keeps the wiring, with it the drive budget, and the requests at the lines of their slots. -/
structure State.KeepsDrive (s t : State) : Prop where
  wired : s.wired = true → t.wired = true
  budget : s.wired = true → s.budgetLawful = true → t.budgetLawful = true
  requests : s.requestsBound = true → t.requestsBound = true

theorem budgetLawful_iff (s : State) : s.budgetLawful = true ↔ s.energizedCount ≤ s.dsq.budget := decide_eq_true_iff

section

variable {s t u : State} {parts : List Part}

theorem State.KeepsDrive.refl (s : State) : s.KeepsDrive s := ⟨id, fun _ => id, id⟩

theorem State.KeepsDrive.trans (h1 : s.KeepsDrive t) (h2 : t.KeepsDrive u) : s.KeepsDrive u :=
  ⟨fun w => h2.wired (h1.wired w), fun w b => h2.budget (h1.wired w) (h1.budget w b), fun r => h2.requests (h1.requests r)⟩

/-- Moves of the lines keep the laws. -/
theorem State.Moves.keepsDrive (h : s.Moves t) : s.KeepsDrive t where
  wired := h.wired
  budget wired budget := by
    rw [budgetLawful_iff] at *
    have count := h.count wired
    have same : t.dsq.budget = s.dsq.budget := by rw [h.dsq]
    omega
  requests bound := by
    rw [State.requestsBound_iff] at *
    intro l i asks
    rcases h.asks l i asks with before | named
    · exact (h.slots i).trans (bound l i before)
    · exact (h.slots i).trans named

theorem State.keepsAllBut.keepsDrive (h : s.keepsAllBut parts t) (dsq : Part.dsq ∉ parts := by decide)
    (za : Part.za ∉ parts := by decide) (du : Part.du ∉ parts := by decide) : s.KeepsDrive t :=
  (h.moves dsq za du).keepsDrive

theorem State.KeepsDrive.frame (h : s.KeepsDrive t) (next : t.keepsAllBut parts u)
    (dsq : Part.dsq ∉ parts := by decide) (za : Part.za ∉ parts := by decide) (du : Part.du ∉ parts := by decide) :
    s.KeepsDrive u :=
  h.trans (next.keepsDrive dsq za du)

theorem State.KeepsDrive.move (h : s.KeepsDrive t) (next : t.Moves u) : s.KeepsDrive u := h.trans next.keepsDrive

/-- What leaves the kinds, the zones' pages, the budget and the slots, turns no counted line on, asks for nothing, and
takes none but CHIME lines into the chime. -/
theorem State.KeepsDrive.of_lines (kind : ∀ l : LineId, (t.line l).kind = (s.line l).kind) (za : t.za = s.za)
    (du : t.du = s.du) (budget : t.dsq.budget = s.dsq.budget)
    (on : s.wired = true → ∀ l : LineId, (t.line l).state = .energized → (s.line l).state = .energized ∨
      (s.line l).kind.counted = false)
    (asks : ∀ (l : LineId) (i : SlotId), (t.line l).asks i → (s.line l).asks i)
    (chime : ∀ l : LineId, inLines t.dsq.chime.taken l = true →
      inLines s.dsq.chime.taken l = true ∨ (s.line l).kind = .chime) : s.KeepsDrive t where
  wired wired := by
    rw [State.wired_iff] at *
    refine ⟨fun z l named => ?_, fun l taken => ?_⟩
    · rw [State.zone_of_za za] at named
      exact (kind l).trans (wired.1 z l named)
    · exact (kind l).trans ((chime l taken).elim (wired.2 l) id)
  budget wired lawful := by
    rw [budgetLawful_iff] at *
    rw [budget]
    refine (energizedCount_le fun l counted energized => ?_).trans lawful
    rw [kind] at counted
    rcases on wired l energized with was | free
    · exact ⟨counted, was⟩
    · rw [free] at counted
      cases counted
  requests bound := by
    rw [State.requestsBound_iff] at *
    intro l i asked
    rw [State.slot_of_du du]
    exact bound l i (asks l i asked)

/-- A station with nothing driven or asked for, and its zones wired. -/
theorem State.KeepsDrive.of_rest (rest : ∀ l : LineId, (t.line l).state = .off ∧ (t.line l).request = none)
    (chime : t.dsq.chime = .idle) (pages : ∀ (z : ZoneId) (l : LineId), (t.zone z).pageLine = some l →
      (t.line l).kind = .page) : s.KeepsDrive t where
  wired _ := by
    rw [State.wired_iff, chime]
    exact ⟨pages, fun l taken => absurd (taken.symm.trans (BitVec.getLsbD_zero (w := 16))) Bool.noConfusion⟩
  budget _ _ := by
    have none_ : t.energizedCount = 0 := by simp [State.energizedCount, rest]
    rw [budgetLawful_iff, none_]
    exact Nat.zero_le _
  requests _ := by
    rw [State.requestsBound_iff]
    intro l i asks
    rw [LineRecord.asks, (rest l).2] at asks
    cases asks

end

theorem ite_keepsDrive {f : State → State} (c : State → Bool) (keeps : ∀ t : State, t.KeepsDrive (f t)) (t : State) :
    t.KeepsDrive (if c t then f t else t) := by
  split
  · exact keeps t
  · exact .refl t

theorem ifTaking_keepsDrive {f : State → State} (keeps : ∀ t : State, t.KeepsDrive (f t)) (t : State) :
    t.KeepsDrive (ifTaking f t) :=
  ite_keepsDrive State.taking keeps t

theorem ifTargeted_keepsDrive {f : State → State} (target : Byte) (keeps : ∀ t : State, t.KeepsDrive (f t)) (t : State) :
    t.KeepsDrive (ifTargeted target f t) :=
  ite_keepsDrive (fun u => targetsOwn u.own target) keeps t

theorem forStation_keepsDrive {b : Byte} {f : Station → State → State} (keeps : ∀ n (t : State), t.KeepsDrive (f n t))
    (t : State) : t.KeepsDrive (forStation b f t) := by
  unfold forStation
  split
  · exact keeps _ t
  · exact .refl t

/-! ## The chime -/

/-- R90: a bit of the mask of the CHIME lines. -/
theorem chimeLines_kind {s : State} {l : LineId} (taken : inLines s.chimeLines l = true) : (s.line l).kind = .chime := by
  have bit : inLines s.chimeLines l = ((s.line l).kind == .chime && (s.line l).state != .faultDisabled) := by
    refine (foldl_lineBit_getLsbD _ allLines 0 l).trans ?_
    simp [allLines, List.mem_finRange]
  rw [bit, Bool.and_eq_true, beq_iff_eq] at taken
  exact taken.1

/-- R90: switches of lines of the chime, and a change of the chime player over lines it may take. -/
theorem chimeOff_keepsDrive {mask : LineMask} {c : ChimePlayer} {s : State}
    (taken : ∀ l : LineId, inLines c.taken l = true → inLines s.dsq.chime.taken l = true ∨ (s.line l).kind = .chime) :
    s.KeepsDrive ((chimeOff mask s).setChime c) := by
  have frame := chimeOff_frame mask s
  have line (l : LineId) : ((chimeOff mask s).setChime c).line l =
      if inLines mask l && (s.line l).state == .energized then (s.line l).turnedOff else s.line l := chimeOff_line mask s l
  refine .of_lines (fun l => ?_) (frame.part .za) (frame.part .du) ?_ (fun _ l on => ?_) (fun l i asks => ?_) taken
  · rw [line]
    split <;> rfl
  · have budget : (chimeOff mask s).dsq.budget = s.dsq.budget := by rw [chimeOff_dsq]
    exact budget
  · rw [line] at on
    split at on
    · cases on
    · exact .inl on
  · rw [line] at asks
    split at asks
    · cases asks
    · exact asks

theorem chimeOn_keepsDrive {mask : LineMask} {c : ChimePlayer} {s : State}
    (kinds : s.wired = true → ∀ l : LineId, inLines mask l = true → (s.line l).kind = .chime)
    (taken : ∀ l : LineId, inLines c.taken l = true → inLines s.dsq.chime.taken l = true ∨ (s.line l).kind = .chime) :
    s.KeepsDrive ((chimeOn mask s).setChime c) := by
  have frame := chimeOn_frame mask s
  have line (l : LineId) : ((chimeOn mask s).setChime c).line l =
      if inLines mask l && (s.line l).state == .off then { s.line l with state := .energized } else s.line l :=
    chimeOn_line mask s l
  refine .of_lines (fun l => ?_) (frame.part .za) (frame.part .du) ?_ (fun wired l on => ?_) (fun l i asks => ?_) taken
  · rw [line]
    split <;> rfl
  · have budget : (chimeOn mask s).dsq.budget = s.dsq.budget := by rw [chimeOn_dsq]
    exact budget
  · rw [line] at on
    split at on
    · rename_i switched
      rw [Bool.and_eq_true] at switched
      refine .inr ?_
      rw [kinds wired l switched.1]
      rfl
    · exact .inl on
  · rw [line] at asks
    split at asks <;> exact asks

theorem cancelChime_keepsDrive (s : State) : s.KeepsDrive (cancelChime s) := by
  have off (mask : LineMask) : s.KeepsDrive ((chimeOff mask s).setChime .idle) :=
    chimeOff_keepsDrive fun l taken => absurd (taken.symm.trans (BitVec.getLsbD_zero (w := 16))) Bool.noConfusion
  unfold cancelChime
  split
  · exact .refl s
  · exact off _
  · exact off _

theorem startChime_keepsDrive (s : State) : s.KeepsDrive (startChime s).1 := by
  have cancelled := cancelChime_keepsDrive s
  unfold startChime
  dsimp only
  split
  · exact cancelled
  · refine cancelled.trans (chimeOn_keepsDrive (fun _ l taken => chimeLines_kind taken) fun l taken => .inr ?_)
    exact chimeLines_kind taken

theorem chimeWidthEnds_keepsDrive (s : State) : s.KeepsDrive (chimeWidthEnds s) := by
  unfold chimeWidthEnds
  split
  · rename_i phase mask ends playing
    split
    · have phaseEnd : s.KeepsDrive (chimePhaseEnd phase mask s).1 := by
        unfold chimePhaseEnd
        dsimp only
        split
        · exact chimeOff_keepsDrive fun l taken =>
            absurd (taken.symm.trans (BitVec.getLsbD_zero (w := 16))) Bool.noConfusion
        · exact chimeOff_keepsDrive fun l taken => .inl (by rw [playing]; exact taken)
      split <;> rename_i h <;> rw [h] at phaseEnd
      · exact phaseEnd.frame (enterLive_frame _)
      · exact phaseEnd
    · exact .refl s
  · exact .refl s
  · exact .refl s

theorem chimeGapEnds_keepsDrive (s : State) : s.KeepsDrive (chimeGapEnds s) := by
  unfold chimeGapEnds
  split
  · rename_i phase mask ends gap
    split
    · refine chimeOn_keepsDrive (fun wired l taken => ?_) fun l taken => .inl ?_
      · refine (State.wired_iff.mp wired).2 l ?_
        rw [gap]
        exact taken
      · rw [gap]
        exact taken
    · exact .refl s
  · exact .refl s
  · exact .refl s

/-! ## The classes of the lines -/

/-- A line rewritten that is not newly on and asks for nothing new. -/
theorem setLine_keepsDrive {l : LineId} {r : LineRecord} {s : State} (kind : r.kind = (s.line l).kind)
    (on : r.state = .energized → (s.line l).state = .energized) (asks : ∀ i, r.asks i → (s.line l).asks i) :
    s.KeepsDrive (s.setLine l r) := by
  have line (m : LineId) : (s.setLine l r).line m = if m = l then r else s.line m := by
    by_cases e : m = l
    · subst e
      rw [State.setLine_line_same, if_pos rfl]
    · rw [State.setLine_line_ne _ _ _ _ e, if_neg e]
  refine .of_lines (fun m => ?_) rfl rfl rfl (fun _ m energized => .inl ?_) (fun m i asked => ?_) fun m taken => .inl taken
  · rw [line]
    split
    · rename_i e
      exact e ▸ kind
    · rfl
  · rw [line] at energized
    split at energized
    · rename_i e
      exact e ▸ on energized
    · exact energized
  · rw [line] at asked
    split at asked
    · rename_i e
      exact e ▸ asks i asked
    · exact asked

/-- R96, R97: a sample, with the class it may bring, turns no line on and asks for nothing. -/
theorem afterSample_drive (r : LineRecord) (x : SenseResult) : (r.afterSample x).kind = r.kind ∧
    ((r.afterSample x).state = .energized → r.state = .energized) ∧ ∀ i, (r.afterSample x).asks i → r.asks i := by
  have sampled : (r.sampled x).kind = r.kind ∧ (r.sampled x).state = r.state ∧ (r.sampled x).request = r.request := by
    unfold LineRecord.sampled
    split <;> exact ⟨rfl, rfl, rfl⟩
  obtain ⟨kind, state, request⟩ := sampled
  unfold LineRecord.afterSample
  split
  · split
    · refine ⟨kind, fun on => ?_, fun i asks => ?_⟩
      · rw [← state]
        cases was : (r.sampled x).state <;> simp [LineRecord.faulted, was, LineState.afterFault] at on ⊢
      · unfold LineRecord.asks LineRecord.faulted at *
        dsimp only at asks
        split at asks
        · cases asks
        · rwa [← request]
    · refine ⟨kind, fun on => ?_, fun i asks => ?_⟩
      · rw [← state]
        simp only [LineRecord.cleared] at on
        split at on
        · cases on
        · exact on
      · rwa [LineRecord.asks, ← request]
  · rw [state, kind]
    exact ⟨rfl, id, fun i asks => by rwa [LineRecord.asks, ← request]⟩

theorem sampleLine_keepsDrive (l : LineId) (x : SenseResult) (s : State) : s.KeepsDrive (sampleLine l x s) := by
  obtain ⟨kind, on, asks⟩ := afterSample_drive (s.line l) x
  exact (setLine_keepsDrive kind on asks).move (sampleLine_moves l x s)

/-- A write of the sequencer that leaves the lines, the budget and the chime. -/
theorem setDsq_keepsDrive {s : State} {d : Sequencer} (lines : d.lines = s.dsq.lines) (budget : d.budget = s.dsq.budget)
    (chime : d.chime = s.dsq.chime) : s.KeepsDrive { s with dsq := d } := by
  have line (l : LineId) : ({ s with dsq := d } : State).line l = s.line l := by simp [State.line, lines]
  refine .of_lines (fun l => by rw [line]) rfl rfl budget (fun _ l on => .inl (by rwa [line] at on))
    (fun l i asks => by rwa [line] at asks) fun l taken => .inl ?_
  rw [← chime]
  exact taken

theorem supervise_keepsDrive (x : SenseResult) (s : State) : s.KeepsDrive (supervise x s) := by
  have passed : s.KeepsDrive s.slotPassed := setDsq_keepsDrive rfl rfl rfl
  unfold supervise
  dsimp only
  split
  · exact passed.trans (sampleLine_keepsDrive _ x _)
  · exact passed

theorem overcurrentReports_keepsDrive (l : LineId) (old : LineRecord) (s : State) :
    s.KeepsDrive (overcurrentReports l old s) := by
  unfold overcurrentReports
  split
  · split
    · exact ((abortImpulse_moves _ s).trans (classToDial_moves l _)).keepsDrive
    · exact (classToDial_moves l s).keepsDrive
  · exact (playerAborted_moves _ _ s).keepsDrive
  · exact (playerAborted_moves _ _ s).keepsDrive
  · exact (pageCut_moves l s).keepsDrive
  · refine .of_lines (fun _ => rfl) rfl rfl rfl (fun _ _ on => .inl on) (fun _ _ asks => asks) fun m taken => .inl ?_
    have fewer (mask : LineMask) (h : inLines (mask &&& ~~~ lineBit l) m = true) : inLines mask m = true := by
      rw [inLines, BitVec.getLsbD_and, Bool.and_eq_true] at h
      exact h.1
    revert taken
    show inLines (s.dsq.chime.without l).taken m = true → _
    cases s.dsq.chime with
    | idle => exact id
    | on phase mask ends => exact fewer mask
    | gap phase mask ends => exact fewer mask
  · exact .refl s

theorem overcurrentAt_keepsDrive (l : LineId) (s : State) : s.KeepsDrive (overcurrentAt l s) := by
  have cut : s.KeepsDrive (s.setLine l (s.line l).overcurrent) :=
    setLine_keepsDrive rfl nofun fun i asks => by cases asks
  unfold overcurrentAt
  dsimp only
  split
  · exact cut.trans (overcurrentReports_keepsDrive _ _ _)
  · exact .refl s

/-! ## The players -/

theorem playerPhaseEnds_moves (l : LineId) (s : State) : s.Moves (playerPhaseEnds l s) := by
  unfold playerPhaseEnds
  dsimp only
  split
  · exact (setPlayer_moves l _).trans (bellFinished_moves l _)
  · exact setPlayer_moves l _

theorem widthExpires_moves (l : LineId) (s : State) : s.Moves (widthExpires l s) := by
  have off : s.Moves (s.setLine l (s.line l).turnedOff) := turnedOff_moves l _
  unfold widthExpires
  split
  · split
    · unfold periodEnds
      dsimp only
      split
      · exact off.trans (deliverImpulse_moves _ _ _)
      · exact off.trans (playerPhaseEnds_moves l _)
    · exact .refl s
  · exact .refl s

theorem gapEnds_moves (l : LineId) (s : State) : s.Moves (gapEnds l s) := by
  unfold gapEnds
  dsimp only
  split
  · rename_i ends _
    split
    · have asked := (setPlayer_moves (s := s) l { (s.line l).player with phase := (s.line l).player.phase + 1 }).trans
        (requestPhase_moves l ends _)
      split <;> rename_i h <;> rw [h] at asked
      · exact asked
      · exact asked.trans (playerAborted_moves _ _ _)
    · exact .refl s
  all_goals exact .refl s

/-! ## The Floor Unit -/

theorem ownIdle_keepsDrive (s : State) : s.KeepsDrive (ownIdle s) :=
  (((s.setOwn_frame none).andThen (State.setMic_frame _ false)).keepsDrive).trans (cancelChime_keepsDrive _)

theorem enterChiming_keepsDrive (o : OwnClaim) (s : State) : s.KeepsDrive (enterChiming o s) := by
  have started := ((s.setOwn_frame (some { o with phase := .chiming, readyWaitEnd := none })).keepsDrive).trans
    (startChime_keepsDrive _)
  unfold enterChiming
  split <;> rename_i h <;> rw [h] at started
  · exact started.frame (enterLive_frame _)
  · exact started

theorem closeGathering_keepsDrive (o : OwnClaim) (s : State) : s.KeepsDrive (closeGathering o s) := by
  unfold closeGathering
  split
  · exact (((s.setOwn_frame none).andThen (enqueue_frame _ _)).andThen (showRefusal_frame _ _)).keepsDrive.move
      (ownFloorLeaves_moves _ _)
  · exact enterChiming_keepsDrive o s

theorem ownWin_keepsDrive (number : Byte) (s : State) : s.KeepsDrive (ownWin number s) := by
  unfold ownWin
  split
  · split
    · dsimp only
      split
      · exact (s.setOwn_frame _).keepsDrive.trans (closeGathering_keepsDrive _ _)
      · exact (s.setOwn_frame _).keepsDrive
    · exact .refl s
  · exact .refl s

theorem ownDisplaced_keepsDrive (s : State) : s.KeepsDrive (ownDisplaced s) := by
  unfold ownDisplaced
  split
  · split
    · exact (ownIdle_keepsDrive s).frame (lampOff_frame _ _)
    · exact .refl s
  · exact .refl s

theorem ownHoldEnds_keepsDrive (o : OwnClaim) (s : State) : s.KeepsDrive (ownHoldEnds o s) :=
  (((queueRelease_frame o.number .expired s).keepsDrive.trans (ownIdle_keepsDrive _)).frame (lampOff_frame _ _)).move
    (ownFloorLeaves_moves _ _)

theorem hearObject_keepsDrive (claimant : Station) (number : Byte) (s : State) :
    s.KeepsDrive (hearObject claimant number s) := by
  unfold hearObject
  split
  · exact (s.setClaims_frame _).keepsDrive
  · split
    · split
      · exact (((ownIdle_keepsDrive s).frame (showRefusal_frame _ _)).move (ownFloorLeaves_moves _ _)).frame
          (queueRelease_frame _ _ _)
      · exact .refl s
    · exact .refl s

theorem hearReady_keepsDrive (sender holder : Station) (number : Byte) (mask : ZoneMask) (s : State) :
    s.KeepsDrive (hearReady sender holder number mask s) := by
  unfold hearReady
  split
  · split
    · dsimp only
      split
      · exact (s.setOwn_frame _).keepsDrive.trans (closeGathering_keepsDrive _ _)
      · exact (s.setOwn_frame _).keepsDrive
    · exact .refl s
  · exact .refl s

theorem displaceFloor_keepsDrive (x : ClaimEntry) (s : State) : s.KeepsDrive (displaceFloor x s) := by
  unfold displaceFloor
  split
  · exact .refl s
  · split
    · exact .refl s
    · dsimp only
      split
      · exact (floorLeavesView_moves s).keepsDrive.trans (ownDisplaced_keepsDrive _)
      · exact (floorLeavesView_moves s).keepsDrive

theorem takenBy_keepsDrive (x : ClaimEntry) (s : State) : s.KeepsDrive (s.takenBy x) :=
  (((displaceFloor_keepsDrive x s).frame (State.setView_frame _ _)).move (offerZones_moves x _ _)).frame
    (State.setView_frame _ _)

theorem closeWindow_keepsDrive (x : ClaimEntry) (s : State) : s.KeepsDrive (closeWindow x s) := by
  have gone := (claimLeaves_frame x.claimant s).keepsDrive
  unfold closeWindow
  dsimp only
  split
  · exact gone.frame (claimLoses_frame x _)
  · split
    · refine gone.trans ?_
      have taken := takenBy_keepsDrive x (claimLeaves x.claimant s)
      by_cases own : (claimLeaves x.claimant s).own = some x.claimant
      · rw [claimWon_of_own own]
        exact taken.trans (ownWin_keepsDrive _ _)
      · rw [claimWon_of_peer own]
        split
        · exact taken
        · exact taken.frame (enqueue_frame _ _)
    · exact (gone.trans (displaceFloor_keepsDrive x _)).frame (State.setView_frame _ _)

theorem releaseOwnKey_keepsDrive (o : OwnClaim) (s : State) : s.KeepsDrive (releaseOwnKey o s) := by
  have ended (why : ReleaseReason) := ((queueRelease_frame o.number why s).keepsDrive.trans (ownIdle_keepsDrive _)).frame
    (lampOff_frame o.key _)
  unfold releaseOwnKey
  split
  · exact (ended _).frame (ownClaimLeaves_frame _)
  all_goals exact (ended _).move (ownFloorLeaves_moves _ _)

theorem floorYield_keepsDrive (s : State) : s.KeepsDrive (floorYield s) := by
  unfold floorYield
  refine State.KeepsDrive.move ?_ (floorLeavesView_moves _)
  split
  · rename_i o _
    have given := ((queueRelease_frame o.number .yield s).keepsDrive.trans (ownIdle_keepsDrive _)).frame
      (lampOff_frame o.key _)
    dsimp only
    split
    · exact given.frame (ownClaimLeaves_frame _)
    · exact given
  · exact .refl s

theorem keyReleased_keepsDrive (k : KeyId) (s : State) : s.KeepsDrive (keyReleased k s) := by
  unfold keyReleased
  dsimp only
  split
  · split
    · exact (s.setKey_frame _ _).keepsDrive.trans (releaseOwnKey_keepsDrive _ _)
    · exact (s.setKey_frame _ _).keepsDrive
  · exact (s.setKey_frame _ _).keepsDrive

theorem windowCloses_keepsDrive (claimant : Station) (s : State) : s.KeepsDrive (windowCloses claimant s) := by
  unfold windowCloses
  split
  · exact ite_keepsDrive State.taking (closeWindow_keepsDrive _) s
  · exact .refl s

theorem readyWaitEnds_keepsDrive (s : State) : s.KeepsDrive (readyWaitEnds s) := by
  unfold readyWaitEnds
  split
  · split
    · exact closeGathering_keepsDrive _ s
    · exact .refl s
  · exact .refl s

theorem holdEnds_keepsDrive (s : State) : s.KeepsDrive (holdEnds s) := by
  unfold holdEnds
  split
  · split
    · exact ownHoldEnds_keepsDrive _ s
    · exact .refl s
  · exact .refl s

/-! ## Yield -/

theorem yieldStart_keepsDrive (s : State) : s.KeepsDrive (yieldStart s) :=
  (((s.setYielding_frame true).keepsDrive.move (yieldEndsDrill_moves _)).trans (floorYield_keepsDrive _)).move
    (forEach_moves yieldRequest_moves allZones _)

theorem updateYield_keepsDrive (s : State) : s.KeepsDrive (updateYield s) := by
  cases taking : s.taking with
  | false => simpa [updateYield, taking] using State.KeepsDrive.refl s
  | true =>
    rcases updateYield_cases s taking with ⟨-, -, h⟩ | ⟨-, -, h⟩ | ⟨-, h⟩ <;> rw [h]
    · exact s.withPeerCause_frame.keepsDrive.trans (yieldStart_keepsDrive _)
    · exact s.withPeerCause_frame.keepsDrive.move (yieldEnd_moves _)
    · exact s.withPeerCause_frame.keepsDrive

theorem contactToYield_keepsDrive (s : State) : s.KeepsDrive (contactToYield s) := by
  unfold contactToYield
  split
  · exact (s.setYielding_frame _).keepsDrive
  · exact updateYield_keepsDrive s

theorem contactChanges_keepsDrive (on : Bool) (s : State) : s.KeepsDrive (contactChanges on s) := by
  unfold contactChanges
  refine State.KeepsDrive.trans ?_ (contactToYield_keepsDrive _)
  split
  · exact ((setDru_frame s _).andThen (enqueue_frame _ _)).keepsDrive
  · exact (setDru_frame s _).keepsDrive

theorem beaconFrom_keepsDrive (n : Station) (b : BeaconBody) (r : ReceiveStamp) (s : State) :
    s.KeepsDrive (beaconFrom n b r s) := by
  have timed := ((s.setPeer_frame n ((s.peer n).afterBeacon b (s.stampTaken r) s.now)).keepsDrive).move
    (timeFromBeacon_moves b r _)
  unfold beaconFrom
  dsimp only
  split
  · exact ((timed.move (hearFloorSummary_moves _ _ _ _)).move (drillFromBeacon_moves _ _ _)).trans
      (updateYield_keepsDrive _)
  · exact timed

theorem peerLost_keepsDrive (n : Station) (s : State) : s.KeepsDrive (peerLost n s) := by
  have lost := (s.setPeer_frame n (s.peer n).lost).keepsDrive
  unfold peerLost
  dsimp only
  split
  · exact (lost.move (floorPeerLost_moves n _)).trans (updateYield_keepsDrive _)
  · exact lost

/-! ## The transmit queue and the receiver -/

theorem requestBeacon_frame (s : State) : s.keepsAllBut [.tb, .ylc, .fu] (requestBeacon s) := by
  unfold requestBeacon
  split
  · exact (enqueue_frame _ s).within
  · split
    · exact (setTb_frame s _).within
    · exact s.keepsAllBut_refl _

theorem releaseHeld_frame (f : OutFrame) (s : State) : s.keepsAllBut [.tb, .ylc, .fu] (releaseHeld f s) := by
  unfold releaseHeld releaseHeldBeacon releaseHeldAsk
  split
  · split
    · exact ((setTb_frame s _).andThen (requestBeacon_frame _)).within
    · exact s.keepsAllBut_refl _
  · split
    · exact ((s.setYlc_frame _).andThen (requestReply_frame _ _ _)).within
    · exact s.keepsAllBut_refl _
  · exact s.keepsAllBut_refl _

theorem reportSent_moves (f : OutFrame) (s : State) : s.Moves (reportSent f s) := by
  unfold reportSent
  split
  · exact agreementRound_moves s
  · exact (claimSent_frame _ s).moves
  · exact .refl s

theorem afterAttempt_frame (s : State) (queue : List QueuedFrame) (counts : LinkCounts) :
    s.keepsAllBut [.ylc] (s.afterAttempt queue counts) := s.setYlc_frame _

theorem frameSent_moves (i : Nat) (q : QueuedFrame) (s : State) : s.Moves (frameSent i q s) := by
  rw [frameSent_eq]
  exact ((afterAttempt_frame s _ _).moves.trans (reportSent_moves q.frame _)).frame (releaseHeld_frame q.frame _)

theorem frameCollided_frame (i : Nat) (q : QueuedFrame) (s : State) :
    s.keepsAllBut [.tb, .ylc, .fu] (frameCollided i q s) := by
  by_cases early : q.attempts + 1 < 8
  · rw [frameCollided_of_early i s early]
    exact ((afterAttempt_frame s _ _).andThen (releaseHeld_frame q.frame _)).within
  · rw [frameCollided_of_last i s (Nat.not_lt.mp early)]
    exact (((afterAttempt_frame s _ _).andThen (reportLost_frame q.frame _)).andThen (releaseHeld_frame q.frame _)).within

theorem whileSending_moves {f : Nat → QueuedFrame → State → State} (moves : ∀ i q (t : State), t.Moves (f i q t))
    (s : State) : s.Moves (whileSending f s) := by
  unfold whileSending
  split
  · split
    · exact .refl s
    · split
      · exact .refl s
      · exact moves _ _ s
  · exact .refl s

/-- R37 to R40: the receiver's own part of a frame heard leaves the lines. -/
theorem accept_keepsDrive {sender : Byte} {deliver : Station → ReceiveStamp → State → State}
    (keeps : ∀ n r (t : State), t.KeepsDrive (deliver n r t)) (s : State) : s.KeepsDrive (accept sender deliver s) := by
  have hunts := s.setYlc_frame s.ylc.hunt
  have counted (y : YardLine) : s.keepsAllBut [.ylc] ((s.setYlc s.ylc.hunt).setYlc y) :=
    (hunts.andThen (State.setYlc_frame _ y)).within
  unfold accept
  dsimp only
  split
  · exact hunts.keepsDrive
  · split
    · exact (counted _).keepsDrive
    · split
      · exact (counted _).keepsDrive
      · split
        · exact ((counted _).andThen (peerHeard_frame _ _)).keepsDrive.trans (keeps _ _ _)
        · exact (counted _).keepsDrive

end Sys2Proof.Machine
end

section
/-! PROOF. The laws of the drive lines (R81, R83, R89, R90) through the resets, the supply failure and the load. -/

namespace Sys2Proof.Machine

-- one declaration at a time, as in the tests: the threads of a whole text's proofs do not fit the memory limit
set_option Elab.async false

/-! ## HOLD-UP -/

/-- R119: emptied zones keep their lines. -/
theorem emptyZones_moves (s : State) : s.Moves (emptyZones s) := by
  rw [emptyZones_eq]
  refine (forEach_moves (fun z t => ?_) allZones s).trans (syncTrunk_moves _)
  unfold emptyZone
  dsimp only
  split
  · exact (bellMissed_moves _ t).trans (setZone_moves rfl)
  · exact setZone_moves rfl

/-- R92: a line that is cut is off, and asks for nothing. -/
theorem cutSequencer_line (s : State) (l : LineId) : ({ s with dsq := s.dsq.cut } : State).line l = (s.line l).cut := by
  simp [State.line, Sequencer.cut]

theorem sequencerCut_keepsDrive (s : State) : s.KeepsDrive { s with dsq := s.dsq.cut } := by
  refine .of_lines (fun l => ?_) rfl rfl rfl (fun _ l on => ?_) (fun l i asks => ?_) fun l taken =>
    absurd (taken.symm.trans (BitVec.getLsbD_zero (w := 16))) Bool.noConfusion
  · rw [cutSequencer_line]
    rfl
  · rw [cutSequencer_line, LineRecord.cut] at on
    dsimp only at on
    split at on <;> cases on
  · rw [cutSequencer_line] at asks
    cases asks

theorem dialCut_moves (i : SlotId) (s : State) : s.Moves (dialCut i s) := by
  unfold dialCut
  split
  · exact abortImpulse_moves i s
  · exact dropImpulse_moves i s
  · exact .refl s

theorem enterHoldUp_keepsDrive (s : State) : s.KeepsDrive (enterHoldUp s) := by
  have cut : s.KeepsDrive (holdUpCut s) :=
    ((((holdUpSnapshot_frame s).keepsDrive.trans (sequencerCut_keepsDrive _)).move (emptyZones_moves _)).frame
      (stopForHoldUp_frame _)).frame (floorHoldUp_frame _)
  rw [enterHoldUp_eq]
  exact (cut.move (forEach_moves dialCut_moves allSlots _)).move (examineDue_moves _)

theorem warningAsserts_keepsDrive (s : State) : s.KeepsDrive (warningAsserts s) := by
  have warned := (setDs_frame s { s.ds with warning := true }).keepsDrive
  unfold warningAsserts
  dsimp only
  split
  · exact warned
  · split
    · exact warned.trans (enterHoldUp_keepsDrive _)
    · exact warned.frame (setDs_frame _ _)

/-! ## Resets -/

theorem enterConfigFault_keepsDrive (code : FaultCode) (s : State) : s.KeepsDrive (enterConfigFault code s) := by
  unfold enterConfigFault
  refine State.KeepsDrive.trans (State.Moves.keepsDrive ?_) (startBeaconTimer_frame _).keepsDrive
  exact .of_same rfl (fun _ => rfl) fun _ => rfl

theorem startLoading_keepsDrive (straps : BitVec 5) (s : State) : s.KeepsDrive (startLoading straps s) := by
  unfold startLoading
  split
  · exact (setSp_frame s _).keepsDrive
  · exact enterConfigFault_keepsDrive _ s

theorem endOfReset_keepsDrive (straps : BitVec 5) (s : State) : s.KeepsDrive (endOfReset straps s) :=
  ((eraseIfFull_frame s).keepsDrive.trans (startLoading_keepsDrive straps _)).trans
    (ite_keepsDrive (fun t => t.ds.warning) warningAsserts_keepsDrive _)

/-- R100, R120: the sequencer and the zones after a reset drive nothing and name no line. -/
theorem afterReset_keepsDrive (s : State) {t : State} (dsq : t.dsq = Sequencer.afterReset)
    (za : t.za = ZoneArbiter.afterReset) : s.KeepsDrive t := by
  refine .of_rest (fun l => ?_) (by rw [dsq]; rfl) fun z l named => ?_
  · simp [State.line, dsq, Sequencer.afterReset, LineRecord.afterReset]
  · simp [State.zone, za, ZoneArbiter.afterReset, Zone.afterReset] at named

theorem warmReset_keepsDrive (cause : ResetCause) (s : State) : s.KeepsDrive (warmReset cause s) :=
  afterReset_keepsDrive s rfl rfl

theorem collapse_keepsDrive (s : State) : s.KeepsDrive (collapse s) := afterReset_keepsDrive s rfl rfl

theorem powerOnReset_keepsDrive (straps : BitVec 5) (warning : Bool) (s : State) :
    s.KeepsDrive (powerOnReset straps warning s) := by
  have scan := recoveryScan_frame { collapse s with powered := true }
  have scanned : s.KeepsDrive (recoveryScan { collapse s with powered := true }) :=
    afterReset_keepsDrive s (scan.part .dsq) (scan.part .za)
  have erased := scanned.frame (eraseIfFull_frame _)
  unfold powerOnReset
  dsimp only
  split
  · exact erased.frame (setDs_frame _ _)
  · exact (erased.frame (setDs_frame _ _)).trans (endOfReset_keepsDrive _ _)

/-! ## The load -/

/-- R101: a line that an image gives a zone at a place is of the kind of that place. -/
theorem readZoneLines_kind (kinds : Vector LineKind 16) (c : List Byte) {l : LineId} (codes : List Nat) :
    ∀ (named : List Nat) (j : Nat), (readZoneLines kinds c named codes).1[j]? = some (some l) →
      ∃ place, codes[j]? = some place ∧ kinds[l] = zoneKind place := by
  induction codes with
  | nil => exact fun _ j read => by simp [readZoneLines] at read
  | cons place rest ih =>
    intro named j read
    have entry : ∃ first : Option LineId, (readZoneLines kinds c named (place :: rest)).1 =
        first :: (readZoneLines kinds c ((field8 c place).getD 0 :: named) rest).1 ∧
        (first = some l → kinds[l] = zoneKind place) := by
      rw [readZoneLines]
      split
      · exact ⟨_, rfl, nofun⟩
      · split
        · split
          · rename_i usable
            exact ⟨_, rfl, fun same => Option.some.inj same ▸ usable.1⟩
          · exact ⟨_, rfl, nofun⟩
        · exact ⟨_, rfl, nofun⟩
    obtain ⟨first, list, kind⟩ := entry
    rw [list] at read
    cases j with
    | zero => exact ⟨place, rfl, kind (by simpa using read)⟩
    | succ j => exact ih _ j read

/-- R101: the page line that an image gives a zone is of kind PAGE. -/
theorem settingsOf_pageLine (sections : List Section) {z : ZoneId} {l : LineId}
    (named : (settingsOf sections).1.zones[z].pageLine = some l) : (settingsOf sections).1.kinds[l] = .page := by
  have zones : ∃ c, (settingsOf sections).1.zones =
      zonesFrom (readZoneLines (settingsOf sections).1.kinds c [] (List.range 24)).1 := ⟨_, rfl⟩
  obtain ⟨c, zones⟩ := zones
  rw [zones, zonesFrom_zone] at named
  obtain ⟨place, at_, kind⟩ := readZoneLines_kind (l := l) _ c (List.range 24) [] (3 * z.val + 1) (by
    dsimp only at named
    rw [List.getD_eq_getElem?_getD] at named
    cases read : (readZoneLines (settingsOf sections).1.kinds c [] (List.range 24)).1[3 * z.val + 1]? with
    | none => simp [read] at named
    | some x => simpa [read] using named)
  have here : place = 3 * z.val + 1 := by
    rw [List.getElem?_range (by omega)] at at_
    exact (Option.some.inj at_).symm
  have place_mod : (3 * z.val + 1) % 3 = 1 := by omega
  simp only [kind, here, zoneKind, place_mod]

/-- R200: the station with the settings of an image and its slots bound drives nothing. -/
theorem settingsBound_keepsDrive (i : CheckedImage) (s : State) :
    s.KeepsDrive ((applySettings i (settingsOf i.sections).1 (settingsOf i.sections).2 s).withSlots
      (settingsOf i.sections).1.clocks) := by
  have line (l : LineId) : ((applySettings i (settingsOf i.sections).1 (settingsOf i.sections).2 s).withSlots
      (settingsOf i.sections).1.clocks).line l = LineRecord.afterReset (settingsOf i.sections).1.kinds[l] :=
    afterLoad_line rfl l
  refine .of_rest (fun l => ?_) rfl fun z l named => ?_
  · rw [line]
    exact ⟨rfl, rfl⟩
  · rw [line]
    exact settingsOf_pageLine i.sections (z := z) named

theorem imageRead_keepsDrive (memory : List Byte) (s : State) : s.KeepsDrive (imageRead memory s) := by
  unfold imageRead
  split
  · rename_i i _
    have loaded : s.KeepsDrive (loadedWith i s) :=
      ((settingsBound_keepsDrive i s).move (recomputeAll_moves _)).move (bellsTakeUp_moves _)
    rw [enterListening_eq]
    exact (loaded.frame (State.setYielding_frame _ false)).trans (updateYield_keepsDrive _)
  · exact enterConfigFault_keepsDrive _ s

theorem enterRunning_moves (s : State) : s.Moves (enterRunning s) := by
  have examined := ((((setSp_frame s { s.sp with config := .running, listeningEnd := none }).andThen
    (startBeaconTimer_frame _)).moves.trans (forEach_moves tryImpulse_moves allSlots _)).trans
    (forEach_moves startEffects_moves allZones _)).trans (examineDue_moves _)
  unfold enterRunning
  dsimp only
  split
  · exact examined.frame (enqueue_frame _ _)
  · exact examined

end Sys2Proof.Machine
end

section
/-! PROOF. R81, R83: the laws of the drive lines through every command and every step. -/

namespace Sys2Proof.Machine

-- one declaration at a time, as in the tests: the threads of a whole text's proofs do not fit the memory limit
set_option Elab.async false

/-- An effect that keeps the laws keeps them as one change. -/
theorem change_keepsDrive {f : State → State} (keeps : ∀ t : State, t.KeepsDrive (f t)) (s : State) :
    s.KeepsDrive (change f s) := by
  unfold change whenUp
  split
  · exact (keeps s).move (asOneChange_moves f s)
  · exact .refl s

theorem change_keepsDrive_of_moves {f : State → State} (moves : ∀ t : State, t.Moves (f t)) (s : State) :
    s.KeepsDrive (change f s) :=
  change_keepsDrive (fun t => (moves t).keepsDrive) s

theorem change_keepsDrive_of_frame {f : State → State} {parts : List Part} (frame : ∀ t : State, t.keepsAllBut parts (f t))
    (s : State) (dsq : Part.dsq ∉ parts := by decide) (za : Part.za ∉ parts := by decide)
    (du : Part.du ∉ parts := by decide) : s.KeepsDrive (change f s) :=
  change_keepsDrive (fun t => (frame t).keepsDrive dsq za du) s

theorem heard_keepsDrive {sender : Byte} {deliver : Station → ReceiveStamp → State → State}
    (keeps : ∀ n r (t : State), t.KeepsDrive (deliver n r t)) (s : State) :
    s.KeepsDrive (change (accept sender deliver) s) :=
  change_keepsDrive (accept_keepsDrive keeps) s

theorem heard_keepsDrive_of_frame {sender : Byte} {deliver : Station → ReceiveStamp → State → State} {parts : List Part}
    (frame : ∀ n r (t : State), t.keepsAllBut parts (deliver n r t)) (s : State) (dsq : Part.dsq ∉ parts := by decide)
    (za : Part.za ∉ parts := by decide) (du : Part.du ∉ parts := by decide) :
    s.KeepsDrive (change (accept sender deliver) s) :=
  heard_keepsDrive (fun n r t => (frame n r t).keepsDrive dsq za du) s

theorem lockLine_keepsDrive (l : LineId) (s : State) : s.KeepsDrive (lockLine l s) := setDsq_keepsDrive rfl rfl rfl

theorem unlockLine_keepsDrive (s : State) : s.KeepsDrive (unlockLine s) := by
  unfold unlockLine
  split
  · exact setDsq_keepsDrive rfl rfl rfl
  · exact .refl s

/-- R81, R83: no command takes the drive lines out of their laws. -/
theorem exec_keeps_drive (c : Instr) (s : State) : ∃ t, exec c s = .next t ∧ s.KeepsDrive t := by
  cases c with
  | powerOn straps warning =>
    refine ⟨_, rfl, ?_⟩
    split
    · exact .refl s
    · exact powerOnReset_keepsDrive _ _ s
  | rstAssert =>
    refine ⟨_, rfl, ?_⟩
    split
    · exact afterReset_keepsDrive s rfl rfl
    · exact ⟨id, fun _ => id, id⟩
  | rstRelease straps =>
    refine ⟨_, rfl, ?_⟩
    have released : s.KeepsDrive { s with rst := false } := ⟨id, fun _ => id, id⟩
    split
    · exact released.trans (endOfReset_keepsDrive straps _)
    · exact released
  | configImageRead memory => exact ⟨_, rfl, change_keepsDrive (ite_keepsDrive _ (imageRead_keepsDrive memory)) s⟩
  | listeningEnd =>
    exact ⟨_, rfl, change_keepsDrive (ite_keepsDrive _ fun t => (enterRunning_moves t).keepsDrive) s⟩
  | supplyWarning => exact ⟨_, rfl, ite_keepsDrive State.powered warningAsserts_keepsDrive s⟩
  | warningClears =>
    refine ⟨_, rfl, ?_⟩
    unfold warningClears
    dsimp only
    split
    · split <;> exact ⟨id, fun _ => id, id⟩
    · exact .refl s
  | warningReasserts => exact ⟨_, rfl, ite_keepsDrive State.powered warningAsserts_keepsDrive s⟩
  | clearTimerExpiry straps =>
    refine ⟨_, rfl, ?_⟩
    split
    · exact (warmReset_keepsDrive _ s).trans (endOfReset_keepsDrive _ _)
    · exact .refl s
  | supplyCollapse => exact ⟨_, rfl, ite_keepsDrive State.powered collapse_keepsDrive s⟩
  | displayWord => exact ⟨_, rfl, (whenUp_frame (ite_frame _ fun t => setSp_frame t _) s).keepsDrive⟩
  | beaconTimerExpiry =>
    exact ⟨_, rfl, change_keepsDrive (ite_keepsDrive _ fun t =>
      ((setTb_frame t _).andThen (requestBeacon_frame _)).keepsDrive) s⟩
  | schoolTimeBoundary =>
    refine ⟨_, rfl, change_keepsDrive_of_moves (fun t => ?_) s⟩
    split
    · exact boundaryReached_moves _ t
    · exact .refl t
  | idleGapExpiry => exact ⟨_, rfl, change_keepsDrive_of_frame (ite_frame _ lineQuiet_frame) s⟩
  | backOffEnd => exact ⟨_, rfl, change_keepsDrive_of_frame (ite_frame _ beginTransmission_frame) s⟩
  | transmitComplete => exact ⟨_, rfl, change_keepsDrive_of_moves (whileSending_moves frameSent_moves) s⟩
  | collision =>
    exact ⟨_, rfl, change_keepsDrive_of_moves (whileSending_moves fun i q t => (frameCollided_frame i q t).moves) s⟩
  | receiveAbort => exact ⟨_, rfl, change_keepsDrive_of_frame receiveAbort_frame s⟩
  | frameRejected frame => exact ⟨_, rfl, change_keepsDrive_of_frame (frameRejected_frame frame) s⟩
  | beacon sender body => exact ⟨_, rfl, heard_keepsDrive (fun n r => beaconFrom_keepsDrive n body r) s⟩
  | dayplan sender day code =>
    refine ⟨_, rfl, heard_keepsDrive_of_frame (parts := [.bs]) (fun _ _ => ifLoaded_frame fun t => ?_) s⟩
    split
    · exact takeDayplan_frame _ _ t
    · exact t.keepsAllBut_refl _
  | removeOverride sender day =>
    exact ⟨_, rfl, heard_keepsDrive_of_frame (fun _ _ => ifLoaded_frame (takeDayplan_frame _ _)) s⟩
  | shift sender day kind first last delta =>
    refine ⟨_, rfl, heard_keepsDrive_of_frame (parts := [.bs]) (fun _ _ => ifLoaded_frame fun t => ?_) s⟩
    split
    · exact takeShift_frame _ _ _ _ _ t
    · exact t.keepsAllBut_refl _
  | cancel sender day first last =>
    exact ⟨_, rfl, heard_keepsDrive_of_frame (fun _ _ => ifLoaded_frame (takeShift_frame _ _ _ _ _)) s⟩
  | clearAll sender day =>
    exact ⟨_, rfl, heard_keepsDrive_of_frame (fun _ _ => ifLoaded_frame (takeShift_frame _ _ _ _ _)) s⟩
  | claim sender body =>
    exact ⟨_, rfl, heard_keepsDrive (fun n _ => ifTaking_keepsDrive fun t => (hearClaim_moves n body t).keepsDrive) s⟩
  | object sender claimant number reason =>
    exact ⟨_, rfl, heard_keepsDrive (fun _ _ =>
      ifTaking_keepsDrive (forStation_keepsDrive fun c => hearObject_keepsDrive c number)) s⟩
  | ready sender holder number readyMask refusedMask =>
    exact ⟨_, rfl, heard_keepsDrive (fun n _ =>
      ifTaking_keepsDrive (forStation_keepsDrive fun h => hearReady_keepsDrive n h number readyMask)) s⟩
  | release sender number reason =>
    exact ⟨_, rfl, heard_keepsDrive (fun n _ =>
      ifTaking_keepsDrive fun t => (hearRelease_moves n number t).keepsDrive) s⟩
  | drillStart sender body =>
    exact ⟨_, rfl, heard_keepsDrive (fun _ _ => ifTaking_keepsDrive fun t => (takeOffer_moves _ t).keepsDrive) s⟩
  | silence sender initiator number =>
    exact ⟨_, rfl, heard_keepsDrive (fun _ _ =>
      ifTaking_keepsDrive (forStation_keepsDrive fun i t => (hearSilence_moves i number t).keepsDrive)) s⟩
  | muster sender initiator number elapsed =>
    exact ⟨_, rfl, heard_keepsDrive (fun n _ =>
      ifTaking_keepsDrive (forStation_keepsDrive fun i t => (hearMuster_moves n i number elapsed t).keepsDrive)) s⟩
  | drillEnd sender initiator number reason =>
    exact ⟨_, rfl, heard_keepsDrive (fun _ _ =>
      ifTaking_keepsDrive (forStation_keepsDrive fun i t => (hearDrillEnd_moves i number _ t).keepsDrive)) s⟩
  | yield sender state =>
    exact ⟨_, rfl, heard_keepsDrive (fun n _ t =>
      (peerYields_frame n state t).keepsDrive.trans (ifTaking_keepsDrive updateYield_keepsDrive _)) s⟩
  | dialSet sender target line position =>
    exact ⟨_, rfl, heard_keepsDrive (fun _ _ => ifTargeted_keepsDrive target
      (ite_keepsDrive State.loaded fun t => (dialSet_moves line position t).keepsDrive)) s⟩
  | statusAsk sender target page =>
    exact ⟨_, rfl, heard_keepsDrive_of_frame (fun n _ =>
      ifTargeted_frame target (ite_frame _ (requestReply_frame n page))) s⟩
  | statusReply sender asker page content =>
    exact ⟨_, rfl, heard_keepsDrive (fun _ _ t => .refl t) s⟩
  | invertNextReply sender target action line =>
    refine ⟨_, rfl, heard_keepsDrive (fun _ _ => ifTargeted_keepsDrive target fun t => ?_) s⟩
    split
    · exact (t.setYlc_frame _).keepsDrive
    · exact .refl t
  | lockSupervision sender target line =>
    refine ⟨_, rfl, heard_keepsDrive (fun _ _ => ifTargeted_keepsDrive target (ifTaking_keepsDrive fun t => ?_)) s⟩
    split
    · exact lockLine_keepsDrive _ t
    · exact .refl t
  | unlock sender target line =>
    exact ⟨_, rfl, heard_keepsDrive (fun _ _ =>
      ifTargeted_keepsDrive target (ifTaking_keepsDrive unlockLine_keepsDrive)) s⟩
  | agingExpiry peer => exact ⟨_, rfl, change_keepsDrive (ite_keepsDrive _ (peerLost_keepsDrive peer)) s⟩
  | spacingExpiry slot =>
    exact ⟨_, rfl, change_keepsDrive (ite_keepsDrive _ fun t => (tryImpulse_moves slot t).keepsDrive) s⟩
  | staggerExpiry => exact ⟨_, rfl, change_keepsDrive State.KeepsDrive.refl s⟩
  | widthExpiry line => exact ⟨_, rfl, change_keepsDrive_of_moves (widthExpires_moves line) s⟩
  | gapExpiry line => exact ⟨_, rfl, change_keepsDrive_of_moves (gapEnds_moves line) s⟩
  | chimeWidthExpiry => exact ⟨_, rfl, change_keepsDrive chimeWidthEnds_keepsDrive s⟩
  | chimeGapExpiry => exact ⟨_, rfl, change_keepsDrive chimeGapEnds_keepsDrive s⟩
  | overcurrent line => exact ⟨_, rfl, change_keepsDrive (overcurrentAt_keepsDrive line) s⟩
  | supervisionSlot reading => exact ⟨_, rfl, change_keepsDrive (ite_keepsDrive _ (supervise_keepsDrive reading)) s⟩
  | entryDue => exact ⟨_, rfl, change_keepsDrive_of_moves examineDue_moves s⟩
  | pageKeyPress key =>
    refine ⟨_, rfl, ?_⟩
    split
    · exact change_keepsDrive_of_frame (keyHeld_frame key) s
    · exact (s.setKey_frame _ _).keepsDrive
  | pageKeyRelease key =>
    refine ⟨_, rfl, ?_⟩
    split
    · exact change_keepsDrive (keyReleased_keepsDrive key) s
    · exact (s.setKey_frame _ _).keepsDrive
  | refusalEnd key => exact ⟨_, rfl, (whenUp_frame (ite_frame _ (lampOff_frame key)) s).keepsDrive⟩
  | windowClose claimant => exact ⟨_, rfl, change_keepsDrive (windowCloses_keepsDrive claimant) s⟩
  | readyWaitEnd => exact ⟨_, rfl, change_keepsDrive readyWaitEnds_keepsDrive s⟩
  | holdEnd => exact ⟨_, rfl, change_keepsDrive holdEnds_keepsDrive s⟩
  | targetGraceExpiry => exact ⟨_, rfl, change_keepsDrive_of_moves graceExpires_moves s⟩
  | drillKeyPress =>
    exact ⟨_, rfl, change_keepsDrive (ite_keepsDrive _ fun t => (pressDrillKey_moves t).keepsDrive) s⟩
  | musterKeyPress =>
    exact ⟨_, rfl, change_keepsDrive (ite_keepsDrive _ fun t => (pressMusterKey_moves t).keepsDrive) s⟩
  | keyArmed key => exact ⟨_, rfl, (whenUp_frame (armKey_frame key) s).keepsDrive⟩
  | drillDeadline => exact ⟨_, rfl, change_keepsDrive (ite_keepsDrive _ fun t => (checkPhase_moves t).keepsDrive) s⟩
  | firePanelChange asserted =>
    refine ⟨_, rfl, change_keepsDrive (fun t => ?_) s⟩
    split
    · exact .refl t
    · exact contactChanges_keepsDrive asserted t
  | writeComplete => exact ⟨_, rfl, (whenUp_frame writeEnds_frame s).keepsDrive⟩
  | eraseComplete => exact ⟨_, rfl, (whenUp_frame eraseEnds_frame s).keepsDrive⟩
  | startBitSeen bit => exact ⟨_, rfl, change_keepsDrive_of_frame (startBit_frame bit) s⟩
  | delimiterRecognised => exact ⟨_, rfl, change_keepsDrive_of_frame delimiter_frame s⟩

/-- R81, R83: a step is one millisecond or one command, and each keeps the laws. -/
theorem step_keepsDrive {s t : State} (h : step s = .next t) : s.KeepsDrive t := by
  unfold step at h
  split at h
  · cases h
    exact (tick_frame s).keepsDrive
  · rename_i c rest _
    obtain ⟨u, ran, keeps⟩ := exec_keeps_drive c { s with pending := rest }
    rw [ran] at h
    cases h
    exact (setPending_frame s rest).keepsDrive.trans keeps

/-- Settles O10: each step moves the lines lawfully (`State.Moves`) or leaves them wired, within the budget and with
their requests bound (`State.KeepsDrive`). -/
theorem stepKeepsDriveBudget : Obligations.StepKeepsDriveBudget :=
  ⟨fun _ _ wired budget ran => ⟨(step_keepsDrive ran).wired wired, (step_keepsDrive ran).budget wired budget⟩,
    fun _ _ bound ran => (step_keepsDrive ran).requests bound⟩

end Sys2Proof.Machine
end

section
/-! PROOF. The law of the hold stack (R103): what may lie under an owner, and what the operations on one zone make of it
(R107, R109 to R112). -/

namespace Sys2Proof.Machine

-- one declaration at a time, as in the tests: the threads of a whole text's proofs do not fit the memory limit
set_option Elab.async false

/-! ## What may lie under an owner -/

/-- R103: a stack that may lie under an owner of rank `top`: floors and drills, below `top`, whose ranks fall from its top
entry to its bottom. -/
structure StackUnder (top : Nat) (stack : List Owner) : Prop where
  falls : stack.Pairwise fun upper lower => lower.level.rank < upper.level.rank
  below : ∀ o ∈ stack, o.level.rank < top
  held : ∀ o ∈ stack, o.anyFloor = true ∨ o.anyDrill = true

/-- R102: YIELD is the highest level. -/
theorem Level.rank_le (l : Level) : l.rank ≤ 5 := by
  cases l <;> decide

theorem Owner.rank_lt_yield {o : Owner} (h : o ≠ .yield) : o.level.rank < 5 := by
  rcases o with d | ⟨h, n, _ | _⟩ | ⟨i, n⟩ | _
  iterate 4 exact Nat.lt_of_sub_pos (Nat.succ_pos _)
  exact absurd rfl h

/-- R102: a floor is at one of the page levels, and a drill between them. -/
theorem Owner.rank_of_held {o : Owner} (held : o.anyFloor = true ∨ o.anyDrill = true) :
    o.level.rank = 2 ∨ (o.level.rank = 3 ∧ o.anyDrill = true) ∨ o.level.rank = 4 := by
  rcases o with d | ⟨h, n, _ | _⟩ | ⟨i, n⟩ | _
  · simp [Owner.anyFloor, Owner.anyDrill] at held
  · exact .inl rfl
  · exact .inr (.inr rfl)
  · exact .inr (.inl ⟨rfl, rfl⟩)
  · simp [Owner.anyFloor, Owner.anyDrill] at held

section

variable {top : Nat} {stack : List Owner} {o : Owner}

theorem stackUnder_nil (top : Nat) : StackUnder top [] := ⟨.nil, nofun, nofun⟩

theorem stackUnder_cons :
    StackUnder top (o :: stack) ↔
      o.level.rank < top ∧ (o.anyFloor = true ∨ o.anyDrill = true) ∧ StackUnder o.level.rank stack := by
  constructor
  · rintro ⟨falls, below, held⟩
    obtain ⟨under, falls⟩ := List.pairwise_cons.mp falls
    exact ⟨below o List.mem_cons_self, held o List.mem_cons_self, falls, under, fun p mem => held p (.tail _ mem)⟩
  · rintro ⟨low, kind, falls, below, held⟩
    exact ⟨List.pairwise_cons.mpr ⟨below, falls⟩,
      List.forall_mem_cons.mpr ⟨low, fun p mem => (below p mem).trans low⟩, List.forall_mem_cons.mpr ⟨kind, held⟩⟩

theorem StackUnder.mono (h : StackUnder top stack) {higher : Nat} (le : top ≤ higher) : StackUnder higher stack :=
  ⟨h.falls, fun o mem => (h.below o mem).trans_le le, h.held⟩

theorem StackUnder.filter (h : StackUnder top stack) (p : Owner → Bool) : StackUnder top (stack.filter p) :=
  ⟨h.falls.filter p, fun o mem => h.below o (List.mem_of_mem_filter mem), fun o mem => h.held o (List.mem_of_mem_filter mem)⟩

/-- R103: the ranks of floors and drills are three, so that no stack holds more than three entries. -/
theorem StackUnder.length_le (h : StackUnder top stack) : stack.length ≤ 3 := by
  have distinct : (stack.map fun o => o.level.rank).Nodup := List.pairwise_map.mpr (h.falls.imp Nat.ne_of_gt)
  have ranks : stack.map (fun o => o.level.rank) ⊆ [2, 3, 4] := by
    intro rank mem
    obtain ⟨o, entry, rfl⟩ := List.mem_map.mp mem
    rcases Owner.rank_of_held (h.held o entry) with rank | ⟨rank, -⟩ | rank <;> simp [rank]
  simpa using (distinct.subperm ranks).length_le

/-- R107: a drill inserted above the GENERAL floors and below the URGENT ones of a stack that holds no drill. -/
theorem StackUnder.insertDrill (h : StackUnder top stack) (drillless : ∀ o ∈ stack, o.anyDrill = false) (i : Station)
    (n : Byte) (high : 3 < top) : StackUnder top (insertDrill (.drill i n) stack) := by
  have general (p : Owner) (mem : p ∈ stack.filter fun o => o.level != .pageUrgent) : p.level.rank = 2 := by
    obtain ⟨mem, lower⟩ := List.mem_filter.mp mem
    rcases Owner.rank_of_held (h.held p mem) with rank | ⟨-, drill⟩ | rank
    · exact rank
    · simp [drillless p mem] at drill
    · rcases held : p.level <;> simp [held, Level.rank] at rank lower
  have urgent (p : Owner) (mem : p ∈ stack.filter fun o => o.level == .pageUrgent) : p.level.rank = 4 := by
    rw [beq_iff_eq.mp (List.mem_filter.mp mem).2]
    rfl
  have lower : StackUnder 3 (stack.filter fun o => o.level != .pageUrgent) :=
    ⟨h.falls.filter _, fun p mem => by rw [general p mem]; decide, (h.filter _).held⟩
  obtain ⟨falls, below, held⟩ := (stackUnder_cons (o := .drill i n)).mpr ⟨Nat.lt_succ_self 3, .inr rfl, lower⟩
  refine ⟨List.pairwise_append.mpr ⟨h.falls.filter _, falls, fun p high q low => ?_⟩, fun p mem => ?_, fun p mem => ?_⟩
  · rw [urgent p high]
    exact below q low
  · rcases List.mem_append.mp mem with mem | mem
    · exact (h.filter _).below p mem
    · exact (Nat.le_of_lt_succ (below p mem)).trans_lt high
  · exact (List.mem_append.mp mem).elim ((h.filter _).held p) (held p)

end

/-! ## The law at one zone -/

/-- R103: the law of the hold stack, where the length of the stack follows from its levels. -/
theorem Zone.lawful_iff {r : Zone} : r.lawful = true ↔ StackUnder r.level.rank r.stack := by
  simp only [Zone.lawful, Bool.and_eq_true, decide_eq_true_eq, List.all_eq_true, Bool.or_eq_true]
  constructor
  · rintro ⟨⟨-, falls⟩, entries⟩
    exact ⟨falls, fun o mem => (entries o mem).1, fun o mem => (entries o mem).2⟩
  · rintro h
    exact ⟨⟨h.length_le, h.falls⟩, fun o mem => ⟨h.below o mem, h.held o mem⟩⟩

/-- The law speaks of the owner and the stack alone. -/
theorem Zone.lawful_of_same {a b : Zone} (h : a.lawful = true) (owner : b.owner = a.owner) (stack : b.stack = a.stack) :
    b.lawful = true := by
  rw [Zone.lawful_iff, Zone.level] at *
  rwa [owner, stack]

/-- R103: an owner over the stack of a zone whose level it is above. -/
theorem Zone.lawful_of_raised {a b : Zone} {new : Owner} (h : a.lawful = true) (room : a.level.rank ≤ new.level.rank)
    (owner : b.owner = some new) (stack : b.stack = a.stack) : b.lawful = true := by
  rw [Zone.lawful_iff] at *
  rw [Zone.level, owner, stack]
  exact h.mono room

/-- R103, R109: an owner over the floor or drill that it displaces. -/
theorem Zone.lawful_of_pushed {a b : Zone} {old new : Owner} (h : a.lawful = true) (was : a.owner = some old)
    (held : old.anyFloor = true ∨ old.anyDrill = true) (room : a.level.rank < new.level.rank)
    (owner : b.owner = some new) (stack : b.stack = old :: a.stack) : b.lawful = true := by
  rw [Zone.lawful_iff] at *
  rw [Zone.level, was] at h room
  rw [Zone.level, owner, stack]
  exact stackUnder_cons.mpr ⟨room, held, h⟩

/-- R103: an IDLE zone holds nothing. -/
theorem Zone.lawful_of_empty {r : Zone} (stack : r.stack = []) : r.lawful = true := by
  rw [Zone.lawful_iff, stack]
  exact stackUnder_nil _

/-- R111: what is popped lies over what stays. -/
theorem popStack_lawful (keep : Owner → Bool) {top : Nat} {stack : List Owner} (h : StackUnder top stack) {r : Zone}
    (owner : r.owner = (popStack keep stack).1) (rest : r.stack = (popStack keep stack).2) : r.lawful = true := by
  induction stack generalizing top with
  | nil => exact Zone.lawful_of_empty rest
  | cons o below ih =>
    obtain ⟨-, -, under⟩ := stackUnder_cons.mp h
    unfold popStack at owner rest
    split at owner
    · rename_i kept
      rw [if_pos kept] at rest
      rw [Zone.lawful_iff, Zone.level, owner, rest]
      exact under
    · rename_i dropped
      rw [if_neg dropped] at rest
      exact ih under owner rest

/-! ## What keeps the law at every zone -/

/-- R103: what made `t` of `s` keeps the law of the hold stack at every zone. -/
def State.KeepsStacks (s t : State) : Prop := s.stacksLawful = true → t.stacksLawful = true

theorem State.stacksLawful_iff {s : State} : s.stacksLawful = true ↔ ∀ z : ZoneId, (s.zone z).lawful = true := by
  rw [State.stacksLawful, List.all_eq_true]
  exact ⟨fun h z => h z (mem_allZones z), fun h z _ => h z⟩

section

variable {s t u : State} {parts : List Part}

theorem State.KeepsStacks.refl (s : State) : s.KeepsStacks s := id

theorem State.KeepsStacks.trans (h1 : s.KeepsStacks t) (h2 : t.KeepsStacks u) : s.KeepsStacks u := fun h => h2 (h1 h)

theorem State.sameOwners.keepsStacks (same : s.sameOwners t) : s.KeepsStacks t := by
  intro h
  rw [State.stacksLawful_iff] at *
  exact fun z => Zone.lawful_of_same (h z) (same z).1 (same z).2

/-- What does not write the zones. -/
theorem State.keepsAllBut.keepsStacks (h : s.keepsAllBut parts t) (out : Part.za ∉ parts := by decide) :
    s.KeepsStacks t :=
  (State.sameOwners_of_za (h .za out)).keepsStacks

theorem State.KeepsStacks.frame (h : s.KeepsStacks t) (next : t.keepsAllBut parts u)
    (out : Part.za ∉ parts := by decide) : s.KeepsStacks u :=
  h.trans (next.keepsStacks out)

/-- A zone rewritten with a lawful record. -/
theorem setZone_keepsStacks {z : ZoneId} {r : Zone} (law : (s.zone z).lawful = true → r.lawful = true) :
    s.KeepsStacks (s.setZone z r) := by
  intro h
  rw [State.stacksLawful_iff] at *
  intro y
  by_cases e : y = z
  · subst e
    rw [State.setZone_zone_same]
    exact law (h y)
  · rw [State.setZone_zone_ne _ _ _ _ e]
    exact h y

theorem forEach_keepsStacks {α : Type} {f : α → State → State} (each : ∀ (a : α) (s : State), s.KeepsStacks (f a s))
    (items : List α) (s : State) : s.KeepsStacks (forEach items f s) := by
  induction items generalizing s with
  | nil => exact .refl s
  | cons a rest ih => exact (each a s).trans (ih (f a s))

end

theorem ite_keepsStacks {f : State → State} (c : State → Bool) (keeps : ∀ t : State, t.KeepsStacks (f t)) (t : State) :
    t.KeepsStacks (if c t then f t else t) := by
  split
  · exact keeps t
  · exact .refl t

/-! ## Releases and requests -/

theorem bellMissed_keepsStacks (b : Bell) (s : State) : s.KeepsStacks (bellMissed b s) :=
  (bellMissed_frame b s).keepsStacks

theorem popZone_keepsStacks (z : ZoneId) (s : State) : s.KeepsStacks (popZone z s) :=
  setZone_keepsStacks fun h => popStack_lawful (keepEntry s z) (Zone.lawful_iff.mp h) rfl rfl

theorem releaseAt_keepsStacks (is : Owner → Bool) (z : ZoneId) (s : State) : s.KeepsStacks (releaseAt is z s) := by
  have filtered : s.KeepsStacks (s.setZone z { s.zone z with stack := (s.zone z).stack.filter fun o => !is o }) :=
    setZone_keepsStacks fun h => Zone.lawful_iff.mpr ((Zone.lawful_iff.mp h).filter _)
  unfold releaseAt
  dsimp only
  split
  · split
    · exact filtered.trans (popZone_keepsStacks z _)
    · exact filtered
  · exact filtered

theorem releaseEverywhere_keepsStacks (is : Owner → Bool) (s : State) : s.KeepsStacks (releaseEverywhere is s) :=
  forEach_keepsStacks (releaseAt_keepsStacks is) allZones s

/-- R109: an owner that displaces one of a lower level. -/
theorem displace_keepsStacks (toYield : Bool) {new : Owner} {z : ZoneId} {s : State}
    (room : (s.zone z).level.rank < new.level.rank) : s.KeepsStacks (displace toYield new z s) := by
  have raised (r : Zone) (owner : r.owner = some new) (stack : r.stack = (s.zone z).stack) :
      s.KeepsStacks (s.setZone z r) :=
    setZone_keepsStacks fun h => Zone.lawful_of_raised h (Nat.le_of_lt room) owner stack
  unfold displace
  dsimp only
  split
  · exact raised _ rfl rfl
  · rename_i b _
    split
    · exact (raised { s.zone z with owner := some new, cutBell := some b, bellStarted := false } rfl rfl).trans
        (bellMissed_keepsStacks b _)
    · exact raised _ rfl rfl
  · rename_i old notBell was
    have held : old.anyFloor = true ∨ old.anyDrill = true := by
      rcases old with d | ⟨h, n, c⟩ | ⟨i, n⟩ | _
      · exact absurd rfl (notBell d)
      · exact .inl rfl
      · exact .inr rfl
      · rw [Zone.level, was] at room
        exact absurd room (Nat.not_lt.mpr new.level.rank_le)
    exact setZone_keepsStacks fun h => Zone.lawful_of_pushed h was held room rfl rfl

theorem bellRequest_keepsStacks (b : Bell) (z : ZoneId) (s : State) : s.KeepsStacks (bellRequest b z s) := by
  have missed := bellMissed_keepsStacks b s
  unfold bellRequest
  dsimp only
  split
  · exact missed
  · split
    · exact missed
    · split
      · exact missed
      · split
        · exact missed
        · rename_i idle
          refine setZone_keepsStacks fun h => Zone.lawful_of_raised (new := .bell b) h ?_ rfl rfl
          rw [idle]
          exact Nat.zero_le _
        · exact .refl s
        all_goals exact State.sameOwners.keepsStacks (setZone_sameOwners rfl rfl)

theorem pageRequest_keepsStacks (holder : Station) (number : Byte) (cls : FloorClass) (z : ZoneId) (s : State) :
    s.KeepsStacks (pageRequest holder number cls z s).1 := by
  have released := releaseAt_keepsStacks (fun o => o.anyFloor && !o.isFloor holder number) z s
  unfold pageRequest
  split
  · exact .refl s
  · dsimp only
    split
    · exact released
    · split
      · exact released
      · split
        · exact released
        · split
          · rename_i room
            exact released.trans (displace_keepsStacks false room)
          · exact released

/-- R102, R107: a zone at the level DRILL is a drill's. -/
theorem Zone.owner_of_drill {r : Zone} (level : r.level = .drill) : ∃ o, r.owner = some o ∧ o.anyDrill = true := by
  unfold Zone.level at level
  split at level
  · cases level
  · rename_i o owner
    rcases o with d | ⟨h, n, _ | _⟩ | ⟨i, n⟩ | _
    iterate 3 cases level
    · exact ⟨_, owner, rfl⟩
    · cases level

/-- R107: a drill comes over a level below its own, or into the stack below a higher one; another drill has gone. -/
theorem drillRequest_keepsStacks (initiator : Station) (number : Byte) (z : ZoneId) (s : State) :
    s.KeepsStacks (drillRequest initiator number z s) := by
  have released := releaseAt_keepsStacks (fun o => o.anyDrill && !o.isDrill initiator number) z s
  obtain ⟨ownerLeft, stackLeft⟩ := releaseAt_zone (fun o => o.anyDrill && !o.isDrill initiator number) z s
  unfold drillRequest
  split
  · exact .refl s
  · dsimp only
    generalize releaseAt (fun o => o.anyDrill && !o.isDrill initiator number) z s = u at *
    split
    · exact released
    · rename_i absent
      simp only [Bool.or_eq_true, Option.any_eq_true, List.any_eq_true, not_or, not_exists, not_and,
        Bool.not_eq_true] at absent
      obtain ⟨notOwner, notStacked⟩ := absent
      have drillless : ∀ o ∈ (u.zone z).stack, o.anyDrill = false := fun o mem => by
        simpa [notStacked o mem] using stackLeft o mem
      have stacked (high : 3 < (u.zone z).level.rank) : s.KeepsStacks
          (if (u.zone z).stack.length < Config.stackLimit then
            u.setZone z { u.zone z with stack := insertDrill (.drill initiator number) (u.zone z).stack }
          else u) := by
        split
        · refine released.trans (setZone_keepsStacks fun h => Zone.lawful_iff.mpr ?_)
          exact (Zone.lawful_iff.mp h).insertDrill drillless initiator number high
        · exact released
      have comes (low : (u.zone z).level.rank < 3) := released.trans
        (displace_keepsStacks false (new := .drill initiator number) low)
      split
      · rename_i level
        exact comes (by rw [level]; decide)
      · rename_i level
        exact comes (by rw [level]; decide)
      · rename_i level
        exact comes (by rw [level]; decide)
      · rename_i level
        obtain ⟨o, owner, drill⟩ := Zone.owner_of_drill level
        simpa [drill, notOwner o owner] using ownerLeft o owner
      · rename_i level
        exact stacked (by rw [level]; decide)
      · rename_i level
        exact stacked (by rw [level]; decide)

theorem yieldRequest_keepsStacks (z : ZoneId) (s : State) : s.KeepsStacks (yieldRequest z s) := by
  unfold yieldRequest
  split
  · exact .refl s
  · rename_i takes
    have cleared : s.sameOwners (s.setZone z { s.zone z with deferred := none }) := setZone_sameOwners rfl rfl
    have below {u : State} (same : s.sameOwners u) : (u.zone z).level.rank < (Owner.yield).level.rank := by
      rw [Zone.level, (same z).1]
      split
      · decide
      · rename_i o owner
        refine Owner.rank_lt_yield fun e => takes ?_
        rw [owner, e]
        simp
    dsimp only
    split
    · rename_i b _
      have missed := cleared.trans (State.sameOwners_of_za ((bellMissed_frame b _).part .za))
      exact missed.keepsStacks.trans (displace_keepsStacks true (below missed))
    · exact cleared.keepsStacks.trans (displace_keepsStacks true (below cleared))

/-! ## The end of a change -/

theorem examineDeferred_keepsStacks {z : ZoneId} {s : State} (free : (s.zone z).owner = none) :
    s.KeepsStacks (examineDeferred z s) := by
  have cleared : s.sameOwners (s.setZone z { s.zone z with deferred := none }) := setZone_sameOwners rfl rfl
  have missed (b : Bell) := cleared.keepsStacks.trans (bellMissed_keepsStacks b _)
  unfold examineDeferred
  dsimp only
  split
  · exact .refl s
  · rename_i b _
    split
    · exact missed b
    · split
      · exact missed b
      · split
        · refine cleared.keepsStacks.trans (setZone_keepsStacks fun h =>
            Zone.lawful_of_raised (new := .bell b) h ?_ rfl ?_)
          · rw [State.setZone_zone_same, Zone.level, free]
            exact Nat.zero_le _
          · rw [State.setZone_zone_same]
        · exact missed b

theorem settleZone_keepsStacks (old : Zone) (z : ZoneId) (s : State) : s.KeepsStacks (settleZone old z s) := by
  have goOn {t : State} (examined : s.KeepsStacks t) : s.KeepsStacks
      (if (t.zone z).owner = old.owner then t else startEffects z (stopEffects old.owner z t)) := by
    split
    · exact examined
    · exact examined.trans
        ((stopEffects_sameOwners old.owner z t).trans (startEffects_sameOwners z _)).keepsStacks
  refine goOn ?_
  split
  · rename_i emptied
    rw [Bool.and_eq_true, Option.isNone_iff_eq_none] at emptied
    exact examineDeferred_keepsStacks emptied.1
  · exact .refl s

/-- What every step that is one change ends with. -/
theorem asOneChange_keepsStacks (f : State → State) (s : State) : (f s).KeepsStacks (asOneChange f s) := by
  have settled := forEach_keepsStacks (fun z => settleZone_keepsStacks s.za.zones[z] z) allZones (f s)
  have synced (t : State) : t.sameOwners (syncTrunk t) := fun z => ⟨rfl, rfl⟩
  exact ((settled.trans (synced _).keepsStacks).trans (arbitrate_sameOwners _).keepsStacks).frame (selectNext_frame _)

end Sys2Proof.Machine
end

section
/-! PROOF. The law of the hold stack (R103) through the reports of the lines, the scheduler, the drills, the floor and the
yield (R110, R114 to R116, R131, R143, R152, R169, R182). -/

namespace Sys2Proof.Machine

-- one declaration at a time, as in the tests: the threads of a whole text's proofs do not fit the memory limit
set_option Elab.async false

/-! ## Reports of the lines -/

theorem bellFinished_keepsStacks (l : LineId) (s : State) : s.KeepsStacks (bellFinished l s) := by
  unfold bellFinished
  split
  · exact .refl s
  · split
    · exact popZone_keepsStacks _ s
    · dsimp only
      split
      · exact State.sameOwners.keepsStacks (setZone_sameOwners rfl rfl)
      · exact .refl s

theorem playerAborted_keepsStacks (l : LineId) (bell : Bool) (s : State) : s.KeepsStacks (playerAborted l bell s) := by
  have rang : s.KeepsStacks (bellAborted l s) := by
    unfold bellAborted
    split
    · exact .refl s
    · split
      · refine State.KeepsStacks.trans ?_ (popZone_keepsStacks _ _)
        split
        · exact .refl s
        · exact bellMissed_keepsStacks _ s
      · exact .refl s
  have sounded : s.KeepsStacks (sounderAborted l s) := by
    unfold sounderAborted
    split
    · exact .refl s
    · exact State.sameOwners.keepsStacks (setZone_sameOwners rfl rfl)
  cases bell
  · exact sounded
  · exact rang

theorem pageCut_sameOwners (l : LineId) (s : State) : s.sameOwners (pageCut l s) := by
  unfold pageCut
  split
  · exact s.sameOwners_refl
  · split
    · exact setZone_sameOwners rfl rfl
    · exact s.sameOwners_refl

/-- R115, R116: a line reported NORMAL leaves every owner. -/
theorem normalToZone_sameOwners (l : LineId) (s : State) : s.sameOwners (normalToZone l s) := by
  unfold normalToZone
  split
  · unfold sounderNormal
    split
    · split
      · exact sounderStart_sameOwners _ s
      · exact s.sameOwners_refl
    · exact s.sameOwners_refl
  · unfold pageNormal
    split
    · exact pageLineOn_sameOwners _ s
    · exact s.sameOwners_refl
  · exact s.sameOwners_refl

theorem widthExpires_keepsStacks (l : LineId) (s : State) : s.KeepsStacks (widthExpires l s) := by
  have off := (s.setLine_frame l (s.line l).turnedOff).keepsStacks
  have ended (t : State) : t.KeepsStacks (playerPhaseEnds l t) := by
    unfold playerPhaseEnds
    dsimp only
    split
    · exact (State.setLine_frame _ _ _).keepsStacks.trans (bellFinished_keepsStacks l _)
    · exact (State.setLine_frame _ _ _).keepsStacks
  unfold widthExpires periodEnds
  split
  · split
    · dsimp only
      split
      · exact off.frame (deliverImpulse_frame _ _ _)
      · exact off.trans (ended _)
    · exact .refl s
  · exact .refl s

theorem gapEnds_keepsStacks (l : LineId) (s : State) : s.KeepsStacks (gapEnds l s) := by
  unfold gapEnds
  dsimp only
  split
  · rename_i ends _
    split
    · have asked := ((s.setLine_frame l { s.line l with player := { (s.line l).player with
        phase := (s.line l).player.phase + 1 } }).andThen (requestPhase_frame l ends _)).keepsStacks
      split <;> rename_i h <;> rw [h] at asked
      · exact asked
      · exact asked.trans (playerAborted_keepsStacks _ _ _)
    · exact .refl s
  all_goals exact .refl s

theorem overcurrentAt_keepsStacks (l : LineId) (s : State) : s.KeepsStacks (overcurrentAt l s) := by
  have cut := (s.setLine_frame l (s.line l).overcurrent).keepsStacks
  unfold overcurrentAt
  dsimp only
  split
  · refine cut.trans ?_
    unfold overcurrentReports
    split
    · split
      · exact ((abortImpulse_frame _ _).andThen (classToDial_frame l _)).keepsStacks
      · exact (classToDial_frame l _).keepsStacks
    · exact playerAborted_keepsStacks _ _ _
    · exact playerAborted_keepsStacks _ _ _
    · exact (pageCut_sameOwners l _).keepsStacks
    · exact (State.setChime_frame _ _).keepsStacks
    · exact .refl _
  · exact .refl s

theorem classChanges_keepsStacks (l : LineId) (c : LineClass) (s : State) : s.KeepsStacks (classChanges l c s) := by
  have dropped (old : LineRecord) (t : State) : t.KeepsStacks (faultDrops l old t) := by
    unfold faultDrops
    split
    · exact (dropImpulse_frame _ t).keepsStacks
    · exact playerAborted_keepsStacks l _ t
    · exact playerAborted_keepsStacks l _ t
    · exact .refl t
  unfold classChanges
  dsimp only
  split
  · exact ((s.setLine_frame _ _).keepsStacks.trans (dropped _ _)).frame (classToDial_frame l _)
  · exact ((s.setLine_frame _ _).andThen (classToDial_frame l _)).keepsStacks.trans
      (normalToZone_sameOwners l _).keepsStacks

theorem supervise_keepsStacks (reading : SenseResult) (s : State) : s.KeepsStacks (supervise reading s) := by
  have passed : s.KeepsStacks s.slotPassed := (setDsq_frame s _).keepsStacks
  unfold supervise
  dsimp only
  split
  · unfold sampleLine
    dsimp only
    split
    · exact (passed.frame (State.setLine_frame _ _ _)).trans (classChanges_keepsStacks _ _ _)
    · exact passed.frame (State.setLine_frame _ _ _)
  · exact passed

/-! ## Bells -/

theorem examineDue_keepsStacks (s : State) : s.KeepsStacks (examineDue s) := by
  have entry (day i : Nat) (due : Int) (t : State) : t.KeepsStacks (examineEntry day i due t) := by
    unfold examineEntry
    dsimp only
    split
    · exact (t.setBs_frame _).keepsStacks.trans (forEach_keepsStacks (bellRequest_keepsStacks _) _ _)
    · exact (t.setBs_frame _).keepsStacks
  have upTo (n : Nat) (t : State) : t.KeepsStacks (examineDueUpTo n t) := by
    induction n generalizing t with
    | zero => exact .refl t
    | succ n ih =>
      unfold examineDueUpTo
      split
      · split
        · exact (entry _ _ _ t).trans (ih _)
        · exact .refl t
      · exact .refl t
  exact ite_keepsStacks State.examines (fun t => upTo t.bs.marks.length t) s

theorem bellsMovement_keepsStacks (m : Movement) (s : State) : s.KeepsStacks (bellsMovement m s) := by
  have moved : s.KeepsStacks (if m.amount < 0 then s else
      if m.day then examineDue (newPlanDay (dayOf m.after) (examineDue s)) else examineDue s) := by
    split
    · exact .refl s
    · split
      · exact ((examineDue_keepsStacks s).frame (newPlanDay_frame _ _)).trans (examineDue_keepsStacks _)
      · exact examineDue_keepsStacks s
  unfold bellsMovement
  split
  · exact (adoptPlanDay_frame _ s).keepsStacks
  · exact moved
  · exact moved

/-! ## Drills -/

theorem changeRecord_keepsStacks (old new : DrillRecord) (s : State) : s.KeepsStacks (changeRecord old new s) := by
  have recorded := (s.setRecord_frame (some new)).keepsStacks
  have silenced (z : ZoneId) (t : State) : t.KeepsStacks
      (if (t.zone z).owner.any (Owner.isDrill new.initiator new.number) then sounderOff z t else t) :=
    ite_keepsStacks (fun t => (t.zone z).owner.any (Owner.isDrill new.initiator new.number))
      (fun t => (sounderOff_sameOwners z t).keepsStacks) t
  unfold changeRecord phaseEffects
  split
  · exact recorded.trans (releaseEverywhere_keepsStacks _ _)
  · split
    · exact recorded.trans (forEach_keepsStacks silenced allZones _)
    · exact recorded

theorem checkPhase_keepsStacks (s : State) : s.KeepsStacks (checkPhase s) := by
  unfold checkPhase
  split
  · exact .refl s
  · exact changeRecord_keepsStacks _ _ s

theorem askZones_keepsStacks (r : DrillRecord) (s : State) : s.KeepsStacks (askZones r s) :=
  forEach_keepsStacks (drillRequest_keepsStacks r.initiator r.number) allZones s

theorem joinDrill_keepsStacks (o : DrillOffer) (s : State) : s.KeepsStacks (joinDrill o s) := by
  have recorded := (s.setRecord_frame (some (s.joinedRecord o))).keepsStacks
  unfold joinDrill
  dsimp only
  split
  · exact recorded.trans (askZones_keepsStacks _ _)
  · exact recorded

theorem takeOffer_keepsStacks (o : DrillOffer) (s : State) : s.KeepsStacks (takeOffer o s) := by
  have competed (r : DrillRecord) : s.KeepsStacks (competeDrill o r s) := by
    unfold competeDrill
    split
    · exact ((s.setRecord_frame none).keepsStacks.trans (releaseEverywhere_keepsStacks _ _)).trans
        (joinDrill_keepsStacks o _)
    · exact .refl s
  unfold takeOffer
  split
  · exact .refl s
  · split
    · split
      · split
        · exact changeRecord_keepsStacks _ _ s
        · exact .refl s
      · split
        · exact .refl s
        · split
          · exact competed _
          · exact joinDrill_keepsStacks o s
    · split
      · exact .refl s
      · exact joinDrill_keepsStacks o s

theorem hearSilence_keepsStacks (initiator : Station) (number : Byte) (s : State) :
    s.KeepsStacks (hearSilence initiator number s) := by
  unfold hearSilence
  split
  · split
    · exact changeRecord_keepsStacks _ _ s
    · exact .refl s
  · exact .refl s

theorem hearMuster_keepsStacks (sender initiator : Station) (number : Byte) (elapsed : Half) (s : State) :
    s.KeepsStacks (hearMuster sender initiator number elapsed s) := by
  unfold hearMuster
  split
  · split
    · exact changeRecord_keepsStacks _ _ s
    · exact .refl s
  · exact .refl s

theorem hearDrillEnd_keepsStacks (initiator : Station) (number : Byte) (why : EndReason) (s : State) :
    s.KeepsStacks (hearDrillEnd initiator number why s) := by
  unfold hearDrillEnd
  split
  · split
    · exact changeRecord_keepsStacks _ _ s
    · exact .refl s
  · exact .refl s

theorem pressDrillKey_keepsStacks (s : State) : s.KeepsStacks (pressDrillKey s) := by
  have started (own : Station) (t : Nat) : s.KeepsStacks (startDrill own t s) :=
    (((setDru_frame s _).keepsStacks.trans (checkPhase_keepsStacks _)).trans (askZones_keepsStacks _ _)).frame
      (enqueue_frame _ _)
  unfold pressDrillKey
  split
  · split
    · exact .refl s
    · split
      · split
        · unfold pressOnDrill
          split <;> exact (changeRecord_keepsStacks _ _ s).frame (enqueue_frame _ _)
        · exact started _ _
      · exact started _ _
  · exact .refl s

theorem pressMusterKey_keepsStacks (s : State) : s.KeepsStacks (pressMusterKey s) := by
  unfold pressMusterKey
  split
  · split
    · exact (enqueue_frame _ s).keepsStacks.trans (changeRecord_keepsStacks _ _ _)
    · exact .refl s
  · exact .refl s

/-! ## School time -/

theorem notifyMovement_keepsStacks (m : Movement) (s : State) : s.KeepsStacks (notifyMovement m s) := by
  have checked : s.KeepsStacks (if (recomputeAll (bellsMovement m s)).taking then
      checkPhase (recomputeAll (bellsMovement m s)) else recomputeAll (bellsMovement m s)) :=
    ((bellsMovement_keepsStacks m s).frame (recomputeAll_frame _)).trans
      (ite_keepsStacks State.taking checkPhase_keepsStacks _)
  unfold notifyMovement
  dsimp only
  split
  · exact checked.frame (hourByMovement_frame _)
  · exact checked

theorem agreementRound_keepsStacks (s : State) : s.KeepsStacks (agreementRound s) := by
  have moved (kind : MovementKind) (amount : Int) (x : Nat) (t : State) :
      t.KeepsStacks (moveSchool kind amount x t) := by
    unfold moveSchool
    dsimp only
    split
    · exact .refl t
    · exact (((t.setSchool_frame _ _).andThen (adjustSamples_frame _ _)).andThen
        (State.setYlc_frame _ _)).keepsStacks.trans (notifyMovement_keepsStacks _ _)
  unfold agreementRound
  split
  · exact .refl s
  · dsimp only
    split
    · exact (s.setSchool_frame _ _).keepsStacks
    · split
      · exact (s.setSchool_frame _ _).keepsStacks
      · exact (s.setSchool_frame _ _).keepsStacks.trans (moved _ _ _ _)

theorem boundaryReached_keepsStacks (x : Nat) (s : State) : s.KeepsStacks (boundaryReached x s) := by
  have told : s.KeepsStacks (if x % Config.dayMs = 0 && (recomputeAll s).loaded then bellsDayChange x (recomputeAll s)
      else recomputeAll s) := by
    split
    · exact ((recomputeAll_frame s).andThen (newPlanDay_frame _ _)).keepsStacks.trans (examineDue_keepsStacks _)
    · exact (recomputeAll_frame s).keepsStacks
  unfold boundaryReached
  dsimp only
  split
  · exact told.frame (hourByRunning_frame x _)
  · exact told

theorem frameSent_keepsStacks (i : Nat) (q : QueuedFrame) (s : State) : s.KeepsStacks (frameSent i q s) := by
  have reported (t : State) : t.KeepsStacks (reportSent q.frame t) := by
    unfold reportSent
    split
    · exact agreementRound_keepsStacks t
    · exact (claimSent_frame _ t).keepsStacks
    · exact .refl t
  rw [frameSent_eq]
  exact ((afterAttempt_frame s _ _).keepsStacks.trans (reported _)).frame (releaseHeld_frame q.frame _)

theorem whileSending_keepsStacks {f : Nat → QueuedFrame → State → State}
    (keeps : ∀ i q (t : State), t.KeepsStacks (f i q t)) (s : State) : s.KeepsStacks (whileSending f s) := by
  unfold whileSending
  split
  · split
    · exact .refl s
    · split
      · exact .refl s
      · exact keeps _ _ s
  · exact .refl s

/-! ## The floor -/

theorem floorLeavesView_keepsStacks (s : State) : s.KeepsStacks (floorLeavesView s) := by
  unfold floorLeavesView
  split
  · exact .refl s
  · exact (s.setView_frame none).keepsStacks.trans (releaseEverywhere_keepsStacks _ _)

theorem floorLeaves_keepsStacks (holder : Station) (number : Byte) (s : State) :
    s.KeepsStacks (floorLeaves holder number s) :=
  ite_keepsStacks (fun t => t.viewIs holder number) floorLeavesView_keepsStacks s

theorem ownFloorLeaves_keepsStacks (number : Byte) (s : State) : s.KeepsStacks (ownFloorLeaves number s) := by
  unfold ownFloorLeaves
  split
  · exact floorLeaves_keepsStacks _ number s
  · exact .refl s

theorem hearRelease_keepsStacks (sender : Station) (number : Byte) (s : State) :
    s.KeepsStacks (hearRelease sender number s) :=
  (s.setClaims_frame _).keepsStacks.trans (floorLeaves_keepsStacks sender number _)

theorem hearFloorSummary_keepsStacks (sender : Station) (summary : Option FloorSummary) (delimiter : Nat) (s : State) :
    s.KeepsStacks (hearFloorSummary sender summary delimiter s) := by
  unfold hearFloorSummary
  split
  · split
    · exact floorLeavesView_keepsStacks s
    · exact .refl s
  · split
    · exact .refl s
    · split
      · exact .refl s
      · exact (s.setView_frame _).keepsStacks

theorem hearClaim_keepsStacks (sender : Station) (b : ClaimBody) (s : State) : s.KeepsStacks (hearClaim sender b s) := by
  unfold hearClaim
  extract_lets c s1 s2
  have left : s.KeepsStacks s1 := by
    unfold s1
    split
    · split
      · exact floorLeavesView_keepsStacks s
      · exact .refl s
    · exact .refl s
  have joined : s.KeepsStacks s2 := left.frame (joinClaim_frame c s1)
  split
  · split
    · exact joined.frame (enqueue_frame _ _)
    · exact joined
  · exact joined

theorem graceExpires_keepsStacks (s : State) : s.KeepsStacks (graceExpires s) := by
  unfold graceExpires
  split
  · split
    · exact floorLeavesView_keepsStacks s
    · exact .refl s
  · exact .refl s

theorem closeGathering_keepsStacks (o : OwnClaim) (s : State) : s.KeepsStacks (closeGathering o s) := by
  unfold closeGathering
  split
  · exact (((s.setOwn_frame none).andThen (queueRelease_frame _ _ _)).andThen (showRefusal_frame _ _)).keepsStacks.trans
      (ownFloorLeaves_keepsStacks _ _)
  · exact (enterChiming_frame o s).keepsStacks

theorem hearObject_keepsStacks (claimant : Station) (number : Byte) (s : State) :
    s.KeepsStacks (hearObject claimant number s) := by
  unfold hearObject
  split
  · exact (s.setClaims_frame _).keepsStacks
  · split
    · split
      · exact (((ownIdle_frame s).andThen (showRefusal_frame _ _)).keepsStacks.trans
          (ownFloorLeaves_keepsStacks _ _)).frame (queueRelease_frame _ _ _)
      · exact .refl s
    · exact .refl s

theorem hearReady_keepsStacks (sender holder : Station) (number : Byte) (mask : ZoneMask) (s : State) :
    s.KeepsStacks (hearReady sender holder number mask s) := by
  unfold hearReady
  split
  · split
    · dsimp only
      split
      · exact (s.setOwn_frame _).keepsStacks.trans (closeGathering_keepsStacks _ _)
      · exact (s.setOwn_frame _).keepsStacks
    · exact .refl s
  · exact .refl s

theorem displaceFloor_keepsStacks (x : ClaimEntry) (s : State) : s.KeepsStacks (displaceFloor x s) := by
  unfold displaceFloor
  split
  · exact .refl s
  · split
    · exact .refl s
    · dsimp only
      split
      · exact (floorLeavesView_keepsStacks s).frame (ownDisplaced_frame _)
      · exact floorLeavesView_keepsStacks s

theorem offerZones_keepsStacks (x : ClaimEntry) (zones : List ZoneId) (s : State) :
    s.KeepsStacks (offerZones x zones s).1 := by
  have folded (a : State × ZoneMask × ZoneMask) :
      a.1.KeepsStacks (zones.foldl (fun a z => offerZone x z a) a).1 := by
    induction zones generalizing a with
    | nil => exact .refl _
    | cons z rest ih =>
      refine State.KeepsStacks.trans ?_ (ih (offerZone x z a))
      rw [offerZone_state]
      exact pageRequest_keepsStacks _ _ _ z a.1
  exact folded (s, 0, 0)

theorem claimWon_keepsStacks (x : ClaimEntry) (s : State) : s.KeepsStacks (claimWon x s) := by
  have taken : s.KeepsStacks (s.takenBy x) :=
    (((displaceFloor_keepsStacks x s).frame (State.setView_frame _ _)).trans (offerZones_keepsStacks x _ _)).frame
      (State.setView_frame _ _)
  have won (t : State) : t.KeepsStacks (ownWin x.number t) := by
    unfold ownWin
    split
    · split
      · dsimp only
        split
        · exact (t.setOwn_frame _).keepsStacks.trans (closeGathering_keepsStacks _ _)
        · exact (t.setOwn_frame _).keepsStacks
      · exact .refl t
    · exact .refl t
  by_cases own : s.own = some x.claimant
  · rw [claimWon_of_own own]
    exact taken.trans (won _)
  · rw [claimWon_of_peer own]
    split
    · exact taken
    · exact taken.frame (enqueue_frame _ _)

theorem windowCloses_keepsStacks (claimant : Station) (s : State) : s.KeepsStacks (windowCloses claimant s) := by
  have closes (x : ClaimEntry) (t : State) : t.KeepsStacks (closeWindow x t) := by
    have gone := (claimLeaves_frame x.claimant t).keepsStacks
    unfold closeWindow
    dsimp only
    split
    · exact gone.frame (claimLoses_frame x _)
    · split
      · exact gone.trans (claimWon_keepsStacks x _)
      · exact (gone.trans (displaceFloor_keepsStacks x _)).frame (State.setView_frame _ _)
  unfold windowCloses
  split
  · exact ite_keepsStacks State.taking (closes _) s
  · exact .refl s

theorem keyReleased_keepsStacks (k : KeyId) (s : State) : s.KeepsStacks (keyReleased k s) := by
  have released (o : OwnClaim) (t : State) : t.KeepsStacks (releaseOwnKey o t) := by
    have idle (why : ReleaseReason) :=
      ((queueRelease_frame o.number why t).andThen (ownIdle_frame _)).andThen (lampOff_frame o.key _)
    unfold releaseOwnKey
    split
    · exact ((idle _).andThen (ownClaimLeaves_frame _)).keepsStacks
    all_goals exact (idle _).keepsStacks.trans (ownFloorLeaves_keepsStacks _ _)
  unfold keyReleased
  dsimp only
  split
  · split
    · exact (s.setKey_frame _ _).keepsStacks.trans (released _ _)
    · exact (s.setKey_frame _ _).keepsStacks
  · exact (s.setKey_frame _ _).keepsStacks

theorem readyWaitEnds_keepsStacks (s : State) : s.KeepsStacks (readyWaitEnds s) := by
  unfold readyWaitEnds
  split
  · split
    · exact closeGathering_keepsStacks _ s
    · exact .refl s
  · exact .refl s

theorem holdEnds_keepsStacks (s : State) : s.KeepsStacks (holdEnds s) := by
  unfold holdEnds ownHoldEnds
  split
  · split
    · exact (((queueRelease_frame _ .expired s).andThen (ownIdle_frame _)).andThen (lampOff_frame _ _)).keepsStacks.trans
        (ownFloorLeaves_keepsStacks _ _)
    · exact .refl s
  · exact .refl s

/-! ## Yield and the Peer Table -/

theorem yieldStart_keepsStacks (s : State) : s.KeepsStacks (yieldStart s) := by
  have ended (t : State) : t.KeepsStacks (yieldEndsDrill t) := by
    unfold yieldEndsDrill
    split
    · split
      · dsimp only
        split
        · exact (changeRecord_keepsStacks _ _ t).frame (enqueue_frame _ _)
        · exact changeRecord_keepsStacks _ _ t
      · exact .refl t
    · exact .refl t
  have given (t : State) : t.KeepsStacks (floorYield t) := by
    unfold floorYield
    refine State.KeepsStacks.trans ?_ (floorLeavesView_keepsStacks _)
    split
    · rename_i o _
      have idle := ((queueRelease_frame o.number .yield t).andThen (ownIdle_frame _)).andThen (lampOff_frame o.key _)
      dsimp only
      split
      · exact (idle.andThen (ownClaimLeaves_frame _)).keepsStacks
      · exact idle.keepsStacks
    · exact .refl t
  exact (((s.setYielding_frame true).keepsStacks.trans (ended _)).trans (given _)).trans
    (forEach_keepsStacks yieldRequest_keepsStacks allZones _)

theorem updateYield_keepsStacks (s : State) : s.KeepsStacks (updateYield s) := by
  cases taking : s.taking with
  | false => simpa [updateYield, taking] using State.KeepsStacks.refl s
  | true =>
    have caused := s.withPeerCause_frame.keepsStacks
    rcases updateYield_cases s taking with ⟨-, -, h⟩ | ⟨-, -, h⟩ | ⟨-, h⟩ <;> rw [h]
    · exact caused.trans (yieldStart_keepsStacks _)
    · exact (caused.frame (State.setYielding_frame _ false)).trans (releaseEverywhere_keepsStacks _ _)
    · exact caused

theorem contactChanges_keepsStacks (on : Bool) (s : State) : s.KeepsStacks (contactChanges on s) := by
  have told (t : State) : t.KeepsStacks (contactToYield t) := by
    unfold contactToYield
    split
    · exact (t.setYielding_frame _).keepsStacks
    · exact updateYield_keepsStacks t
  unfold contactChanges
  refine State.KeepsStacks.trans ?_ (told _)
  split
  · exact ((setDru_frame s _).andThen (enqueue_frame _ _)).keepsStacks
  · exact (setDru_frame s _).keepsStacks

theorem beaconFrom_keepsStacks (n : Station) (b : BeaconBody) (r : ReceiveStamp) (s : State) :
    s.KeepsStacks (beaconFrom n b r s) := by
  have timed (t : State) : t.KeepsStacks (timeFromBeacon b r t) := by
    unfold timeFromBeacon
    split
    · unfold adopt
      exact (t.setSchool_frame _ _).keepsStacks.trans (notifyMovement_keepsStacks _ _)
    · exact .refl t
  have drilled (t : State) : t.KeepsStacks (drillFromBeacon n b t) := by
    unfold drillFromBeacon
    split
    · exact takeOffer_keepsStacks _ t
    · exact .refl t
  have heard := (s.setPeer_frame n ((s.peer n).afterBeacon b (s.stampTaken r) s.now)).keepsStacks.trans (timed _)
  unfold beaconFrom
  dsimp only
  split
  · exact ((heard.trans (hearFloorSummary_keepsStacks _ _ _ _)).trans (drilled _)).trans (updateYield_keepsStacks _)
  · exact heard

theorem peerLost_keepsStacks (n : Station) (s : State) : s.KeepsStacks (peerLost n s) := by
  have lost := (s.setPeer_frame n (s.peer n).lost).keepsStacks
  have left (t : State) : t.KeepsStacks (floorPeerLost n t) := by
    unfold floorPeerLost
    split
    · split
      · exact floorLeavesView_keepsStacks t
      · exact .refl t
    · exact .refl t
  unfold peerLost
  dsimp only
  split
  · exact (lost.trans (left _)).trans (updateYield_keepsStacks _)
  · exact lost

/-! ## Acceptance and the load -/

theorem ifTaking_keepsStacks {f : State → State} (keeps : ∀ t : State, t.KeepsStacks (f t)) (t : State) :
    t.KeepsStacks (ifTaking f t) :=
  ite_keepsStacks State.taking keeps t

theorem forStation_keepsStacks {b : Byte} {f : Station → State → State} (keeps : ∀ n (t : State), t.KeepsStacks (f n t))
    (t : State) : t.KeepsStacks (forStation b f t) := by
  unfold forStation
  split
  · exact keeps _ t
  · exact .refl t

/-- R37 to R40: the receiver's own part of a frame heard leaves the zones. -/
theorem accept_keepsStacks {sender : Byte} {deliver : Station → ReceiveStamp → State → State}
    (keeps : ∀ n r (t : State), t.KeepsStacks (deliver n r t)) (s : State) : s.KeepsStacks (accept sender deliver s) := by
  have hunts := s.setYlc_frame s.ylc.hunt
  have counted (y : YardLine) : s.keepsAllBut [.ylc] ((s.setYlc s.ylc.hunt).setYlc y) :=
    (hunts.andThen (State.setYlc_frame _ y)).within
  unfold accept
  dsimp only
  split
  · exact hunts.keepsStacks
  · split
    · exact (counted _).keepsStacks
    · split
      · exact (counted _).keepsStacks
      · split
        · exact ((counted _).andThen (peerHeard_frame _ _)).keepsStacks.trans (keeps _ _ _)
        · exact (counted _).keepsStacks

/-- R203: the entry to CONFIG-FAULT leaves the zones. -/
theorem enterConfigFault_frame (code : FaultCode) (s : State) :
    s.keepsAllBut [.tb, .bs, .dru, .sp] (enterConfigFault code s) := by
  unfold enterConfigFault
  refine State.keepsAllBut_trans (fun p out => ?_) (startBeaconTimer_frame _).within
  cases p <;> first | rfl | simp at out

theorem applySettings_zone (i : CheckedImage) (x : Settings) (all : List Warning) (s : State) (z : ZoneId) :
    (applySettings i x all s).zone z = x.zones[z] := rfl

/-- R101, R200: the zones of an image hold nothing. -/
theorem imageRead_keepsStacks (memory : List Byte) (s : State) : s.KeepsStacks (imageRead memory s) := by
  unfold imageRead
  split
  · rename_i i _
    have zones : s.KeepsStacks (applySettings i (settingsOf i.sections).1 (settingsOf i.sections).2 s) := fun _ => by
      obtain ⟨lines, zones⟩ := settingsOf_zones i.sections
      refine State.stacksLawful_iff.mpr fun z => Zone.lawful_of_empty ?_
      rw [applySettings_zone, zones, zonesFrom_zone]
      rfl
    obtain ⟨loaded, -⟩ := loadedWith_spec i s
    rw [enterListening_eq]
    exact ((zones.frame loaded).frame (State.setYielding_frame _ false)).trans (updateYield_keepsStacks _)
  · exact (enterConfigFault_frame _ s).keepsStacks

theorem enterRunning_keepsStacks (s : State) : s.KeepsStacks (enterRunning s) := by
  have started := ((setSp_frame s { s.sp with config := .running, listeningEnd := none }).andThen
    (startBeaconTimer_frame _)).andThen (forEach_keepsAllBut tryImpulse_frame allSlots _)
  have examined := (started.keepsStacks.trans
    (forEach_keepsStacks (fun z t => (startEffects_sameOwners z t).keepsStacks) allZones _)).trans
    (examineDue_keepsStacks _)
  unfold enterRunning
  dsimp only
  split
  · exact examined.frame (enqueue_frame _ _)
  · exact examined

end Sys2Proof.Machine
end

section
/-! PROOF. R103, R117: the law of TRUNK-SELECT and the law of the hold stack through every command and every step. -/

namespace Sys2Proof.Machine

-- one declaration at a time, as in the tests: the threads of a whole text's proofs do not fit the memory limit
set_option Elab.async false

/-! ## What keeps both laws -/

/-- What made `t` of `s` keeps the law of TRUNK-SELECT and the law of the hold stack. -/
structure State.KeepsZoneLaws (s t : State) : Prop where
  trunk : s.trunkLawful = true → t.trunkLawful = true
  hold : s.KeepsStacks t

theorem State.trunkLawful_iff {s : State} : s.trunkLawful = true ↔ s.za.trunkSelect = s.anyPaged := beq_iff_eq

section

variable {s t u : State} {parts : List Part}

theorem State.KeepsZoneLaws.refl (s : State) : s.KeepsZoneLaws s := ⟨id, id⟩

theorem State.KeepsZoneLaws.trans (h1 : s.KeepsZoneLaws t) (h2 : t.KeepsZoneLaws u) : s.KeepsZoneLaws u :=
  ⟨fun h => h2.trunk (h1.trunk h), h1.hold.trans h2.hold⟩

/-- What does not write the zones. -/
theorem State.keepsAllBut.keepsZoneLaws (h : s.keepsAllBut parts t) (out : Part.za ∉ parts := by decide) :
    s.KeepsZoneLaws t where
  trunk lawful := by
    have za : t.za = s.za := h .za out
    simpa only [State.trunkLawful, State.anyPaged, State.zone, za] using lawful
  hold := h.keepsStacks out

/-- R117, R119, R120: zones that hold nothing, with TRUNK-SELECT off. -/
theorem State.KeepsZoneLaws.of_empty (free : ∀ z : ZoneId, (t.zone z).owner = none ∧ (t.zone z).stack = [])
    (off : t.za.trunkSelect = false) : s.KeepsZoneLaws t where
  trunk _ := by
    rw [State.trunkLawful_iff, off, anyPaged_of_idle fun z => (free z).1]
  hold _ := State.stacksLawful_iff.mpr fun z => Zone.lawful_of_empty (free z).2

end

theorem ite_keepsZoneLaws {f : State → State} (c : State → Bool) (keeps : ∀ t : State, t.KeepsZoneLaws (f t)) (t : State) :
    t.KeepsZoneLaws (if c t then f t else t) := by
  split
  · exact keeps t
  · exact .refl t

/-- R117: TRUNK-SELECT follows the zones at the end of every change, and the grants and the selection after it leave every
owner. -/
theorem asOneChange_trunkLawful (f : State → State) (s : State) : (asOneChange f s).trunkLawful = true := by
  have synced : asOneChange f s =
      endOfStep (forEach allZones (fun z t => settleZone s.za.zones[z] z t) (f s)) := rfl
  obtain ⟨-, trunk, -, -, -, -, -, -, -, -, zones⟩ :=
    endOfStepGrantsAndSelects (forEach allZones (fun z t => settleZone s.za.zones[z] z t) (f s))
  rw [State.trunkLawful_iff, synced, trunk]
  simp only [State.anyPaged, Zone.level, (zones _).1]

/-- R103, R117: an effect that keeps the stacks keeps both laws as one change. -/
theorem change_keepsZoneLaws {f : State → State} (keeps : ∀ t : State, t.KeepsStacks (f t)) (s : State) :
    s.KeepsZoneLaws (change f s) := by
  unfold change whenUp
  split
  · exact ⟨fun _ => asOneChange_trunkLawful f s, (keeps s).trans (asOneChange_keepsStacks f s)⟩
  · exact .refl s

theorem change_keepsZoneLaws_of_frame {f : State → State} {parts : List Part}
    (frame : ∀ t : State, t.keepsAllBut parts (f t)) (s : State) (out : Part.za ∉ parts := by decide) :
    s.KeepsZoneLaws (change f s) :=
  change_keepsZoneLaws (fun t => (frame t).keepsStacks out) s

theorem heard_keepsZoneLaws {sender : Byte} {deliver : Station → ReceiveStamp → State → State}
    (keeps : ∀ n r (t : State), t.KeepsStacks (deliver n r t)) (s : State) :
    s.KeepsZoneLaws (change (accept sender deliver) s) :=
  change_keepsZoneLaws (accept_keepsStacks keeps) s

theorem heard_keepsZoneLaws_of_frame {sender : Byte} {deliver : Station → ReceiveStamp → State → State}
    {parts : List Part} (frame : ∀ n r (t : State), t.keepsAllBut parts (deliver n r t)) (s : State)
    (out : Part.za ∉ parts := by decide) : s.KeepsZoneLaws (change (accept sender deliver) s) :=
  heard_keepsZoneLaws (fun n r t => (frame n r t).keepsStacks out) s

/-! ## Supply and resets -/

/-- R119: the entry to HOLD-UP empties the zones. -/
theorem enterHoldUp_keepsZoneLaws (s : State) : s.KeepsZoneLaws (enterHoldUp s) := by
  obtain ⟨zones, trunk⟩ := enterHoldUp_za s
  exact .of_empty (fun z => ⟨congrArg Zone.owner (zones z), congrArg Zone.stack (zones z)⟩) trunk

theorem warningAsserts_keepsZoneLaws (s : State) : s.KeepsZoneLaws (warningAsserts s) := by
  have warned := (setDs_frame s { s.ds with warning := true }).keepsZoneLaws
  unfold warningAsserts
  dsimp only
  split
  · exact warned
  · split
    · exact warned.trans (enterHoldUp_keepsZoneLaws _)
    · exact warned.trans (setDs_frame _ _).keepsZoneLaws

theorem endOfReset_keepsZoneLaws (straps : BitVec 5) (s : State) : s.KeepsZoneLaws (endOfReset straps s) := by
  have loading (t : State) : t.KeepsZoneLaws (startLoading straps t) := by
    unfold startLoading
    split
    · exact (setSp_frame t _).keepsZoneLaws
    · exact (enterConfigFault_frame _ t).keepsZoneLaws
  exact ((eraseIfFull_frame s).keepsZoneLaws.trans (loading _)).trans
    (ite_keepsZoneLaws (fun t => t.ds.warning) warningAsserts_keepsZoneLaws _)

/-- R120: the zones after a reset hold nothing. -/
theorem afterReset_keepsZoneLaws {s t : State} (za : t.za = ZoneArbiter.afterReset) : s.KeepsZoneLaws t := by
  refine .of_empty (fun z => ?_) (by rw [za]; rfl)
  simp [State.zone, za, ZoneArbiter.afterReset, Zone.afterReset]

theorem powerOnReset_keepsZoneLaws (straps : BitVec 5) (warning : Bool) (s : State) :
    s.KeepsZoneLaws (powerOnReset straps warning s) := by
  have erased := ((recoveryScan_frame { collapse s with powered := true }).andThen (eraseIfFull_frame _)).andThen
    (setDs_frame _ { (eraseIfFull (recoveryScan { collapse s with powered := true })).ds with warning })
  have reset := afterReset_keepsZoneLaws (s := s) (erased.part .za)
  unfold powerOnReset
  dsimp only
  split
  · exact reset
  · exact reset.trans (endOfReset_keepsZoneLaws straps _)

/-! ## Every command -/

/-- R103, R117: no command takes the zones out of their laws. -/
theorem exec_keeps_zone_laws (c : Instr) (s : State) : ∃ t, exec c s = .next t ∧ s.KeepsZoneLaws t := by
  cases c with
  | powerOn straps warning =>
    refine ⟨_, rfl, ?_⟩
    split
    · exact .refl s
    · exact powerOnReset_keepsZoneLaws _ _ s
  | rstAssert =>
    refine ⟨_, rfl, ?_⟩
    split
    · exact afterReset_keepsZoneLaws rfl
    · exact ⟨id, id⟩
  | rstRelease straps =>
    refine ⟨_, rfl, ?_⟩
    have released : s.KeepsZoneLaws { s with rst := false } := ⟨id, id⟩
    split
    · exact released.trans (endOfReset_keepsZoneLaws straps _)
    · exact released
  | configImageRead memory =>
    exact ⟨_, rfl, change_keepsZoneLaws (ite_keepsStacks _ (imageRead_keepsStacks memory)) s⟩
  | listeningEnd => exact ⟨_, rfl, change_keepsZoneLaws (ite_keepsStacks _ enterRunning_keepsStacks) s⟩
  | supplyWarning => exact ⟨_, rfl, ite_keepsZoneLaws State.powered warningAsserts_keepsZoneLaws s⟩
  | warningClears =>
    refine ⟨_, rfl, ?_⟩
    unfold warningClears
    dsimp only
    split
    · split <;> exact (setDs_frame s _).keepsZoneLaws
    · exact .refl s
  | warningReasserts => exact ⟨_, rfl, ite_keepsZoneLaws State.powered warningAsserts_keepsZoneLaws s⟩
  | clearTimerExpiry straps =>
    refine ⟨_, rfl, ?_⟩
    split
    · exact (afterReset_keepsZoneLaws rfl).trans (endOfReset_keepsZoneLaws straps _)
    · exact .refl s
  | supplyCollapse =>
    exact ⟨_, rfl, ite_keepsZoneLaws State.powered (fun _ => afterReset_keepsZoneLaws rfl) s⟩
  | displayWord => exact ⟨_, rfl, (whenUp_frame (ite_frame _ fun t => setSp_frame t _) s).keepsZoneLaws⟩
  | beaconTimerExpiry =>
    exact ⟨_, rfl, change_keepsZoneLaws (ite_keepsStacks _ fun t =>
      ((setTb_frame t _).andThen (requestBeacon_frame _)).keepsStacks) s⟩
  | schoolTimeBoundary =>
    refine ⟨_, rfl, change_keepsZoneLaws (fun t => ?_) s⟩
    split
    · exact boundaryReached_keepsStacks _ t
    · exact .refl t
  | idleGapExpiry => exact ⟨_, rfl, change_keepsZoneLaws_of_frame (ite_frame _ lineQuiet_frame) s⟩
  | backOffEnd => exact ⟨_, rfl, change_keepsZoneLaws_of_frame (ite_frame _ beginTransmission_frame) s⟩
  | transmitComplete => exact ⟨_, rfl, change_keepsZoneLaws (whileSending_keepsStacks frameSent_keepsStacks) s⟩
  | collision =>
    exact ⟨_, rfl, change_keepsZoneLaws (whileSending_keepsStacks fun i q t =>
      (frameCollided_frame i q t).keepsStacks) s⟩
  | receiveAbort => exact ⟨_, rfl, change_keepsZoneLaws_of_frame receiveAbort_frame s⟩
  | frameRejected frame => exact ⟨_, rfl, change_keepsZoneLaws_of_frame (frameRejected_frame frame) s⟩
  | beacon sender body => exact ⟨_, rfl, heard_keepsZoneLaws (fun n r => beaconFrom_keepsStacks n body r) s⟩
  | dayplan sender day code =>
    refine ⟨_, rfl, heard_keepsZoneLaws_of_frame (parts := [.bs]) (fun _ _ => ifLoaded_frame fun t => ?_) s⟩
    split
    · exact takeDayplan_frame _ _ t
    · exact t.keepsAllBut_refl _
  | removeOverride sender day =>
    exact ⟨_, rfl, heard_keepsZoneLaws_of_frame (fun _ _ => ifLoaded_frame (takeDayplan_frame _ _)) s⟩
  | shift sender day kind first last delta =>
    refine ⟨_, rfl, heard_keepsZoneLaws_of_frame (parts := [.bs]) (fun _ _ => ifLoaded_frame fun t => ?_) s⟩
    split
    · exact takeShift_frame _ _ _ _ _ t
    · exact t.keepsAllBut_refl _
  | cancel sender day first last =>
    exact ⟨_, rfl, heard_keepsZoneLaws_of_frame (fun _ _ => ifLoaded_frame (takeShift_frame _ _ _ _ _)) s⟩
  | clearAll sender day =>
    exact ⟨_, rfl, heard_keepsZoneLaws_of_frame (fun _ _ => ifLoaded_frame (takeShift_frame _ _ _ _ _)) s⟩
  | claim sender body =>
    exact ⟨_, rfl, heard_keepsZoneLaws (fun n _ => ifTaking_keepsStacks (hearClaim_keepsStacks n body)) s⟩
  | object sender claimant number reason =>
    exact ⟨_, rfl, heard_keepsZoneLaws (fun _ _ =>
      ifTaking_keepsStacks (forStation_keepsStacks fun c => hearObject_keepsStacks c number)) s⟩
  | ready sender holder number readyMask refusedMask =>
    exact ⟨_, rfl, heard_keepsZoneLaws (fun n _ =>
      ifTaking_keepsStacks (forStation_keepsStacks fun h => hearReady_keepsStacks n h number readyMask)) s⟩
  | release sender number reason =>
    exact ⟨_, rfl, heard_keepsZoneLaws (fun n _ => ifTaking_keepsStacks (hearRelease_keepsStacks n number)) s⟩
  | drillStart sender body =>
    exact ⟨_, rfl, heard_keepsZoneLaws (fun _ _ => ifTaking_keepsStacks (takeOffer_keepsStacks _)) s⟩
  | silence sender initiator number =>
    exact ⟨_, rfl, heard_keepsZoneLaws (fun _ _ =>
      ifTaking_keepsStacks (forStation_keepsStacks fun i => hearSilence_keepsStacks i number)) s⟩
  | muster sender initiator number elapsed =>
    exact ⟨_, rfl, heard_keepsZoneLaws (fun n _ =>
      ifTaking_keepsStacks (forStation_keepsStacks fun i => hearMuster_keepsStacks n i number elapsed)) s⟩
  | drillEnd sender initiator number reason =>
    exact ⟨_, rfl, heard_keepsZoneLaws (fun _ _ =>
      ifTaking_keepsStacks (forStation_keepsStacks fun i => hearDrillEnd_keepsStacks i number _)) s⟩
  | yield sender state =>
    exact ⟨_, rfl, heard_keepsZoneLaws (fun n _ t =>
      (peerYields_frame n state t).keepsStacks.trans (ifTaking_keepsStacks updateYield_keepsStacks _)) s⟩
  | dialSet sender target line position =>
    exact ⟨_, rfl, heard_keepsZoneLaws_of_frame (fun _ _ =>
      ifTargeted_frame target (ifLoaded_frame (dialSet_frame line position))) s⟩
  | statusAsk sender target page =>
    exact ⟨_, rfl, heard_keepsZoneLaws_of_frame (fun n _ =>
      ifTargeted_frame target (ite_frame _ (requestReply_frame n page))) s⟩
  | statusReply sender asker page content =>
    exact ⟨_, rfl, heard_keepsZoneLaws (fun _ _ t => .refl t) s⟩
  | invertNextReply sender target action line =>
    refine ⟨_, rfl, heard_keepsZoneLaws_of_frame (parts := [.ylc]) (fun _ _ => ifTargeted_frame target fun t => ?_) s⟩
    split
    · exact t.setYlc_frame _
    · exact t.keepsAllBut_refl _
  | lockSupervision sender target line =>
    refine ⟨_, rfl, heard_keepsZoneLaws_of_frame (parts := [.dsq]) (fun _ _ =>
      ifTargeted_frame target (ifTaking_frame fun t => ?_)) s⟩
    split
    · exact lockLine_frame _ t
    · exact t.keepsAllBut_refl _
  | unlock sender target line =>
    exact ⟨_, rfl, heard_keepsZoneLaws_of_frame (fun _ _ =>
      ifTargeted_frame target (ifTaking_frame unlockLine_frame)) s⟩
  | agingExpiry peer => exact ⟨_, rfl, change_keepsZoneLaws (ite_keepsStacks _ (peerLost_keepsStacks peer)) s⟩
  | spacingExpiry slot => exact ⟨_, rfl, change_keepsZoneLaws_of_frame (ite_frame _ (tryImpulse_frame slot)) s⟩
  | staggerExpiry => exact ⟨_, rfl, change_keepsZoneLaws State.KeepsStacks.refl s⟩
  | widthExpiry line => exact ⟨_, rfl, change_keepsZoneLaws (widthExpires_keepsStacks line) s⟩
  | gapExpiry line => exact ⟨_, rfl, change_keepsZoneLaws (gapEnds_keepsStacks line) s⟩
  | chimeWidthExpiry => exact ⟨_, rfl, change_keepsZoneLaws_of_frame chimeWidthEnds_frame s⟩
  | chimeGapExpiry => exact ⟨_, rfl, change_keepsZoneLaws_of_frame chimeGapEnds_frame s⟩
  | overcurrent line => exact ⟨_, rfl, change_keepsZoneLaws (overcurrentAt_keepsStacks line) s⟩
  | supervisionSlot reading =>
    exact ⟨_, rfl, change_keepsZoneLaws (ite_keepsStacks _ (supervise_keepsStacks reading)) s⟩
  | entryDue => exact ⟨_, rfl, change_keepsZoneLaws examineDue_keepsStacks s⟩
  | pageKeyPress key =>
    refine ⟨_, rfl, ?_⟩
    split
    · exact change_keepsZoneLaws_of_frame (keyHeld_frame key) s
    · exact (s.setKey_frame _ _).keepsZoneLaws
  | pageKeyRelease key =>
    refine ⟨_, rfl, ?_⟩
    split
    · exact change_keepsZoneLaws (keyReleased_keepsStacks key) s
    · exact (s.setKey_frame _ _).keepsZoneLaws
  | refusalEnd key => exact ⟨_, rfl, (whenUp_frame (ite_frame _ (lampOff_frame key)) s).keepsZoneLaws⟩
  | windowClose claimant => exact ⟨_, rfl, change_keepsZoneLaws (windowCloses_keepsStacks claimant) s⟩
  | readyWaitEnd => exact ⟨_, rfl, change_keepsZoneLaws readyWaitEnds_keepsStacks s⟩
  | holdEnd => exact ⟨_, rfl, change_keepsZoneLaws holdEnds_keepsStacks s⟩
  | targetGraceExpiry => exact ⟨_, rfl, change_keepsZoneLaws graceExpires_keepsStacks s⟩
  | drillKeyPress => exact ⟨_, rfl, change_keepsZoneLaws (ite_keepsStacks _ pressDrillKey_keepsStacks) s⟩
  | musterKeyPress => exact ⟨_, rfl, change_keepsZoneLaws (ite_keepsStacks _ pressMusterKey_keepsStacks) s⟩
  | keyArmed key => exact ⟨_, rfl, (whenUp_frame (armKey_frame key) s).keepsZoneLaws⟩
  | drillDeadline => exact ⟨_, rfl, change_keepsZoneLaws (ite_keepsStacks _ checkPhase_keepsStacks) s⟩
  | firePanelChange asserted =>
    refine ⟨_, rfl, change_keepsZoneLaws (fun t => ?_) s⟩
    split
    · exact .refl t
    · exact contactChanges_keepsStacks asserted t
  | writeComplete => exact ⟨_, rfl, (whenUp_frame writeEnds_frame s).keepsZoneLaws⟩
  | eraseComplete => exact ⟨_, rfl, (whenUp_frame eraseEnds_frame s).keepsZoneLaws⟩
  | startBitSeen bit => exact ⟨_, rfl, change_keepsZoneLaws_of_frame (startBit_frame bit) s⟩
  | delimiterRecognised => exact ⟨_, rfl, change_keepsZoneLaws_of_frame delimiter_frame s⟩

/-- R103, R117: a step is one millisecond or one command, and each keeps the laws. -/
theorem step_keepsZoneLaws {s t : State} (h : step s = .next t) : s.KeepsZoneLaws t := by
  unfold step at h
  split at h
  · cases h
    exact (tick_frame s).keepsZoneLaws
  · rename_i c rest _
    obtain ⟨u, ran, keeps⟩ := exec_keeps_zone_laws c { s with pending := rest }
    rw [ran] at h
    cases h
    exact (setPending_frame s rest).keepsZoneLaws.trans keeps

/-- Settles O9: TRUNK-SELECT is taken anew from the zones at the end of every change, and every owner comes over owners of
lower levels alone. -/
theorem stepKeepsTrunkSelect : Obligations.StepKeepsTrunkSelect :=
  ⟨fun _ _ lawful ran => (step_keepsZoneLaws ran).trunk lawful, fun _ _ lawful ran => (step_keepsZoneLaws ran).hold lawful⟩

end Sys2Proof.Machine
end

section
/-! PROOF. What the end of a change leaves of one zone (R111 to R113): its deferred bell is examined where it has become
IDLE, and the effects of the zones leave every owner, every stack and every deferred bell. -/

namespace Sys2Proof.Machine

-- one declaration at a time, as in the tests: the threads of a whole text's proofs do not fit the memory limit
set_option Elab.async false

/-! ## The effects of one zone at another -/

section

variable {y z : ZoneId} {s t : State}

/-- A zone that is not the one rewritten after an operation on the lines. -/
theorem setZone_zone_after (other : y ≠ z) (lines : s.keepsAllBut [.dsq] t) (r : Zone) :
    (t.setZone z r).zone y = s.zone y :=
  (State.setZone_zone_ne _ _ _ _ other).trans (State.zone_of_za (lines.part .za) y)

theorem stopEffects_other (other : y ≠ z) (old : Option Owner) (s : State) :
    (stopEffects old z s).zone y = s.zone y := by
  unfold stopEffects
  split
  · split
    · rename_i l _
      have lines := cancelPlayer_frame l s
      unfold cutBellPlayer
      split <;> rename_i cancelled <;> rw [cancelled] at lines
      · exact setZone_zone_after other lines _
      · exact State.zone_of_za (lines.part .za) y
    · rfl
  · split
    · rfl
    · unfold pageLineOff
      split
      · split
        · exact setZone_zone_after other (pageSwitchOff_frame _ s) _
        · rfl
      · rfl
  · unfold sounderOff
    split
    · split
      · exact setZone_zone_after other (cancelPlayer_frame _ s) _
      · rfl
    · rfl
  · rfl
  · rfl

theorem startEffects_other (other : y ≠ z) (s : State) : (startEffects z s).zone y = s.zone y := by
  unfold startEffects
  split
  · rfl
  · split
    · split
      · exact State.zone_of_za ((startPlayer_frame _ _ s).part .za) y
      · rfl
    · unfold pageLineOn
      split
      · exact setZone_zone_after other (pageSwitchOn_frame _ s) _
      · rfl
    · split
      · unfold sounderStart
        split
        · exact setZone_zone_after other (startPlayer_frame _ none s) _
        · rfl
      · rfl
    · rfl
    · rfl

/-- R111 to R113: the end of a change at one zone leaves the other zones. -/
theorem settleZone_other (old : Zone) (other : y ≠ z) (s : State) : (settleZone old z s).zone y = s.zone y := by
  have examined : (if (s.zone z).owner.isNone && old.owner.isSome then examineDeferred z s else s).zone y =
      s.zone y := by
    split
    · exact examineDeferred_other other s
    · rfl
  unfold settleZone
  dsimp only
  generalize (if (s.zone z).owner.isNone && old.owner.isSome then examineDeferred z s else s) = u at *
  split
  · exact examined
  · exact (startEffects_other other _).trans ((stopEffects_other other old.owner u).trans examined)

end

/-! ## A zone that has become IDLE -/

/-- R112: the zone can ring, and the bell is within the late limit. -/
def State.ringsLate (s : State) (r : Zone) (b : Bell) : Bool :=
  (r.bellLine.any fun l => !(s.line l).cls.faulted) && s.inTime b.effective

/-- R112: a zone that has become IDLE once its deferred bell is examined: the bell rings, or is missed. -/
def State.idled (s : State) (r : Zone) : Zone :=
  match r.deferred with
  | none => r
  | some b =>
    if s.ringsLate r b then { r with deferred := none, owner := some (.bell b), bellStarted := false }
    else { r with deferred := none }

/-- R112: a zone with a good bell line rings a bell that is within the late limit. -/
theorem State.ringsLate_of_good {s : State} {r : Zone} {l : LineId} (bellLine : r.bellLine = some l)
    (good : (s.line l).cls.faulted = false) (b : Bell) : s.ringsLate r b = s.inTime b.effective := by
  simp [State.ringsLate, bellLine, good]

/-- R112: a zone with no bell line or a faulted one does not ring. -/
theorem State.ringsLate_of_unable {s : State} {r : Zone}
    (unable : r.bellLine = none ∨ ∃ l, r.bellLine = some l ∧ (s.line l).cls.faulted = true) (b : Bell) :
    s.ringsLate r b = false := by
  rcases unable with none | ⟨l, bellLine, faulted⟩
  · simp [State.ringsLate, none]
  · simp [State.ringsLate, bellLine, faulted]

section

variable {s : State} {r : Zone} {b : Bell}

theorem State.idled_of_undeferred (deferred : r.deferred = none) : s.idled r = r := by
  simp [State.idled, deferred]

theorem State.idled_of_rings (deferred : r.deferred = some b) (rings : s.ringsLate r b = true) :
    s.idled r = { r with deferred := none, owner := some (.bell b), bellStarted := false } := by
  simp [State.idled, deferred, rings]

theorem State.idled_of_missed (deferred : r.deferred = some b) (missed : s.ringsLate r b = false) :
    s.idled r = { r with deferred := none } := by
  simp [State.idled, deferred, missed]

end

theorem examineDeferred_zone (z : ZoneId) (s : State) : (examineDeferred z s).zone z = s.idled (s.zone z) := by
  unfold examineDeferred State.idled State.ringsLate
  dsimp only
  cases deferred : (s.zone z).deferred with
  | none => rfl
  | some b =>
    dsimp only
    cases bellLine : (s.zone z).bellLine with
    | none => simp [bellMissed_zone]
    | some l =>
      cases faulted : (s.line l).cls.faulted <;> cases inTime : s.inTime b.effective <;>
        simp [bellMissed_zone, faulted]

/-- R111, R112: a zone once the end of a change has come to it, where it was `old` before the change. -/
def State.settled (s : State) (old r : Zone) : Zone :=
  if r.owner.isNone && old.owner.isSome then s.idled r else r

theorem State.settled_of_owned {s : State} {old r : Zone} {o : Owner} (owned : r.owner = some o) :
    s.settled old r = r := by
  simp [State.settled, owned]

theorem State.settled_of_emptied {s : State} {old r : Zone} {o : Owner} (was : old.owner = some o)
    (empty : r.owner = none) : s.settled old r = s.idled r := by
  simp [State.settled, was, empty]

/-- The same owner, the same stack and the same deferred bell. -/
structure Zone.SameHold (a b : Zone) : Prop where
  owner : b.owner = a.owner
  stack : b.stack = a.stack
  deferred : b.deferred = a.deferred

theorem settleZone_hold (old : Zone) (z : ZoneId) (s : State) :
    (s.settled old (s.zone z)).SameHold ((settleZone old z s).zone z) := by
  have examined : (if (s.zone z).owner.isNone && old.owner.isSome then examineDeferred z s else s).zone z =
      s.settled old (s.zone z) := by
    unfold State.settled
    split
    · exact examineDeferred_zone z s
    · rfl
  unfold settleZone
  dsimp only
  generalize (if (s.zone z).owner.isNone && old.owner.isSome then examineDeferred z s else s) = u at *
  rw [← examined]
  split
  · exact ⟨rfl, rfl, rfl⟩
  · have owners := (stopEffects_sameOwners old.owner z u).trans (startEffects_sameOwners z _) z
    have deferred := (stopEffects_sameDeferred old.owner z u).trans (startEffects_sameDeferred z _) z
    exact ⟨owners.1, owners.2, deferred⟩

/-- The examination of a deferred bell reads school time, the late limit and the classes of the lines. -/
theorem State.settled_congr {s t : State} (tb : t.tb = s.tb) (limit : t.bs.lateLimit = s.bs.lateLimit)
    (cls : ∀ l : LineId, (t.line l).cls = (s.line l).cls) (old r : Zone) : t.settled old r = s.settled old r := by
  have inTime (x : Int) : t.inTime x = s.inTime x := by
    simp only [State.inTime, State.lateness, State.school, tb, limit]
  have rings (b : Bell) : t.ringsLate r b = s.ringsLate r b := by
    simp only [State.ringsLate, inTime, cls]
  have idled : t.idled r = s.idled r := by
    unfold State.idled
    split
    · rfl
    · rw [rings]
  rw [State.settled, State.settled, idled]

/-- R111 to R113: what a step that is one change leaves of the owner, the stack and the deferred bell of a zone. -/
theorem asOneChange_hold (f : State → State) (s : State) (z : ZoneId) :
    ((f s).settled (s.zone z) ((f s).zone z)).SameHold ((asOneChange f s).zone z) := by
  have each {zones : List ZoneId} (nodup : zones.Nodup) (mem : z ∈ zones) (u : State) :
      (u.settled (s.zone z) (u.zone z)).SameHold ((forEach zones (fun y t => settleZone s.za.zones[y] y t) u).zone z) := by
    induction zones generalizing u with
    | nil => cases mem
    | cons y rest ih =>
      obtain ⟨fresh, nodup⟩ := List.nodup_cons.mp nodup
      rw [forEach_cons]
      by_cases here : z = y
      · subst here
        rw [forEach_zone_other (fun _ _ t other => settleZone_other _ other t) fresh]
        exact settleZone_hold _ z u
      · have later := ih nodup ((List.mem_cons.mp mem).resolve_left here) (settleZone s.za.zones[y] y u)
        obtain ⟨_, bs⟩ := settleZone_onlyMisses s.za.zones[y] y u
        rwa [settleZone_other _ here, State.settled_congr ((settleZone_frame _ y u).part .tb) (by rw [bs])
          fun l => ((settleZone_moves _ y u).lines l).2.1] at later
  obtain ⟨owner, stack, deferred⟩ := each nodup_allZones (mem_allZones z) (f s)
  unfold asOneChange settleZones
  generalize forEach allZones (fun y t => settleZone s.za.zones[y] y t) (f s) = u at *
  obtain ⟨_, granted⟩ := (arbitrate_grants (syncTrunk u)).zones z
  rw [State.zone_of_za ((selectNext_frame _).part .za), granted]
  exact ⟨owner, stack, deferred⟩

end Sys2Proof.Machine
end

section
/-! PROOF. RELEASE (R110 to R112, R143, R150): the sender's claim and floor gone, and the zones that held the floor. -/

namespace Sys2Proof.Machine

-- one declaration at a time, as in the tests: the threads of a whole text's proofs do not fit the memory limit
set_option Elab.async false

/-! ## A release at one zone -/

/-- R110, R111: a zone without the owners that `is` holds of: where its current owner was one, the first entry of the
rest that `keep` holds of is current. -/
def Zone.without (r : Zone) (is keep : Owner → Bool) : Zone :=
  let rest := r.stack.filter fun o => !is o
  if r.owner.any is then
    { r with owner := (popStack keep rest).1, stack := (popStack keep rest).2, bellStarted := false }
  else { r with stack := rest }

theorem releaseAt_same (is : Owner → Bool) (z : ZoneId) (s : State) :
    (releaseAt is z s).zone z = (s.zone z).without is (keepEntry s z) := by
  have check (r : Zone) : keepEntry (s.setZone z r) z = keepEntry s z := by
    funext o
    cases o <;> rfl
  unfold releaseAt Zone.without
  dsimp only
  cases owner : (s.zone z).owner with
  | none => simp
  | some o => cases gone : is o <;> simp [popZone, check, gone]

/-- R110: what a release at every zone leaves of each. -/
theorem releaseEverywhere_zone (is : Owner → Bool) (s : State) (z : ZoneId) :
    (releaseEverywhere is s).zone z = (s.zone z).without is (keepEntry s z) := by
  have check (y : ZoneId) (u : State) : keepEntry (releaseAt is y u) z = keepEntry u z := by
    have frame := releaseAt_frame is y u
    have fu : (releaseAt is y u).fu = u.fu := frame.part .fu
    have dru : (releaseAt is y u).dru = u.dru := frame.part .dru
    funext o
    cases o <;> simp only [keepEntry, fu, dru]
  have each {zones : List ZoneId} (nodup : zones.Nodup) (mem : z ∈ zones) (u : State) :
      (forEach zones (releaseAt is) u).zone z = (u.zone z).without is (keepEntry u z) := by
    induction zones generalizing u with
    | nil => cases mem
    | cons y rest ih =>
      obtain ⟨fresh, nodup⟩ := List.nodup_cons.mp nodup
      rw [forEach_cons]
      by_cases here : z = y
      · subst here
        rw [forEach_releaseAt_other is fresh, releaseAt_same]
      · rw [ih nodup ((List.mem_cons.mp mem).resolve_left here), releaseAt_other is here, check]
  exact each nodup_allZones (mem_allZones z) s

section

variable {r : Zone} {is keep : Owner → Bool} {o : Owner}

/-- R111: with nothing in its stack, a zone whose owner is released is IDLE. -/
theorem Zone.without_of_alone (owner : r.owner = some o) (released : is o = true) (alone : r.stack = []) :
    r.without is keep = { r with owner := none, bellStarted := false } := by
  simp [Zone.without, owner, released, alone, popStack]

/-- R111: an entry on top of the stack that is kept is current again. -/
theorem Zone.without_of_kept {p : Owner} {rest : List Owner} (owner : r.owner = some o) (released : is o = true)
    (stack : r.stack = p :: rest) (stays : is p = false) (kept : keep p = true) :
    r.without is keep =
      { r with owner := some p, stack := rest.filter (fun q => !is q), bellStarted := false } := by
  simp [Zone.without, owner, released, stack, stays, popStack, kept]

end

/-! ## RELEASE -/

/-- R143: the view that is HELD by a floor. -/
theorem held_of_viewIs {n : Station} {number : Byte} {s : State} (view : s.viewIs n number = true) :
    ∃ v, s.fu.view = some v ∧ v.holder = n ∧ v.number = number := by
  unfold State.viewIs at view
  split at view
  · rename_i v held
    simp only [Bool.and_eq_true, beq_iff_eq] at view
    exact ⟨v, held, view⟩
  · cases view

section

variable (n : Station) (number : Byte) (s : State)

/-- R150: the sender's claim leaves the list and its floor the view. -/
theorem hearRelease_fu : (hearRelease n number s).fu = { s.fu with
    claims := s.fu.claims.filter fun e => decide (¬(e.claimant = n ∧ e.number = number))
    view := if s.viewIs n number then none else s.fu.view } := by
  have left : (fun e : ClaimEntry => !(e.claimant == n && e.number == number)) =
      fun e => decide (¬(e.claimant = n ∧ e.number = number)) := by
    funext e
    simp only [beq_eq_decide, Bool.decide_and, decide_not]
  unfold hearRelease floorLeaves
  rw [left]
  generalize s.fu.claims.filter (fun e => decide (¬(e.claimant = n ∧ e.number = number))) = claims
  rw [show (s.setClaims claims).viewIs n number = s.viewIs n number from rfl]
  cases view : s.viewIs n number with
  | false => rfl
  | true =>
    obtain ⟨v, held, -, -⟩ := held_of_viewIs view
    exact (floorLeavesView_spec (s := s.setClaims claims) held).1

variable {n number s}

/-- R143, R150: the RELEASE of the floor in the view takes it from every zone. -/
theorem hearRelease_zone (view : s.viewIs n number = true) :
    (hearRelease n number s).nowhere (Owner.isFloor n number) ∧
    ∀ z : ZoneId, ∃ keep : Owner → Bool,
      (∀ r, s.dru.record = some r → r.phase.running = true → keep (.drill r.initiator r.number) = true) ∧
      (hearRelease n number s).zone z = (s.zone z).without (Owner.isFloor n number) keep := by
  obtain ⟨v, held, rfl, rfl⟩ := held_of_viewIs view
  have left : hearRelease v.holder v.number s = floorLeavesView (s.setClaims
      (s.fu.claims.filter fun e => !(e.claimant == v.holder && e.number == v.number))) :=
    if_pos view
  rw [left]
  generalize s.fu.claims.filter (fun e => !(e.claimant == v.holder && e.number == v.number)) = claims
  refine ⟨(floorLeavesView_spec (s := s.setClaims claims) held).2,
    fun z => ⟨keepEntry ((s.setClaims claims).setView none) z, fun r record running => ?_, ?_⟩⟩
  · simp [keepEntry, record, running]
  · rw [floorLeavesView, show (s.setClaims claims).fu.view = some v from held]
    exact releaseEverywhere_zone (Owner.isFloor v.holder v.number) ((s.setClaims claims).setView none) z

end

/-- R111, R112: a zone whose floor is released with nothing in its stack is IDLE, or rings its deferred bell. -/
theorem emptied_zone {s : State} {r z : Zone} {o : Owner} {is keep : Owner → Bool} (owner : r.owner = some o)
    (released : is o = true) (alone : r.stack = []) (hold : (s.settled r (r.without is keep)).SameHold z) :
    (r.deferred = none → z.owner = none) ∧
    ∀ b, r.deferred = some b → z.deferred = none ∧
      (s.ringsLate r b = true → z.owner = some (.bell b)) ∧ (s.ringsLate r b = false → z.owner = none) := by
  rw [Zone.without_of_alone owner released alone, State.settled_of_emptied owner rfl] at hold
  have same (b : Bell) : s.ringsLate { r with owner := none, bellStarted := false } b = s.ringsLate r b := rfl
  generalize idle : ({ r with owner := none, bellStarted := false } : Zone) = u at hold same
  have deferred : u.deferred = r.deferred := by rw [← idle]
  have owner : u.owner = none := by rw [← idle]
  refine ⟨fun none => ?_, fun b some => ?_⟩
  · rw [State.idled_of_undeferred (deferred.trans none)] at hold
    exact hold.owner.trans owner
  · cases rings : s.ringsLate r b with
    | true =>
      rw [State.idled_of_rings (deferred.trans some) ((same b).trans rings)] at hold
      exact ⟨hold.deferred, fun _ => hold.owner, nofun⟩
    | false =>
      rw [State.idled_of_missed (deferred.trans some) ((same b).trans rings)] at hold
      exact ⟨hold.deferred, nofun, fun _ => hold.owner.trans owner⟩

/-- R111: over a running drill on top of the stack of a zone whose floor is released, the drill is current again. -/
theorem returned_zone {s : State} {r z : Zone} {o p : Owner} {rest : List Owner} {is keep : Owner → Bool}
    (owner : r.owner = some o) (released : is o = true) (stack : r.stack = p :: rest) (stays : is p = false)
    (kept : keep p = true) (hold : (s.settled r (r.without is keep)).SameHold z) :
    z.owner = some p ∧ z.stack = rest.filter fun q => !is q := by
  rw [Zone.without_of_kept owner released stack stays kept, State.settled_of_owned rfl] at hold
  exact ⟨hold.owner, hold.stack⟩

/-- Settles O39, zone by zone: what the release leaves there, and then the end of the change (R111 to R113). -/
theorem releaseEndsClaimAndFloor : Obligations.ReleaseEndsClaimAndFloor := by
  unfold Obligations.ReleaseEndsClaimAndFloor
  intro sender number reason n s hears taking
  have step : exec (.release sender number reason) s =
      .next (asOneChange (fun _ => hearRelease n number (s.heardFrom n)) s) :=
    (heard_eq_next hears _).trans (by rw [ifTaking_of_taking taking])
  have within := (s.heardFrom_frame n).andThen (hearRelease_frame n number (s.heardFrom n))
  have frame := asOneChange_frame (fun _ => hearRelease n number (s.heardFrom n)) s
  refine ⟨_, step, (frame.part .fu).trans (hearRelease_fu n number (s.heardFrom n)), fun view => ?_,
    fun view z c owner => ?_, (within.andThen frame).within⟩
  · exact (hearRelease_zone (s := s.heardFrom n) view).1.asOneChange fun _ => rfl
  · obtain ⟨keep, running, zone⟩ := (hearRelease_zone (s := s.heardFrom n) view).2 z
    have hold := asOneChange_hold (fun _ => hearRelease n number (s.heardFrom n)) s z
    have limit : (hearRelease n number (s.heardFrom n)).bs.lateLimit = s.bs.lateLimit := by
      rw [show (hearRelease n number (s.heardFrom n)).bs = s.bs from within.part .bs]
    rw [zone, State.settled_congr (s := s) (within.part .tb) limit fun l => by
      rw [State.line_of_dsq (within.part .dsq)]] at hold
    have released : Owner.isFloor n number (.floor n number c) = true := by simp [Owner.isFloor]
    refine ⟨fun alone => ?_, fun r rest record runs stack => ?_⟩
    · obtain ⟨idle, deferred⟩ := emptied_zone owner released alone hold
      refine ⟨idle, fun b is => ?_⟩
      obtain ⟨examined, rings, missed⟩ := deferred b is
      refine ⟨examined, fun l x bellLine good school => ?_, fun unable => missed (State.ringsLate_of_unable unable b)⟩
      rw [State.ringsLate_of_good bellLine good] at rings missed
      refine ⟨fun early => rings ((State.inTime_iff school _).mpr early), fun late => missed ?_⟩
      exact Bool.eq_false_iff.mpr fun inTime => absurd ((State.inTime_iff school _).mp inTime) (by omega)
    · exact returned_zone owner released stack rfl (running r record runs) hold

end Sys2Proof.Machine
end

section
/-! PROOF. A change that empties no zone (R112, R113), and a bell requested of the zones of a mask (R104, R105, R136). -/

namespace Sys2Proof.Machine

-- one declaration at a time, as in the tests: the threads of a whole text's proofs do not fit the memory limit
set_option Elab.async false

/-! ## The end of a change that empties no zone -/

section

variable {s : State} {old r : Zone} {z : ZoneId}

/-- R112: a zone that is not newly IDLE keeps its deferred bell. -/
theorem State.settled_of_unemptied (unemptied : r.owner = none → old.owner = none) : s.settled old r = r := by
  cases owner : r.owner with
  | none => simp [State.settled, unemptied owner]
  | some o => exact State.settled_of_owned owner

theorem settleZone_bs_of_unemptied (unemptied : (s.zone z).owner = none → old.owner = none) :
    (settleZone old z s).bs = s.bs := by
  have unexamined : ¬((s.zone z).owner.isNone && old.owner.isSome) = true := by
    cases owner : (s.zone z).owner with
    | none => simp [unemptied owner]
    | some o => simp
  unfold settleZone
  rw [if_neg unexamined]
  dsimp only
  split
  · rfl
  · exact ((stopEffects_frame old.owner z s).andThen (startEffects_frame z _)).part .bs

end

/-- R136: a change that empties no zone misses no bell at its end. -/
theorem asOneChange_bs_of_unemptied {f : State → State} {s : State}
    (unemptied : ∀ z : ZoneId, ((f s).zone z).owner = none → (s.zone z).owner = none) :
    (asOneChange f s).bs = (f s).bs := by
  have each {zones : List ZoneId} (nodup : zones.Nodup) {u : State}
      (unemptied : ∀ z ∈ zones, (u.zone z).owner = none → (s.zone z).owner = none) :
      (forEach zones (fun z t => settleZone s.za.zones[z] z t) u).bs = u.bs := by
    induction zones generalizing u with
    | nil => rfl
    | cons y rest ih =>
      obtain ⟨fresh, nodup⟩ := List.nodup_cons.mp nodup
      rw [forEach_cons, ih nodup, settleZone_bs_of_unemptied (old := s.za.zones[y]) (unemptied y (by simp))]
      intro z mem
      rw [settleZone_other _ fun same : z = y => fresh (same ▸ mem)]
      exact unemptied z (List.mem_cons_of_mem _ mem)
  have settled := each nodup_allZones (fun z _ => unemptied z)
  unfold asOneChange settleZones
  generalize forEach allZones (fun z t => settleZone s.za.zones[z] z t) (f s) = u at *
  exact (((arbitrate_frame (syncTrunk u)).andThen (selectNext_frame _)).part .bs).trans settled

/-! ## A bell requested of a zone -/

/-- R104: the zone takes bell requests: the station runs, and its bell line is good. -/
def State.ringsAt (s : State) (z : ZoneId) : Bool :=
  s.running && (s.zone z).bellLine.any fun l => !(s.line l).cls.faulted

/-- R104, R105: the zone refuses a bell request. -/
def State.refuses (s : State) (z : ZoneId) : Bool := !s.ringsAt z || (s.zone z).level == .yield

/-- R105: a zone that a bell request has come to. -/
def Zone.asked (r : Zone) (b : Bell) : Zone :=
  match r.level with
  | .idle => { r with owner := some (.bell b), bellStarted := false }
  | .bell | .yield => r
  | .pageGeneral | .drill | .pageUrgent => { r with deferred := some b }

/-- R104, R105: a bell request is refused and the bell missed, or rewrites its zone. -/
theorem bellRequest_eq (b : Bell) (z : ZoneId) (s : State) :
    bellRequest b z s = if s.refuses z then bellMissed b s else s.setZone z ((s.zone z).asked b) := by
  unfold bellRequest State.refuses State.ringsAt Zone.asked
  dsimp only
  cases s.running with
  | false => rfl
  | true =>
    cases (s.zone z).bellLine with
    | none => rfl
    | some l =>
      cases faulted : (s.line l).cls.faulted with
      | true => simp [faulted]
      | false => cases (s.zone z).level <;> simp [faulted, State.setZone_self]

section

variable {r : Zone} {b : Bell}

theorem Zone.asked_of_idle (idle : r.owner = none) :
    r.asked b = { r with owner := some (.bell b), bellStarted := false } := by
  simp [Zone.asked, Zone.level, idle]

theorem Zone.asked_of_bell {c : Bell} (bell : r.owner = some (.bell c)) : r.asked b = r := by
  simp [Zone.asked, Zone.level, bell, Owner.level]

theorem Zone.asked_of_above (above : r.level.isPage = true ∨ r.level = .drill) :
    r.asked b = { r with deferred := some b } := by
  unfold Zone.asked
  cases level : r.level <;> simp_all [Level.isPage]

theorem Zone.owned_of_asked (idle : (r.asked b).owner = none) : r.owner = none := by
  unfold Zone.asked at idle
  split at idle
  · cases idle
  all_goals exact idle

end

/-- R105: what a bell request leaves of the zone. -/
def State.requested (s : State) (b : Bell) (z : ZoneId) : Zone :=
  if s.refuses z then s.zone z else (s.zone z).asked b

section

variable {y z : ZoneId} {s : State}

theorem bellRequest_same (b : Bell) (z : ZoneId) (s : State) : (bellRequest b z s).zone z = s.requested b z := by
  rw [bellRequest_eq, State.requested]
  split
  · exact bellMissed_zone b s z
  · exact State.setZone_zone_same _ _ _

theorem bellRequest_other (other : y ≠ z) (b : Bell) (s : State) : (bellRequest b z s).zone y = s.zone y := by
  rw [bellRequest_eq]
  split
  · exact bellMissed_zone b s y
  · exact State.setZone_zone_ne _ _ _ _ other

/-- R104: a bell request at another zone leaves what decides whether this one refuses. -/
theorem bellRequest_refuses (other : y ≠ z) (b : Bell) (s : State) :
    (bellRequest b z s).refuses y = s.refuses y := by
  have frame := bellRequest_frame b z s
  have running := State.running_of_sp_ds (frame.part .sp) (frame.part .ds)
  have line (l : LineId) := State.line_of_dsq (frame.part .dsq) l
  simp only [State.refuses, State.ringsAt, bellRequest_other other, running, line]

theorem bellRequest_owned (b : Bell) (z y : ZoneId) (s : State) (idle : ((bellRequest b z s).zone y).owner = none) :
    (s.zone y).owner = none := by
  by_cases here : y = z
  · subst here
    rw [bellRequest_same, State.requested] at idle
    split at idle
    · exact idle
    · exact Zone.owned_of_asked idle
  · rwa [bellRequest_other here] at idle

/-- R136: a refused bell of the plan day is counted. -/
theorem bellRequest_missed {b : Bell} (planDay : s.bs.planDay = some b.day) (z : ZoneId) :
    (bellRequest b z s).bs.missed = if s.refuses z then countUp s.bs.missed 1 else s.bs.missed := by
  rw [bellRequest_eq, bellMissed, if_pos planDay]
  split
  · rfl
  · rfl

end

/-! ## A bell requested of zones -/

section

variable {zones : List ZoneId} {s : State}

theorem forEach_bellRequest_owned (b : Bell) (zones : List ZoneId) (y : ZoneId) (s : State)
    (idle : ((forEach zones (bellRequest b) s).zone y).owner = none) : (s.zone y).owner = none := by
  induction zones generalizing s with
  | nil => exact idle
  | cons z rest ih => exact bellRequest_owned b z y s (ih _ idle)

/-- R105: a bell is requested of each zone as it stood. -/
theorem forEach_bellRequest_zone (b : Bell) (nodup : zones.Nodup) {z : ZoneId} (mem : z ∈ zones) (s : State) :
    (forEach zones (bellRequest b) s).zone z = s.requested b z := by
  induction zones generalizing s with
  | nil => cases mem
  | cons y rest ih =>
    obtain ⟨fresh, nodup⟩ := List.nodup_cons.mp nodup
    rw [forEach_cons]
    by_cases here : z = y
    · subst here
      rw [forEach_zone_other (fun _ _ t other => bellRequest_other other b t) fresh, bellRequest_same]
    · rw [ih nodup ((List.mem_cons.mp mem).resolve_left here), State.requested, State.requested,
        bellRequest_refuses here, bellRequest_other here]

/-- R136: a bell of the plan day is missed once for each zone that refuses it. -/
theorem forEach_bellRequest_missed {b : Bell} (nodup : zones.Nodup) (planDay : s.bs.planDay = some b.day)
    (bound : s.bs.missed ≤ 65535) :
    (forEach zones (bellRequest b) s).bs.missed = min 65535 (s.bs.missed + (zones.filter s.refuses).length) := by
  induction zones generalizing s with
  | nil => exact (Nat.min_eq_right bound).symm
  | cons z rest ih =>
    obtain ⟨fresh, nodup⟩ := List.nodup_cons.mp nodup
    obtain ⟨missed, bs⟩ := bellRequest_onlyMisses b z s
    have count := bellRequest_missed planDay z
    have kept : rest.filter (bellRequest b z s).refuses = rest.filter s.refuses :=
      List.filter_congr fun y mem => bellRequest_refuses (fun same : y = z => fresh (same ▸ mem)) b s
    have day : (bellRequest b z s).bs.planDay = some b.day := by
      rw [bs]
      exact planDay
    cases refuses : s.refuses z with
    | true =>
      rw [refuses, if_pos rfl, countUp] at count
      rw [forEach_cons, ih nodup day (by omega), kept, List.filter_cons_of_pos refuses, List.length_cons]
      omega
    | false =>
      rw [refuses, if_neg Bool.false_ne_true] at count
      rw [forEach_cons, ih nodup day (by omega), kept, count, List.filter_cons_of_neg (by simp [refuses])]

end

end Sys2Proof.Machine
end

section
/-! PROOF. ENTRY_DUE (R104, R105, R130, R131, R136): the next entry TAKEN or PASSED, and its bell at the zones. -/

namespace Sys2Proof.Machine

-- one declaration at a time, as in the tests: the threads of a whole text's proofs do not fit the memory limit
set_option Elab.async false

/-! ## The examination of the next entry -/

/-- R130: the next entry is not cancelled. -/
theorem next_not_cancelled {b : BellScheduler} {day i : Nat} {due : Int} (planDay : b.planDay = some day)
    (next : b.next = some (i, due)) : b.cancelled i = false := by
  rw [next_eq planDay] at next
  rcases foldl_earlier_spec b day next with h | ⟨mem, -⟩
  · cases h
  · simp only [BellScheduler.candidates, List.mem_filter, Bool.and_eq_true, Bool.not_eq_true'] at mem
    exact mem.2.2

/-- R131: the mark of an entry that has been examined. -/
theorem examineEntry_markAt_same {day i : Nat} {due : Int} {s : State} (inside : i < s.bs.marks.length) :
    (examineEntry day i due s).bs.markAt i = if s.inTime due then .taken else .passed := by
  rcases examineEntry_bs day i due s with ⟨inTime, taken, missed, -, -, eq⟩ | ⟨late, missed, eq⟩
  · rw [eq, if_pos inTime]
    simp [BellScheduler.markAt, List.getD_eq_getElem?_getD, inside]
  · rw [eq, late, if_neg Bool.false_ne_true]
    simp [BellScheduler.markAt, List.getD_eq_getElem?_getD, inside]

theorem examineEntry_taken (day i : Nat) (due : Int) (s : State) :
    (∀ j ∈ s.bs.taken, j ∈ (examineEntry day i due s).bs.taken) ∧
      (s.inTime due = true → s.bs.window.base + i ∈ (examineEntry day i due s).bs.taken) := by
  rcases examineEntry_bs day i due s with ⟨-, taken, missed, mem, stays, eq⟩ | ⟨late, missed, eq⟩
  · rw [eq]
    exact ⟨stays, fun _ => mem⟩
  · rw [eq, late]
    exact ⟨fun _ => id, nofun⟩

/-- R131: the examination of an entry empties no zone. -/
theorem examineEntry_owned (day i : Nat) (due : Int) (s : State) (z : ZoneId)
    (idle : ((examineEntry day i due s).zone z).owner = none) : (s.zone z).owner = none := by
  unfold examineEntry at idle
  dsimp only at idle
  split at idle
  · have before := forEach_bellRequest_owned _ _ z _ idle
    exact before
  · exact idle

section

variable {s : State} {day i x : Nat} {due : Int} (examines : s.examines = true) (planDay : s.bs.planDay = some day)
  (next : s.bs.next = some (i, due)) (school : s.school = some x) (reached : due ≤ (x : Int))

include examines planDay next school reached

/-- R131: where the next entry is due it is examined first. -/
theorem examineDue_first : ∃ n, examineDue s = examineDueUpTo n (examineEntry day i due s) := by
  obtain ⟨inside, -, -⟩ := next_spec planDay next
  obtain ⟨n, length⟩ := Nat.exists_eq_succ_of_ne_zero (Nat.ne_of_gt (Nat.lt_of_le_of_lt (Nat.zero_le i) inside))
  refine ⟨n, ?_⟩
  rw [examineDue, if_pos examines, length, examineDueUpTo]
  simp only [planDay, next, school, if_pos reached]

/-- R131, R137: the mark of the next entry when due, the taken set, and the marks of entries that are not OPEN. -/
theorem examineDue_marks :
    (examineDue s).bs.markAt i = (if s.inTime due then .taken else .passed) ∧
    (∀ j ∈ s.bs.taken, j ∈ (examineDue s).bs.taken) ∧
    (s.inTime due = true → s.bs.window.base + i ∈ (examineDue s).bs.taken) ∧
    ∀ j, s.bs.markAt j ≠ .opened → (examineDue s).bs.markAt j = s.bs.markAt j := by
  obtain ⟨inside, opened, -⟩ := next_spec planDay next
  obtain ⟨n, first⟩ := examineDue_first examines planDay next school reached
  have mark := examineEntry_markAt_same (day := day) (due := due) inside
  have closed : (examineEntry day i due s).bs.markAt i ≠ .opened := by
    rw [mark]
    split
    · nofun
    · nofun
  obtain ⟨stays, joins⟩ := examineEntry_taken day i due s
  obtain ⟨markKept, takenKept⟩ := examineDueUpTo_examinedEntry n closed
  rw [first]
  refine ⟨markKept.trans mark, fun j mem => takenKept j (stays j mem), fun inTime => takenKept _ (joins inTime),
    fun j shut => ?_⟩
  have other : j ≠ i := fun same => shut (same ▸ opened)
  have markOther := examineEntry_markAt (day := day) other due s
  exact (examineDueUpTo_examinedEntry n (i := j) (by rwa [markOther])).1.trans markOther

/-- R131: with no other entry due, one entry is examined. -/
theorem examineDue_alone (alone : ∀ j, j ≠ i → s.bs.markAt j = .opened → s.bs.cancelled j = false →
    (x : Int) < s.bs.effectiveFull day j) : examineDue s = examineEntry day i due s := by
  obtain ⟨inside, -, -⟩ := next_spec planDay next
  obtain ⟨n, first⟩ := examineDue_first examines planDay next school reached
  have examined := examineEntry_examined day i due s
  have cancelled (j : Nat) : (examineEntry day i due s).bs.cancelled j = s.bs.cancelled j := by
    obtain ⟨_, _, _, -, eq⟩ := examined
    rw [eq]
    rfl
  have tb : (examineEntry day i due s).tb = s.tb := (examineEntry_frame day i due s).part .tb
  rw [first]
  cases n with
  | zero => rfl
  | succ n =>
    unfold examineDueUpTo
    split
    · rename_i day' j due' t planDay' next' school'
      rw [State.school, tb] at school'
      obtain rfl : x = t := Option.some.inj (school.symm.trans school')
      obtain rfl : day = day' := Option.some.inj (planDay.symm.trans (examined.planDay ▸ planDay'))
      obtain ⟨-, opened, own⟩ := next_spec planDay' next'
      have other : j ≠ i := by
        rintro rfl
        rw [examineEntry_markAt_same inside] at opened
        split at opened <;> cases opened
      have later := alone j other (examineEntry_markAt other due s ▸ opened)
        (cancelled j ▸ next_not_cancelled planDay' next')
      rw [own, examined.effectiveFull]
      exact if_neg (by omega)
    · rfl

end

/-! ## ENTRY_DUE -/

/-- R104, R105, R136: the bell of an entry in time, requested of each of its zones. -/
theorem examineEntry_of_inTime {day i : Nat} {due : Int} {s : State} (inTime : s.inTime due = true)
    (planDay : s.bs.planDay = some day) (bound : s.bs.missed ≤ 65535) :
    let e := s.bs.entryAt (s.bs.window.base + i)
    (∀ z : ZoneId, inZones e.zones z = true → (examineEntry day i due s).zone z =
      s.requested { day, index := i, effective := due, pattern := e.pattern } z) ∧
    (examineEntry day i due s).bs.missed = min 65535 (s.bs.missed + ((zonesOf e.zones).filter s.refuses).length) := by
  intro e
  obtain ⟨taken, eq, -, -⟩ := take_eq (s.bs.setMark i .taken) (s.bs.window.base + i)
  have examined : examineEntry day i due s = forEach (zonesOf e.zones)
      (bellRequest { day, index := i, effective := due, pattern := e.pattern })
      (s.setBs { s.bs.setMark i .taken with taken }) := (if_pos inTime).trans (by rw [eq])
  rw [examined]
  exact ⟨fun z mem => forEach_bellRequest_zone _ (nodup_zonesOf _) ((mem_zonesOf _ z).mpr mem) _,
    forEach_bellRequest_missed (nodup_zonesOf _) planDay bound⟩

/-- R131, R136: a late entry is missed once for each of its zones. -/
theorem examineEntry_of_late {day i : Nat} {due : Int} {s : State} (late : s.inTime due = false) :
    (examineEntry day i due s).bs.missed =
      min 65535 (s.bs.missed + zoneCount (s.bs.entryAt (s.bs.window.base + i)).zones) := by
  unfold examineEntry
  dsimp only
  rw [if_neg (by simp [late])]
  rfl

/-- R105: the owner, the stack and the deferred bell of a zone that a bell request has come to and that rings. -/
theorem requested_hold {s : State} {b : Bell} {z : ZoneId} {r : Zone} (rings : s.ringsAt z = true)
    (hold : (s.requested b z).SameHold r) :
    ((s.zone z).owner = none → r.owner = some (.bell b)) ∧
    ((∃ c, (s.zone z).owner = some (.bell c)) →
      r.owner = (s.zone z).owner ∧ r.deferred = (s.zone z).deferred) ∧
    ((s.zone z).level.isPage = true ∨ (s.zone z).level = .drill →
      r.owner = (s.zone z).owner ∧ r.stack = (s.zone z).stack ∧ r.deferred = some b) := by
  have takes (level : (s.zone z).level ≠ .yield) : s.requested b z = (s.zone z).asked b := by
    rw [State.requested, if_neg (by simp [State.refuses, rings, level])]
  refine ⟨fun idle => ?_, fun ⟨c, bell⟩ => ?_, fun above => ?_⟩
  · rw [takes (by simp [Zone.level, idle]), Zone.asked_of_idle idle] at hold
    exact hold.owner
  · rw [takes (by simp [Zone.level, bell, Owner.level]), Zone.asked_of_bell bell] at hold
    exact ⟨hold.owner, hold.deferred⟩
  · have takesAbove := takes fun level => by
      rw [level] at above
      rcases above with page | drill
      · cases page
      · cases drill
    rw [takesAbove, Zone.asked_of_above above] at hold
    exact ⟨hold.owner, hold.stack, hold.deferred⟩

/-- Settles O59: the next entry is examined first and keeps its mark; with no other due it is the only one, and as a
bell request empties no zone, the end of the step leaves the count and every owner, stack and deferred bell. -/
theorem dueEntryIsTakenOrPassed : Obligations.DueEntryIsTakenOrPassed := by
  unfold Obligations.DueEntryIsTakenOrPassed
  intro day i x due s up examines planDay next school reached
  have step : exec .entryDue s = .next (asOneChange examineDue s) := congrArg Host.Outcome.next (change_of_up up)
  have early := State.inTime_iff school due
  have late (beyond : (s.bs.lateLimit : Int) * 1000 < (x : Int) - due) : s.inTime due = false :=
    Bool.eq_false_iff.mpr fun inTime => absurd (early.mp inTime) (by omega)
  obtain ⟨mark, stays, joins, shut⟩ := examineDue_marks examines planDay next school reached
  obtain ⟨missed, ended⟩ := asOneChange_onlyMisses examineDue s
  obtain ⟨marks, taken, count, -, examined⟩ := examineDue_examined s
  have bs := ended.trans (by rw [examined])
  have marked := markAt_of_missing ended
  have takenEnd : (asOneChange examineDue s).bs.taken = (examineDue s).bs.taken := by rw [ended]
  refine ⟨_, step, fun within => ?_, fun beyond => ?_, by rw [bs], by rw [bs], by rw [bs], by rw [bs],
    fun j mem => by rw [takenEnd]; exact stays j mem, fun j closed => (marked j).trans (shut j closed), fun alone bound => ?_,
    ((examineDue_frame s).andThen (asOneChange_frame examineDue s)).within⟩
  · have inTime := early.mpr within
    exact ⟨(marked i).trans (mark.trans (if_pos inTime)), by rw [takenEnd]; exact joins inTime⟩
  · exact (marked i).trans (mark.trans (by rw [late beyond]; rfl))
  · have one := examineDue_alone examines planDay next school reached alone
    have unemptied (z : ZoneId) (idle : ((examineDue s).zone z).owner = none) : (s.zone z).owner = none := by
      rw [one] at idle
      exact examineEntry_owned day i due s z idle
    have settled := asOneChange_bs_of_unemptied unemptied
    refine ⟨fun beyond => ?_, fun within => ?_⟩
    · rw [settled, one]
      exact examineEntry_of_late (late beyond)
    · obtain ⟨zones, count⟩ := examineEntry_of_inTime (early.mpr within) planDay bound (i := i)
      refine ⟨fun z named rings => ?_, by rw [settled, one]; exact count⟩
      have hold := asOneChange_hold examineDue s z
      rw [State.settled_of_unemptied (unemptied z), one, zones z named] at hold
      exact requested_hold rings hold

end Sys2Proof.Machine
end

section
/-! PROOF. DAYPLAN, REMOVE_OVERRIDE, SHIFT, CANCEL and CLEAR_ALL (R125 to R129): the override list, the plan of the
day and the shift list. -/

namespace Sys2Proof.Machine

-- one declaration at a time, as in the tests: the threads of a whole text's proofs do not fit the memory limit
set_option Elab.async false

/-! ## The override list -/

section

variable {day : Nat} {list : List (Nat × PlanCode)}

/-- R125: whether the list holds an override for a day. -/
theorem any_day_eq_true (known : ∃ o ∈ list, o.1 = day) : (list.any fun o => o.1 == day) = true := by
  simpa using known

theorem any_day_eq_false (absent : ∀ o ∈ list, o.1 ≠ day) : (list.any fun o => o.1 == day) = false := by
  simpa using absent

/-- R125 row 5. -/
theorem overridesAfter_of_known (c : PlanCode) (known : ∃ o ∈ list, o.1 = day) :
    overridesAfter day (some c) list = some (list.map fun o => if o.1 = day then (day, c) else o) := by
  simp [overridesAfter, any_day_eq_true known]

/-- R125 row 6. -/
theorem overridesAfter_of_room (c : PlanCode) (absent : ∀ o ∈ list, o.1 ≠ day) (room : list.length < 16) :
    overridesAfter day (some c) list = some (insertOverride day c list) := by
  simp [overridesAfter, any_day_eq_false absent, Config.overrideLimit, room]

/-- R125 row 7: at a full list the latest day is refused. -/
theorem overridesAfter_of_latest (c : PlanCode) (latest : ∀ o ∈ list, o.1 < day) (full : 16 ≤ list.length) :
    overridesAfter day (some c) list = none := by
  have absent := any_day_eq_false fun o mem => (latest o mem).ne
  have all : (list.all fun o => decide (o.1 < day)) = true := by simpa using latest
  simp only [overridesAfter, absent, all, Config.overrideLimit, Nat.not_lt.mpr full, if_false, if_true,
    Bool.false_eq_true]

/-- R125 row 8: at a full list the entry with the latest day gives way. -/
theorem overridesAfter_of_full (c : PlanCode) (absent : ∀ o ∈ list, o.1 ≠ day) (later : ∃ o ∈ list, day < o.1)
    (full : 16 ≤ list.length) :
    overridesAfter day (some c) list = some (insertOverride day c list.dropLast) := by
  obtain ⟨o, mem, after⟩ := later
  have all : (list.all fun o => decide (o.1 < day)) = false :=
    List.all_eq_false.mpr ⟨o, mem, by simpa using after.le⟩
  simp only [overridesAfter, any_day_eq_false absent, all, Config.overrideLimit, Nat.not_lt.mpr full, if_false,
    Bool.false_eq_true]

/-- R125 row 3. -/
theorem overridesAfter_remove (known : ∃ o ∈ list, o.1 = day) :
    overridesAfter day none list = some (list.filter fun o => o.1 != day) := by
  simp [overridesAfter, any_day_eq_true known]

/-- R125 row 4. -/
theorem overridesAfter_remove_absent (absent : ∀ o ∈ list, o.1 ≠ day) : overridesAfter day none list = none := by
  simp [overridesAfter, any_day_eq_false absent]

end

/-! ## A DAYPLAN taken -/

section

variable {day : Nat} {code : Option PlanCode} {list : List (Nat × PlanCode)} {s : State}

/-- R125 row 2. -/
theorem takeDayplan_of_early {p : Nat} (planDay : s.bs.planDay = some p) (early : day < p) :
    takeDayplan day code s = s := by
  simp [takeDayplan, planDay, early]

/-- R125: a DAYPLAN that the override list does not take. -/
theorem takeDayplan_of_none (refused : overridesAfter day code s.bs.overrides = none) :
    takeDayplan day code s = s := by
  simp [takeDayplan, refused]

/-- R125: a DAYPLAN for a day ahead changes the override list alone. -/
theorem takeDayplan_of_ahead (ahead : ∀ p, s.bs.planDay = some p → p < day)
    (change : overridesAfter day code s.bs.overrides = some list) :
    takeDayplan day code s = s.setBs { s.bs with overrides := list } := by
  have today : s.bs.planDay ≠ some day := fun planDay => (ahead day planDay).false
  have early : (s.bs.planDay.any fun d => decide (day < d)) = false := by
    cases planDay : s.bs.planDay with
    | none => rfl
    | some p => simpa using (ahead p planDay).le
  simp [takeDayplan, early, change, today]

/-- R125, R126: a DAYPLAN for the plan day selects its plan again. -/
theorem takeDayplan_of_today (today : s.bs.planDay = some day)
    (change : overridesAfter day code s.bs.overrides = some list) :
    takeDayplan day code s = s.setBs ({ s.bs with overrides := list }.reselect day s.school) := by
  simp [takeDayplan, today, change]

end

section

variable {sender : Byte} {day : Half} {n : Station} {s t : State} (hears : s.hears sender n) (loaded : s.loaded = true)
include hears loaded

/-- R40, R125: a DAYPLAN heard with a code of the first row's list. -/
theorem execDayplan_of_loaded {code : Byte} {c : PlanCode} (named : planOfCode code.toNat = some c)
    (effect : takeDayplan day.toNat (some c) (s.heardFrom n) = t) :
    exec (.dayplan sender day code) s = .next (endOfStep t) := by
  refine heard_eq_endOfStep hears ((if_pos loaded).trans ?_)
    (effect ▸ (takeDayplan_frame _ _ (s.heardFrom n)).part .za)
  rw [named]
  exact effect

/-- R40, R125: a REMOVE_OVERRIDE heard. -/
theorem execRemoveOverride_of_loaded (effect : takeDayplan day.toNat none (s.heardFrom n) = t) :
    exec (.removeOverride sender day) s = .next (endOfStep t) :=
  heard_eq_endOfStep hears ((if_pos loaded).trans effect) (effect ▸ (takeDayplan_frame _ _ (s.heardFrom n)).part .za)

end

/-! ## The plan of the day -/

/-- R125, R126: what a new selection of the active plan can write. -/
theorem reselect_eq (b : BellScheduler) (day : Nat) (school : Option Nat) :
    ∃ shifts marks, b.reselect day school =
      { b with activePlan := some (b.planFor day).1, source := (b.planFor day).2, shifts, marks } := by
  unfold BellScheduler.reselect
  dsimp only
  split
  case isTrue same => exact ⟨b.shifts, b.marks, by rw [← same]⟩
  case isFalse => exact ⟨_, _, rfl⟩

/-- R124: a day whose override is gone has the plan of the weekday map. -/
theorem planFor_of_removed (b : BellScheduler) (day : Nat) :
    ({ b with overrides := b.overrides.filter fun o => o.1 != day } : BellScheduler).planFor day =
      (b.weekday[(⟨day % 7, Nat.mod_lt _ (by decide)⟩ : Fin 7)], .weekdayMap) := by
  rw [planFor_eq, List.find?_eq_none.mpr (by simp)]

section

variable {day : Nat} {list : List (Nat × PlanCode)}

/-- R125 row 5: the entry replaced is the one found for its day. -/
theorem find?_replaced (c : PlanCode) (known : ∃ o ∈ list, o.1 = day) :
    (list.map fun o => if o.1 = day then (day, c) else o).find? (fun o => o.1 == day) = some (day, c) := by
  have replaced : ((fun o : Nat × PlanCode => o.1 == day) ∘ fun o => if o.1 = day then (day, c) else o) =
      fun o => o.1 == day := by
    funext o
    by_cases same : o.1 = day <;> simp [same]
  rw [List.find?_map, replaced]
  cases found : list.find? (fun o => o.1 == day) with
  | none =>
    obtain ⟨o, mem, same⟩ := known
    exact absurd (beq_iff_eq.mpr same) (List.find?_eq_none.mp found o mem)
  | some o =>
    have same : o.1 = day := by simpa using List.find?_some found
    simp [same]

/-- R125 row 6: the entry placed is the one found for its day. -/
theorem find?_placed (c : PlanCode) (absent : ∀ o ∈ list, o.1 ≠ day) :
    (insertOverride day c list).find? (fun o => o.1 == day) = some (day, c) := by
  have before : (list.takeWhile fun o => decide (o.1 ≤ day)).find? (fun o => o.1 == day) = none :=
    List.find?_eq_none.mpr fun o mem => by simpa using absent o (List.takeWhile_subset _ mem)
  rw [insertOverride_eq, List.find?_append, before]
  simp

/-- R124, R125: a list with room takes a DAYPLAN, and its day then has the plan of the code. -/
theorem overridesAfter_planFor {b : BellScheduler} (c : PlanCode) (room : b.overrides.length < 16) :
    ∃ list, overridesAfter day (some c) b.overrides = some list ∧
      ({ b with overrides := list } : BellScheduler).planFor day = (c, .override) := by
  by_cases known : ∃ o ∈ b.overrides, o.1 = day
  · exact ⟨_, overridesAfter_of_known c known, by rw [planFor_eq, find?_replaced c known]⟩
  · have absent : ∀ o ∈ b.overrides, o.1 ≠ day := fun o mem same => known ⟨o, mem, same⟩
    exact ⟨_, overridesAfter_of_room c absent room, by rw [planFor_eq, find?_placed c absent]⟩

end

/-! ## Marks -/

/-- R130: the mark of an entry after every OPEN one of a kind has been passed. -/
theorem passOpen_markAt (b : BellScheduler) (p : Nat → Bool) (i : Nat) :
    (b.passOpen p).markAt i = if b.markAt i = .opened ∧ p i = true then .passed else b.markAt i := by
  simp only [BellScheduler.passOpen, BellScheduler.markAt, List.getD_eq_getElem?_getD, List.getElem?_mapIdx]
  cases b.marks[i]? <;> simp

/-- R122, R124: at the selection of a plan an entry is OPEN or unusable. -/
theorem freshMarks_getD (b : BellScheduler) (w : PlanWindow) (i : Nat) :
    (b.freshMarks w).getD i .unusable = .unusable ∨ (b.freshMarks w).getD i .unusable = .opened := by
  rw [BellScheduler.freshMarks, List.getD_eq_getElem?_getD, List.getElem?_map]
  rcases (usableFrom b 0 w.indices)[i]? with _ | _ | _ <;> simp

/-- R128: with no shift an entry's effective full time is its time of day on the plan day. -/
theorem effectiveFull_of_noShifts {b : BellScheduler} (unshifted : b.shifts = []) (day i : Nat) :
    b.effectiveFull day i = (day * 86400000 + (b.entryAt (b.window.base + i)).timeOfDay * 1000 : Nat) := by
  simp [BellScheduler.effectiveFull, BellScheduler.effectiveTime, unshifted, Config.dayMs]

/-- R126: the mark of an entry after a change of the plan of the day. -/
theorem changePlan_markAt {b : BellScheduler} {day x : Nat} (planDay : b.planDay = some day) (code : PlanCode)
    (source : PlanSource) (i : Nat) :
    (b.changePlan code source (some x)).markAt i =
      if (b.freshMarks (b.windowOf code)).getD i .unusable = .unusable then .unusable
      else if (b.windowOf code).base + i ∈ b.taken ∨
        day * 86400000 + (b.entryAt ((b.windowOf code).base + i)).timeOfDay * 1000 ≤ x then .passed
      else .opened := by
  unfold BellScheduler.changePlan
  extract_lets b1
  have fresh : b1.markAt i = (b.freshMarks (b.windowOf code)).getD i .unusable := rfl
  have window : b1.window = b.windowOf code := rfl
  have taken : b1.taken = b.taken := rfl
  have entries : b1.entryAt = b.entryAt := rfl
  have due : b1.dueBy (some x) i = decide
      (day * 86400000 + (b.entryAt ((b.windowOf code).base + i)).timeOfDay * 1000 ≤ x) := by
    have full := effectiveFull_of_noShifts (b := b1) rfl day i
    rw [window, entries] at full
    simp only [BellScheduler.dueBy, show b1.planDay = some day from planDay, full, Int.ofNat_le]
  rw [passOpen_markAt, fresh, due, window, taken]
  rcases freshMarks_getD b (b.windowOf code) i with unusable | opened
  · rw [unusable, if_neg (by simp), if_pos rfl]
  · rw [opened, if_neg (by simp : ¬Mark.opened = .unusable)]
    simp

/-- R125, R126: an active plan other than the one selected is changed. -/
theorem reselect_of_other {b : BellScheduler} {day : Nat} {school : Option Nat} {c : PlanCode} {source : PlanSource}
    (plan : b.planFor day = (c, source)) (other : b.activePlan ≠ some c) :
    b.reselect day school = b.changePlan c source school := by
  simp [BellScheduler.reselect, plan, other]

theorem changePlan_length (b : BellScheduler) (c : PlanCode) (source : PlanSource) (school : Option Nat) :
    (b.changePlan c source school).marks.length = (b.windowOf c).count := by
  simp [BellScheduler.changePlan, BellScheduler.passOpen, freshMarks_length]

/-! ## The overrides settled -/

/-- A step that hears a frame and then rewrites the scheduler changes the blocks of the frame and of the end. -/
theorem heardFrom_setBs_frame (s : State) (n : Station) (b : BellScheduler) :
    s.keepsAllBut [.ylc, .pt, .bs, .dsq, .du, .za] (endOfStep ((s.heardFrom n).setBs b)) :=
  (((s.heardFrom_frame n).andThen ((s.heardFrom n).setBs_frame b)).andThen (endOfStep_frame _)).within

theorem endOfStep_setBs_bs (s : State) (b : BellScheduler) : (endOfStep (s.setBs b)).bs = b :=
  (endOfStep_frame (s.setBs b)).part .bs

/-- Settles O34: each row of R125 is a case of `overridesAfter`, and for the plan day the plan is selected again. -/
theorem dayplansSetTheOverrides : Obligations.DayplansSetTheOverrides := by
  intro sender code day n c s hears loaded named list d after placed
  have places (l : List (Nat × PlanCode)) : insertOverride d c l = placed l := insertOverride_eq d c l
  refine ⟨fun ⟨_, planDay, early⟩ => ?_, fun ahead => ⟨fun known => ?_, fun absent room => ?_, fun latest full => ?_,
    fun absent later full => ?_⟩, fun absent => ?_, fun known ahead => ?_, fun known today => ?_⟩
  · exact execDayplan_of_loaded hears loaded named (takeDayplan_of_early planDay early)
  · exact execDayplan_of_loaded hears loaded named (takeDayplan_of_ahead ahead (overridesAfter_of_known c known))
  · exact execDayplan_of_loaded hears loaded named
      (takeDayplan_of_ahead ahead (places list ▸ overridesAfter_of_room c absent room))
  · exact execDayplan_of_loaded hears loaded named (takeDayplan_of_none (overridesAfter_of_latest c latest full))
  · exact execDayplan_of_loaded hears loaded named
      (takeDayplan_of_ahead ahead (places list.dropLast ▸ overridesAfter_of_full c absent later full))
  · exact execRemoveOverride_of_loaded hears loaded (takeDayplan_of_none (overridesAfter_remove_absent absent))
  · exact execRemoveOverride_of_loaded hears loaded (takeDayplan_of_ahead ahead (overridesAfter_remove known))
  · refine ⟨_, execRemoveOverride_of_loaded hears loaded
      (takeDayplan_of_today today (overridesAfter_remove known)), ?_⟩
    obtain ⟨shifts, marks, selected⟩ :=
      reselect_eq { s.bs with overrides := list.filter fun o => o.1 != d } d s.school
    rw [planFor_of_removed] at selected
    have bs := (endOfStep_setBs_bs (s.heardFrom n) _).trans selected
    exact ⟨congrArg (·.overrides) bs, congrArg (·.planDay) bs, congrArg (·.taken) bs, congrArg (·.missed) bs,
      congrArg (·.activePlan) bs, congrArg (·.source) bs, heardFrom_setBs_frame s n _⟩

/-- Settles O35: the list with room takes the code, which the plan day then has, and `changePlan` gives the marks. -/
theorem changeOfThePlanOfTheDay : Obligations.ChangeOfThePlanOfTheDay := by
  intro sender code day n c x s hears loaded named today school other room
  obtain ⟨list, change, plan⟩ := overridesAfter_planFor (day := day.toNat) c room
  have selected : ({ s.bs with overrides := list } : BellScheduler).reselect day.toNat s.school =
      ({ s.bs with overrides := list } : BellScheduler).changePlan c .override (some x) :=
    school ▸ reselect_of_other plan other
  have bs := (endOfStep_setBs_bs (s.heardFrom n) _).trans selected
  refine ⟨_, execDayplan_of_loaded hears loaded named (takeDayplan_of_today today change),
    congrArg (·.activePlan) bs, congrArg (·.source) bs, congrArg (·.shifts) bs, congrArg (·.taken) bs,
    congrArg (·.planDay) bs, congrArg (·.missed) bs, ?_, fun i _ => ?_, heardFrom_setBs_frame s n _⟩
  · exact (congrArg (·.marks.length) bs).trans (changePlan_length _ _ _ _)
  · refine (congrArg (·.markAt i) bs).trans
      ((changePlan_markAt (b := { s.bs with overrides := list }) today c .override i).trans ?_)
    rw [freshMarks_of_entries (b := s.bs) (c := { s.bs with overrides := list }) rfl]
    rfl

/-! ## Shifts -/

/-- R128: the effective time, with the minutes of each record in seconds. -/
theorem effectiveTime_eq {i : Nat} {seconds : ShiftRecord → Int} (minutes : ∀ r, seconds r = 60 * r.minutesAt i)
    (b : BellScheduler) :
    b.effectiveTime i = ((b.entryAt (b.window.base + i)).timeOfDay : Int) + (b.shifts.map seconds).sum := by
  rw [BellScheduler.effectiveTime, funext minutes, List.sum_map_mul_left]

/-- R129: after a change of the shift list, the marks alone follow. -/
theorem afterShift_eq (b : BellScheduler) (school : Option Nat) :
    b.afterShift school =
      { b with
        marks := b.marks.mapIdx fun i m =>
          if m = .opened ∧ (b.dueBy school i || b.outsideDay i) = true then .passed else m } := by
  simp [BellScheduler.afterShift, BellScheduler.passOpen]

section

variable {day first last : Nat} {delta : Int} {s : State} (today : s.bs.planDay = some day)
include today

/-- R127 row 3. -/
theorem takeShift_clearAll :
    takeShift day 3 first last delta s = s.setBs ({ s.bs with shifts := [] }.afterShift s.school) := by
  simp [takeShift, today]

/-- R127 row 6: a SHIFT or a CANCEL joins the list. -/
theorem takeShift_joins {kind : Nat} {r : ShiftRecord} (known : kind = 1 ∨ kind = 2)
    (record : (if kind = 1 then ShiftRecord.shift first last (clampInt (-120) 120 delta) else .cancel first last) = r)
    (inPlan : first < s.bs.window.count) (ordered : first ≤ last) (room : s.bs.shifts.length < 8) :
    takeShift day kind first last delta s =
      s.setBs ({ s.bs with shifts := s.bs.shifts ++ [r] }.afterShift s.school) := by
  have inside : ¬(s.bs.window.count ≤ first ∨ last < first) := by omega
  have notClear : kind ≠ 3 := by omega
  simp only [takeShift, if_neg (not_not.mpr today), if_neg notClear, if_pos known, if_neg inside, record,
    if_neg (show ¬Config.shiftLimit ≤ s.bs.shifts.length from Nat.not_le.mpr room)]

end

/-- R40, R127: a frame of the shift list heard in a state that is loaded. -/
theorem heard_takeShift {sender : Byte} {n : Station} {s t : State} {day kind first last : Nat} {delta : Int}
    (hears : s.hears sender n) (loaded : s.loaded = true)
    (effect : takeShift day kind first last delta (s.heardFrom n) = t) :
    heard sender (fun _ _ => ifLoaded (takeShift day kind first last delta)) s = .next (endOfStep t) :=
  heard_eq_endOfStep hears ((if_pos loaded).trans effect)
    (effect ▸ (takeShift_frame _ _ _ _ _ (s.heardFrom n)).part .za)

/-- Settles O36: the statement's effective times are the model's, so each row ends as `afterShift` leaves it. -/
theorem shiftsChangeTheDay : Obligations.ShiftsChangeTheDay := by
  intro sender first last delta day n s hears loaded today effective passed after
  have times (b : BellScheduler) (i : Nat) : effective b i = b.effectiveTime i := by
    refine (effectiveTime_eq (fun r => ?_) b).symm
    cases r with
    | shift f l d => simp [ShiftRecord.minutesAt, ShiftRecord.holds]
    | cancel f l => rfl
  have passes (shifts : List ShiftRecord) (i : Nat) : passed { s.bs with shifts } i =
      (({ s.bs with shifts } : BellScheduler).dueBy s.school i ||
        ({ s.bs with shifts } : BellScheduler).outsideDay i) := by
    simp only [passed, times, BellScheduler.dueBy, BellScheduler.outsideDay, BellScheduler.effectiveFull, today,
      Bool.or_assoc]
    cases s.school <;> rfl
  have ends (shifts : List ShiftRecord) : after shifts =
      endOfStep ((s.heardFrom n).setBs ({ s.bs with shifts }.afterShift s.school)) := by
    simp only [after, passes, afterShift_eq]
    rfl
  simp only [ends]
  refine ⟨fun inPlan ordered room => ⟨?_, ?_⟩, heard_takeShift hears loaded (takeShift_clearAll today)⟩
  · exact heard_takeShift hears loaded
      (takeShift_joins (s := s.heardFrom n) today (.inl rfl) rfl inPlan ordered room)
  · exact heard_takeShift hears loaded
      (takeShift_joins (s := s.heardFrom n) today (.inr rfl) rfl inPlan ordered room)

end Sys2Proof.Machine
end

section
/-! PROOF. R144, R154: what the operations of the Floor Unit, and the operations that queue frames, leave of the claim list
and of MIC-LIVE. -/

namespace Sys2Proof.Machine

-- one declaration at a time, as in the tests: the threads of a whole text's proofs do not fit the memory limit
set_option Elab.async false

/-! ## The law of the claim list -/

theorem claimsLawful_iff (list : List ClaimEntry) :
    claimsLawful list = true ↔ list.length ≤ 4 ∧ (list.map ClaimEntry.claimant).Nodup := decide_eq_true_iff

/-- R144: claims that leave the list leave it lawful. -/
theorem claimsLawful_of_sublist {old new : List ClaimEntry} (h : claimsLawful old = true) (part : new.Sublist old) :
    claimsLawful new = true := by
  rw [claimsLawful_iff] at *
  exact ⟨part.length_le.trans h.1, h.2.sublist (part.map _)⟩

/-- R144: entries rewritten for their claimants leave the list lawful. -/
theorem claimsLawful_of_map {list : List ClaimEntry} {f : ClaimEntry → ClaimEntry} (h : claimsLawful list = true)
    (same : ∀ e, (f e).claimant = e.claimant) : claimsLawful (list.map f) = true := by
  rw [claimsLawful_iff] at *
  have claimants : ClaimEntry.claimant ∘ f = ClaimEntry.claimant := funext same
  rwa [List.length_map, List.map_map, claimants]

/-- R144: a claim of a station with none in the list joins a list with room. -/
theorem claimsLawful_of_join {list : List ClaimEntry} {c : ClaimEntry} (h : claimsLawful list = true)
    (new : ∀ e ∈ list, e.claimant ≠ c.claimant) (room : list.length < 4) : claimsLawful (list ++ [c]) = true := by
  rw [claimsLawful_iff] at *
  refine ⟨by simpa using room, ?_⟩
  rw [List.map_append, List.nodup_append]
  refine ⟨h.2, List.nodup_singleton _, fun a mem b single => ?_⟩
  obtain ⟨e, entry, rfl⟩ := List.mem_map.mp mem
  rw [List.map_singleton, List.mem_singleton] at single
  exact single ▸ new e entry

/-- R144: the list after a claim comes to join is lawful: the claim takes the place of its sender's, room, or the place of
one that leaves. -/
theorem joinList_lawful (c : ClaimEntry) {list : List ClaimEntry} (h : claimsLawful list = true) :
    claimsLawful (joinList c list).1 = true := by
  unfold joinList
  split
  · refine claimsLawful_of_map h fun e => ?_
    split
    · rename_i same
      exact (beq_iff_eq.mp same).symm
    · rfl
  · rename_i unknown
    have new : ∀ e ∈ list, e.claimant ≠ c.claimant := by simpa using unknown
    split
    · rename_i room
      exact claimsLawful_of_join h new room
    · split
      · exact h
      · rename_i low lowest
        split
        · have part : (list.filter fun e => e.claimant != low.claimant).Sublist list := List.filter_sublist
          have fewer : (list.filter fun e => e.claimant != low.claimant).length < list.length :=
            List.length_filter_lt_length_iff_exists.mpr ⟨low, lowestRanked_mem lowest, by simp⟩
          exact claimsLawful_of_join (claimsLawful_of_sublist h part) (fun e mem => new e (part.subset mem))
            (fewer.trans_le ((claimsLawful_iff list).mp h).1)
        · exact h

/-! ## What keeps the laws -/

theorem FloorUnit.micLawful_iff (f : FloorUnit) :
    f.micLawful = true ↔ (f.micLive = true → ∃ o, f.own = some o ∧ o.phase = .live) := by
  unfold FloorUnit.micLawful
  cases f.micLive <;> cases f.own <;> simp

/-- What made `t` of `s` keeps the law of the claim list and the law of MIC-LIVE. -/
structure State.KeepsFloorLaws (s t : State) : Prop where
  claims : claimsLawful s.fu.claims = true → claimsLawful t.fu.claims = true
  mic : s.fu.micLawful = true → t.fu.micLawful = true

section

variable {s t u : State} {parts : List Part}

theorem State.KeepsFloorLaws.refl (s : State) : s.KeepsFloorLaws s := ⟨id, id⟩

theorem State.KeepsFloorLaws.trans (h1 : s.KeepsFloorLaws t) (h2 : t.KeepsFloorLaws u) : s.KeepsFloorLaws u :=
  ⟨h2.claims ∘ h1.claims, h2.mic ∘ h1.mic⟩

theorem State.KeepsFloorLaws.lawful (h : s.KeepsFloorLaws t) (lawful : s.fu.lawful = true) : t.fu.lawful = true := by
  unfold FloorUnit.lawful at *
  rw [Bool.and_eq_true] at *
  exact ⟨h.claims lawful.1, h.mic lawful.2⟩

/-- The laws speak of the claim list, the own record and MIC-LIVE alone. -/
theorem State.KeepsFloorLaws.of_same (claims : t.fu.claims = s.fu.claims) (own : t.fu.own = s.fu.own)
    (mic : t.fu.micLive = s.fu.micLive) : s.KeepsFloorLaws t where
  claims h := by rwa [claims]
  mic h := by
    rw [FloorUnit.micLawful_iff] at *
    rwa [own, mic]

/-- What leaves the Floor Unit keeps its laws. -/
theorem State.keepsAllBut.keepsFloorLaws (h : s.keepsAllBut parts t) (out : Part.fu ∉ parts := by decide) :
    s.KeepsFloorLaws t := by
  have fu : t.fu = s.fu := h .fu out
  exact .of_same (by rw [fu]) (by rw [fu]) (by rw [fu])

theorem State.KeepsFloorLaws.frame (h : s.KeepsFloorLaws t) (next : t.keepsAllBut parts u)
    (out : Part.fu ∉ parts := by decide) : s.KeepsFloorLaws u :=
  h.trans (next.keepsFloorLaws out)

/-- R144, R154, R161: no claim in the list, and MIC-LIVE off. -/
theorem State.KeepsFloorLaws.of_silent (claims : t.fu.claims = []) (mic : t.fu.micLive = false) : s.KeepsFloorLaws t where
  claims _ := by
    rw [claims]
    rfl
  mic _ := by
    rw [FloorUnit.micLawful_iff, mic]
    exact nofun

end

theorem ite_keepsFloorLaws {f : State → State} (c : State → Bool) (keeps : ∀ t : State, t.KeepsFloorLaws (f t))
    (t : State) : t.KeepsFloorLaws (if c t then f t else t) := by
  split
  · exact keeps t
  · exact .refl t

theorem ifTaking_keepsFloorLaws {f : State → State} (keeps : ∀ t : State, t.KeepsFloorLaws (f t)) (t : State) :
    t.KeepsFloorLaws (ifTaking f t) :=
  ite_keepsFloorLaws State.taking keeps t

theorem forStation_keepsFloorLaws {b : Byte} {f : Station → State → State}
    (keeps : ∀ n (t : State), t.KeepsFloorLaws (f n t)) (t : State) : t.KeepsFloorLaws (forStation b f t) := by
  unfold forStation
  split
  · exact keeps _ t
  · exact .refl t

/-! ## The writes of the Floor Unit -/

theorem setKey_keepsFloorLaws (s : State) (k : KeyId) (i : KeyInput) : s.KeepsFloorLaws (s.setKey k i) :=
  .of_same rfl rfl rfl

theorem setView_keepsFloorLaws (s : State) (v : Option FloorView) : s.KeepsFloorLaws (s.setView v) :=
  .of_same rfl rfl rfl

theorem setClaims_keepsFloorLaws {s : State} {list : List ClaimEntry}
    (lawful : claimsLawful s.fu.claims = true → claimsLawful list = true) : s.KeepsFloorLaws (s.setClaims list) :=
  ⟨lawful, id⟩

/-- R154: the own record is rewritten, and is still LIVE if it was. -/
theorem setOwn_keepsFloorLaws {s : State} {x : Option OwnClaim}
    (live : ∀ o, s.fu.own = some o → o.phase = .live → ∃ p, x = some p ∧ p.phase = .live) :
    s.KeepsFloorLaws (s.setOwn x) where
  claims := id
  mic h := by
    rw [FloorUnit.micLawful_iff] at *
    intro on
    obtain ⟨o, own, phase⟩ := h on
    exact live o own phase

/-- R154: a record that was not LIVE is rewritten: MIC-LIVE was off. -/
theorem setOwn_keepsFloorLaws_of_unlive {s : State} {o : OwnClaim} (x : Option OwnClaim) (own : s.fu.own = some o)
    (unlive : o.phase ≠ .live) : s.KeepsFloorLaws (s.setOwn x) :=
  setOwn_keepsFloorLaws fun _ same live => absurd (Option.some.inj (own.symm.trans same) ▸ live) unlive

/-- R154: with no own record LIVE, MIC-LIVE is off. -/
theorem micLive_of_unlive {f : FloorUnit} (h : f.micLawful = true) (unlive : ∀ o, f.own = some o → o.phase ≠ .live) :
    f.micLive = false := by
  rw [FloorUnit.micLawful_iff] at h
  refine Bool.eq_false_iff.mpr fun on => ?_
  obtain ⟨o, own, live⟩ := h on
  exact unlive o own live

/-- R147: a record that is CLAIMING is not LIVE. -/
theorem unlive_of_claiming {o : OwnClaim} {number : Byte}
    (claiming : (o.phase == .claiming && o.number == number) = true) : o.phase ≠ .live := by
  rw [Bool.and_eq_true, beq_iff_eq] at claiming
  rw [claiming.1]
  exact nofun

theorem ownIdle_keepsFloorLaws (s : State) : s.KeepsFloorLaws (ownIdle s) := by
  have silent : s.KeepsFloorLaws ((s.setOwn none).setMic false) :=
    ⟨id, fun _ => ((s.setOwn none).setMic false).fu.micLawful_iff.mpr nofun⟩
  exact silent.frame (cancelChime_frame _)

theorem showRefusal_keepsFloorLaws (k : KeyId) (s : State) : s.KeepsFloorLaws (showRefusal k s) :=
  setKey_keepsFloorLaws s k _

theorem lampOff_keepsFloorLaws (k : KeyId) (s : State) : s.KeepsFloorLaws (lampOff k s) := setKey_keepsFloorLaws s k _

theorem floorLeavesView_keepsFloorLaws (s : State) : s.KeepsFloorLaws (floorLeavesView s) := by
  unfold floorLeavesView
  split
  · exact .refl s
  · exact (setView_keepsFloorLaws s none).frame (releaseEverywhere_frame _ _)

theorem floorLeaves_keepsFloorLaws (holder : Station) (number : Byte) (s : State) :
    s.KeepsFloorLaws (floorLeaves holder number s) :=
  ite_keepsFloorLaws (fun t => t.viewIs holder number) floorLeavesView_keepsFloorLaws s

theorem ownFloorLeaves_keepsFloorLaws (number : Byte) (s : State) : s.KeepsFloorLaws (ownFloorLeaves number s) := by
  unfold ownFloorLeaves
  split
  · exact floorLeaves_keepsFloorLaws _ _ s
  · exact .refl s

theorem claimLeaves_keepsFloorLaws (claimant : Station) (s : State) : s.KeepsFloorLaws (claimLeaves claimant s) :=
  setClaims_keepsFloorLaws fun h => claimsLawful_of_sublist h List.filter_sublist

theorem ownClaimLeaves_keepsFloorLaws (s : State) : s.KeepsFloorLaws (ownClaimLeaves s) := by
  unfold ownClaimLeaves
  split
  · exact claimLeaves_keepsFloorLaws _ s
  · exact .refl s

/-! ## Requests to queue a frame -/

/-- R147: a claim lost was not LIVE. -/
theorem claimLost_keepsFloorLaws (number : Byte) (s : State) : s.KeepsFloorLaws (claimLost number s) := by
  unfold claimLost
  split
  · rename_i o own
    split
    · rename_i claiming
      have unlive : o.phase ≠ .live := unlive_of_claiming claiming
      exact (setOwn_keepsFloorLaws_of_unlive none own unlive).trans (showRefusal_keepsFloorLaws _ _)
    · exact .refl s
  · exact .refl s

theorem reportLost_keepsFloorLaws (f : OutFrame) (s : State) : s.KeepsFloorLaws (reportLost f s) := by
  unfold reportLost
  split
  · exact claimLost_keepsFloorLaws _ s
  · exact .refl s

theorem dropAtFull_keepsFloorLaws (f : OutFrame) (s : State) : s.KeepsFloorLaws (dropAtFull f s) :=
  (s.setYlc_frame s.ylc.countDrop).keepsFloorLaws.trans (reportLost_keepsFloorLaws f _)

/-- R26, R30, R36: a request may lose a frame, and the own CLAIM with it. -/
theorem enqueue_keepsFloorLaws (f : OutFrame) (s : State) : s.KeepsFloorLaws (enqueue f s) := by
  unfold enqueue
  split
  · exact reportLost_keepsFloorLaws f s
  · split
    · exact (joinQueue_frame f s).keepsFloorLaws
    · split
      · exact dropAtFull_keepsFloorLaws f s
      · rename_i i _
        refine State.KeepsFloorLaws.frame ?_ (joinQueue_frame f _)
        have left := (s.setYlc_frame { s.ylc with queue := s.ylc.queue.eraseIdx i }).keepsFloorLaws
        split
        · exact left.trans (dropAtFull_keepsFloorLaws _ _)
        · exact left

theorem queueRelease_keepsFloorLaws (number : Byte) (why : ReleaseReason) (s : State) :
    s.KeepsFloorLaws (queueRelease number why s) := enqueue_keepsFloorLaws _ s

theorem requestBeacon_keepsFloorLaws (s : State) : s.KeepsFloorLaws (requestBeacon s) := by
  unfold requestBeacon
  split
  · exact enqueue_keepsFloorLaws _ s
  · exact ite_keepsFloorLaws (fun _ => _) (fun t => (setTb_frame t _).keepsFloorLaws) s

theorem requestReply_keepsFloorLaws (asker : Station) (page : Byte) (s : State) :
    s.KeepsFloorLaws (requestReply asker page s) := by
  unfold requestReply
  split
  · exact enqueue_keepsFloorLaws _ s
  · exact ite_keepsFloorLaws (fun _ => _) (fun t => (t.setYlc_frame _).keepsFloorLaws) s

theorem releaseHeld_keepsFloorLaws (f : OutFrame) (s : State) : s.KeepsFloorLaws (releaseHeld f s) := by
  unfold releaseHeld releaseHeldBeacon releaseHeldAsk
  split
  · split
    · exact (setTb_frame s _).keepsFloorLaws.trans (requestBeacon_keepsFloorLaws _)
    · exact .refl s
  · split
    · exact (s.setYlc_frame _).keepsFloorLaws.trans (requestReply_keepsFloorLaws _ _ _)
    · exact .refl s
  · exact .refl s

/-! ## Claims made and heard -/

theorem ownClaimWithdrawn_keepsFloorLaws (number : Byte) (s : State) : s.KeepsFloorLaws (ownClaimWithdrawn number s) := by
  unfold ownClaimWithdrawn
  split
  · rename_i o own
    split
    · rename_i claiming
      have unlive : o.phase ≠ .live := unlive_of_claiming claiming
      exact ((setOwn_keepsFloorLaws_of_unlive none own unlive).trans (showRefusal_keepsFloorLaws _ _)).trans
        (queueRelease_keepsFloorLaws _ _ _)
    · exact .refl s
  · exact .refl s

theorem joinClaim_keepsFloorLaws (c : ClaimEntry) (s : State) : s.KeepsFloorLaws (joinClaim c s) := by
  have listed : s.KeepsFloorLaws (s.setClaims (joinList c s.fu.claims).1) := setClaims_keepsFloorLaws (joinList_lawful c)
  unfold joinClaim
  split
  rename_i list displaced joined made
  rw [made] at listed
  dsimp only
  refine State.KeepsFloorLaws.trans ?_ (ite_keepsFloorLaws (fun _ => _) (ownClaimWithdrawn_keepsFloorLaws _) _)
  split
  · split
    · exact listed.trans (ownClaimWithdrawn_keepsFloorLaws _ _)
    · exact listed
  · exact listed

/-- R145, R146: a press that is accepted finds no own record, so that MIC-LIVE is off. -/
theorem pressKey_keepsFloorLaws (key : KeyId) (s : State) : s.KeepsFloorLaws (pressKey key s) := by
  unfold pressKey
  dsimp only
  split
  · exact showRefusal_keepsFloorLaws key s
  · split
    · exact showRefusal_keepsFloorLaws key s
    · rename_i n _ accepted
      have idle : ∀ o, s.fu.own = some o → o.phase ≠ .live := fun o own =>
        absurd (by simp [State.pressRefused, own]) accepted
      have claiming (o : OwnClaim) : s.KeepsFloorLaws { s with fu := { s.fu with own := some o, counter := o.number } } :=
        ⟨id, fun h => (FloorUnit.micLawful_iff _).mpr fun on => Bool.noConfusion ((micLive_of_unlive h idle).symm.trans on)⟩
      exact (claiming _).trans (enqueue_keepsFloorLaws _ _)

theorem claimSent_keepsFloorLaws (number : Byte) (s : State) : s.KeepsFloorLaws (claimSent number s) := by
  unfold claimSent
  split
  · exact ite_keepsFloorLaws (fun _ => _) (joinClaim_keepsFloorLaws _) s
  · exact .refl s

theorem hearClaim_keepsFloorLaws (sender : Station) (b : ClaimBody) (s : State) :
    s.KeepsFloorLaws (hearClaim sender b s) := by
  unfold hearClaim
  extract_lets c s1 s2
  have left : s.KeepsFloorLaws s1 := by
    unfold s1
    split
    · exact ite_keepsFloorLaws (fun _ => _) floorLeavesView_keepsFloorLaws s
    · exact .refl s
  have joined : s.KeepsFloorLaws s2 := left.trans (joinClaim_keepsFloorLaws c s1)
  split
  · split
    · exact joined.trans (enqueue_keepsFloorLaws _ _)
    · exact joined
  · exact joined

theorem hearObject_keepsFloorLaws (claimant : Station) (number : Byte) (s : State) :
    s.KeepsFloorLaws (hearObject claimant number s) := by
  unfold hearObject
  split
  · refine setClaims_keepsFloorLaws fun h => claimsLawful_of_map h fun e => ?_
    split <;> rfl
  · split
    · split
      · exact (((ownIdle_keepsFloorLaws s).trans (showRefusal_keepsFloorLaws _ _)).trans
          (ownFloorLeaves_keepsFloorLaws _ _)).trans (queueRelease_keepsFloorLaws _ _ _)
      · exact .refl s
    · exact .refl s

theorem hearRelease_keepsFloorLaws (sender : Station) (number : Byte) (s : State) :
    s.KeepsFloorLaws (hearRelease sender number s) :=
  State.KeepsFloorLaws.trans (setClaims_keepsFloorLaws fun h => claimsLawful_of_sublist h List.filter_sublist)
    (floorLeaves_keepsFloorLaws _ _ _)

/-! ## The own floor -/

/-- R154: MIC-LIVE goes on with the record LIVE. -/
theorem enterLive_keepsFloorLaws (s : State) : s.KeepsFloorLaws (enterLive s) := by
  unfold enterLive
  split
  · rename_i o _
    split
    · refine ⟨id, fun _ => ?_⟩
      rw [FloorUnit.micLawful_iff]
      exact fun _ => ⟨{ o with phase := .live }, rfl, rfl⟩
    · exact .refl s
  · exact .refl s

/-- R154: a record that is not LIVE enters CHIMING, or with no CHIME line LIVE. -/
theorem enterChiming_keepsFloorLaws {s : State} {p : OwnClaim} (own : s.fu.own = some p) (unlive : p.phase ≠ .live)
    (o : OwnClaim) : s.KeepsFloorLaws (enterChiming o s) := by
  have started := (setOwn_keepsFloorLaws_of_unlive (some { o with phase := .chiming, readyWaitEnd := none }) own
    unlive).frame (startChime_frame _)
  unfold enterChiming
  split <;> rename_i h <;> rw [h] at started
  · exact started.trans (enterLive_keepsFloorLaws _)
  · exact started

theorem closeGathering_keepsFloorLaws {s : State} {p : OwnClaim} (own : s.fu.own = some p) (unlive : p.phase ≠ .live)
    (o : OwnClaim) : s.KeepsFloorLaws (closeGathering o s) := by
  unfold closeGathering
  split
  · exact (((setOwn_keepsFloorLaws_of_unlive none own unlive).trans (queueRelease_keepsFloorLaws _ _ _)).trans
      (showRefusal_keepsFloorLaws _ _)).trans (ownFloorLeaves_keepsFloorLaws _ _)
  · exact enterChiming_keepsFloorLaws own unlive o

theorem ownWin_keepsFloorLaws (number : Byte) (s : State) : s.KeepsFloorLaws (ownWin number s) := by
  unfold ownWin
  split
  · rename_i o own
    split
    · rename_i claiming
      have unlive : o.phase ≠ .live := unlive_of_claiming claiming
      dsimp only
      split
      · exact (setOwn_keepsFloorLaws_of_unlive _ own unlive).trans (closeGathering_keepsFloorLaws rfl (by simp) _)
      · exact setOwn_keepsFloorLaws_of_unlive _ own unlive
    · exact .refl s
  · exact .refl s

/-- R153: an answer leaves the phase of the record. -/
theorem hearReady_keepsFloorLaws (sender holder : Station) (number : Byte) (mask : ZoneMask) (s : State) :
    s.KeepsFloorLaws (hearReady sender holder number mask s) := by
  unfold hearReady
  split
  · rename_i o own
    split
    · have answered : s.KeepsFloorLaws (s.setOwn (some { o with responders := o.responders.set sender (some mask) })) :=
        setOwn_keepsFloorLaws fun _ same live => ⟨_, rfl, Option.some.inj (own.symm.trans same) ▸ live⟩
      dsimp only
      split
      · rename_i last
        rw [Bool.and_eq_true, beq_iff_eq] at last
        exact answered.trans (closeGathering_keepsFloorLaws rfl (by simp [last.1]) _)
      · exact answered
    · exact .refl s
  · exact .refl s

theorem ownDisplaced_keepsFloorLaws (s : State) : s.KeepsFloorLaws (ownDisplaced s) := by
  unfold ownDisplaced
  split
  · exact ite_keepsFloorLaws (fun _ => _) (fun t => (ownIdle_keepsFloorLaws t).trans (lampOff_keepsFloorLaws _ _)) s
  · exact .refl s

/-! ## The window close -/

theorem displaceFloor_keepsFloorLaws (x : ClaimEntry) (s : State) : s.KeepsFloorLaws (displaceFloor x s) := by
  have left := floorLeavesView_keepsFloorLaws s
  unfold displaceFloor
  split
  · exact .refl s
  · split
    · exact .refl s
    · dsimp only
      split
      · exact left.trans (ownDisplaced_keepsFloorLaws _)
      · exact left

theorem takenBy_keepsFloorLaws (x : ClaimEntry) (s : State) : s.KeepsFloorLaws (s.takenBy x) :=
  (((displaceFloor_keepsFloorLaws x s).trans (setView_keepsFloorLaws _ _)).frame (offerZones_frame x _ _)).trans
    (setView_keepsFloorLaws _ _)

theorem claimWon_keepsFloorLaws (x : ClaimEntry) (s : State) : s.KeepsFloorLaws (claimWon x s) := by
  have taken := takenBy_keepsFloorLaws x s
  by_cases own : s.own = some x.claimant
  · rw [claimWon_of_own own]
    exact taken.trans (ownWin_keepsFloorLaws _ _)
  · rw [claimWon_of_peer own]
    split
    · exact taken
    · exact taken.trans (enqueue_keepsFloorLaws _ _)

theorem claimLoses_keepsFloorLaws (x : ClaimEntry) (s : State) : s.KeepsFloorLaws (claimLoses x s) := by
  unfold claimLoses
  split
  · exact claimLost_keepsFloorLaws _ s
  · exact .refl s

theorem closeWindow_keepsFloorLaws (x : ClaimEntry) (s : State) : s.KeepsFloorLaws (closeWindow x s) := by
  have left := claimLeaves_keepsFloorLaws x.claimant s
  unfold closeWindow
  dsimp only
  split
  · exact left.trans (claimLoses_keepsFloorLaws x _)
  · split
    · exact left.trans (claimWon_keepsFloorLaws x _)
    · exact (left.trans (displaceFloor_keepsFloorLaws x _)).trans (setView_keepsFloorLaws _ _)

/-! ## The end of a floor -/

/-- R155, R156, R160: the own record ends with a RELEASE. -/
theorem ownEnds_keepsFloorLaws (o : OwnClaim) (why : ReleaseReason) (s : State) :
    s.KeepsFloorLaws (lampOff o.key (ownIdle (queueRelease o.number why s))) :=
  ((queueRelease_keepsFloorLaws _ _ s).trans (ownIdle_keepsFloorLaws _)).trans (lampOff_keepsFloorLaws _ _)

theorem releaseOwnKey_keepsFloorLaws (o : OwnClaim) (s : State) : s.KeepsFloorLaws (releaseOwnKey o s) := by
  unfold releaseOwnKey
  split
  · exact (ownEnds_keepsFloorLaws o .withdrawn s).trans (ownClaimLeaves_keepsFloorLaws _)
  all_goals exact (ownEnds_keepsFloorLaws o .ended s).trans (ownFloorLeaves_keepsFloorLaws _ _)

theorem hearFloorSummary_keepsFloorLaws (sender : Station) (summary : Option FloorSummary) (delimiter : Nat) (s : State) :
    s.KeepsFloorLaws (hearFloorSummary sender summary delimiter s) := by
  unfold hearFloorSummary
  split
  · exact ite_keepsFloorLaws (fun _ => _) floorLeavesView_keepsFloorLaws s
  · split
    · exact .refl s
    · split
      · exact .refl s
      · exact setView_keepsFloorLaws s _

theorem floorYield_keepsFloorLaws (s : State) : s.KeepsFloorLaws (floorYield s) := by
  unfold floorYield
  refine State.KeepsFloorLaws.trans ?_ (floorLeavesView_keepsFloorLaws _)
  split
  · rename_i o _
    have ended := ownEnds_keepsFloorLaws o .yield s
    dsimp only
    split
    · exact ended.trans (ownClaimLeaves_keepsFloorLaws _)
    · exact ended
  · exact .refl s

end Sys2Proof.Machine
end

section
/-! PROOF. R144, R154: the laws of the claim list and of MIC-LIVE through every command and every step. -/

namespace Sys2Proof.Machine

-- one declaration at a time, as in the tests: the threads of a whole text's proofs do not fit the memory limit
set_option Elab.async false

/-! ## Keys, windows and holds -/

theorem keyHeld_keepsFloorLaws (k : KeyId) (s : State) : s.KeepsFloorLaws (keyHeld k s) := by
  unfold keyHeld
  split
  · exact .refl s
  · have held := setKey_keepsFloorLaws s k { s.key k with armed := s.keyArmed k, held := true }
    dsimp only
    split
    · exact held.trans (pressKey_keepsFloorLaws k _)
    · exact held

theorem keyReleased_keepsFloorLaws (k : KeyId) (s : State) : s.KeepsFloorLaws (keyReleased k s) := by
  have released := setKey_keepsFloorLaws s k { s.key k with held := false, armed := true }
  unfold keyReleased
  dsimp only
  split
  · split
    · exact released.trans (releaseOwnKey_keepsFloorLaws _ _)
    · exact released
  · exact released

theorem windowCloses_keepsFloorLaws (claimant : Station) (s : State) : s.KeepsFloorLaws (windowCloses claimant s) := by
  unfold windowCloses
  split
  · exact ite_keepsFloorLaws State.taking (closeWindow_keepsFloorLaws _) s
  · exact .refl s

theorem readyWaitEnds_keepsFloorLaws (s : State) : s.KeepsFloorLaws (readyWaitEnds s) := by
  unfold readyWaitEnds
  split
  · rename_i o own
    split
    · rename_i gathering
      rw [Bool.and_eq_true, beq_iff_eq] at gathering
      exact closeGathering_keepsFloorLaws own (by simp [gathering.1]) o
    · exact .refl s
  · exact .refl s

theorem holdEnds_keepsFloorLaws (s : State) : s.KeepsFloorLaws (holdEnds s) := by
  unfold holdEnds
  split
  · split
    · exact (ownEnds_keepsFloorLaws _ .expired s).trans (ownFloorLeaves_keepsFloorLaws _ _)
    · exact .refl s
  · exact .refl s

theorem graceExpires_keepsFloorLaws (s : State) : s.KeepsFloorLaws (graceExpires s) := by
  unfold graceExpires
  split
  · split
    · exact floorLeavesView_keepsFloorLaws s
    · exact .refl s
  · exact .refl s

/-- R90, R154: the end of the chime takes a CHIMING record to LIVE. -/
theorem chimeWidthEnds_keepsFloorLaws (s : State) : s.KeepsFloorLaws (chimeWidthEnds s) := by
  unfold chimeWidthEnds
  split
  · rename_i phase mask _ _
    have ended := (chimePhaseEnd_frame phase mask s).keepsFloorLaws
    split
    · split <;> rename_i h <;> rw [h] at ended
      · exact ended.trans (enterLive_keepsFloorLaws _)
      · exact ended
    · exact .refl s
  all_goals exact .refl s

/-! ## The Drill Unit -/

theorem startDrill_keepsFloorLaws (own : Station) (t : Nat) (s : State) : s.KeepsFloorLaws (startDrill own t s) :=
  (((setDru_frame s _).andThen (checkPhase_frame _)).andThen (askZones_frame _ _)).keepsFloorLaws.trans
    (enqueue_keepsFloorLaws _ _)

theorem pressDrillKey_keepsFloorLaws (s : State) : s.KeepsFloorLaws (pressDrillKey s) := by
  unfold pressDrillKey
  split
  · split
    · exact .refl s
    · split
      · split
        · unfold pressOnDrill
          split <;> exact (changeRecord_frame _ _ s).keepsFloorLaws.trans (enqueue_keepsFloorLaws _ _)
        · exact startDrill_keepsFloorLaws _ _ s
      · exact startDrill_keepsFloorLaws _ _ s
  · exact .refl s

theorem pressMusterKey_keepsFloorLaws (s : State) : s.KeepsFloorLaws (pressMusterKey s) := by
  unfold pressMusterKey
  split
  · split
    · exact (enqueue_keepsFloorLaws _ s).frame (changeRecord_frame _ _ _)
    · exact .refl s
  · exact .refl s

theorem yieldEndsDrill_keepsFloorLaws (s : State) : s.KeepsFloorLaws (yieldEndsDrill s) := by
  unfold yieldEndsDrill
  split
  · rename_i r _
    have ended := (changeRecord_frame r (r.ended .yield s.school) s).keepsFloorLaws
    split
    · dsimp only
      split
      · exact ended.trans (enqueue_keepsFloorLaws _ _)
      · exact ended
    · exact .refl s
  · exact .refl s

theorem yieldStart_keepsFloorLaws (s : State) : s.KeepsFloorLaws (yieldStart s) :=
  (((s.setYielding_frame true).keepsFloorLaws.trans (yieldEndsDrill_keepsFloorLaws _)).trans
    (floorYield_keepsFloorLaws _)).frame (forEach_keepsAllBut yieldRequest_frame allZones _)

theorem updateYield_keepsFloorLaws (s : State) : s.KeepsFloorLaws (updateYield s) := by
  have caused := s.withPeerCause_frame.keepsFloorLaws
  cases taking : s.taking with
  | false => simpa [updateYield, taking] using State.KeepsFloorLaws.refl s
  | true =>
    rcases updateYield_cases s taking with ⟨-, -, h⟩ | ⟨-, -, h⟩ | ⟨-, h⟩ <;> rw [h]
    · exact caused.trans (yieldStart_keepsFloorLaws _)
    · exact caused.frame (yieldEnd_frame _)
    · exact caused

theorem contactChanges_keepsFloorLaws (on : Bool) (s : State) : s.KeepsFloorLaws (contactChanges on s) := by
  have toYield (t : State) : t.KeepsFloorLaws (contactToYield t) := by
    unfold contactToYield
    split
    · exact (t.setYielding_frame _).keepsFloorLaws
    · exact updateYield_keepsFloorLaws t
  have contact := (setDru_frame s { s.dru with contact := on }).keepsFloorLaws
  unfold contactChanges
  refine State.KeepsFloorLaws.trans ?_ (toYield _)
  dsimp only
  split
  · exact contact.trans (enqueue_keepsFloorLaws _ _)
  · exact contact

/-! ## The Peer Table -/

theorem beaconFrom_keepsFloorLaws (n : Station) (b : BeaconBody) (r : ReceiveStamp) (s : State) :
    s.KeepsFloorLaws (beaconFrom n b r s) := by
  have timed := ((s.setPeer_frame n ((s.peer n).afterBeacon b (s.stampTaken r) s.now)).andThen
    (timeFromBeacon_frame b r _)).keepsFloorLaws
  unfold beaconFrom
  dsimp only
  split
  · exact ((timed.trans (hearFloorSummary_keepsFloorLaws _ _ _ _)).frame (drillFromBeacon_frame _ _ _)).trans
      (updateYield_keepsFloorLaws _)
  · exact timed

theorem peerLost_keepsFloorLaws (n : Station) (s : State) : s.KeepsFloorLaws (peerLost n s) := by
  have left (t : State) : t.KeepsFloorLaws (floorPeerLost n t) := by
    unfold floorPeerLost
    split
    · exact ite_keepsFloorLaws (fun _ => _) floorLeavesView_keepsFloorLaws t
    · exact .refl t
  have lost := (s.setPeer_frame n (s.peer n).lost).keepsFloorLaws
  unfold peerLost
  dsimp only
  split
  · exact (lost.trans (left _)).trans (updateYield_keepsFloorLaws _)
  · exact lost

/-! ## The end of an attempt, and the receiver -/

theorem agreementRound_frame (s : State) :
    s.keepsAllBut [.tb, .pt, .ylc, .za, .bs, .dsq, .du, .dru, .ds] (agreementRound s) := by
  have moved (kind : MovementKind) (amount : Int) (x : Nat) (t : State) :
      t.keepsAllBut [.tb, .pt, .ylc, .za, .bs, .dsq, .du, .dru, .ds] (moveSchool kind amount x t) := by
    unfold moveSchool
    dsimp only
    split
    · exact t.keepsAllBut_refl _
    · exact ((((t.setSchool_frame _ _).andThen (adjustSamples_frame _ _)).andThen (State.setYlc_frame _ _)).andThen
        (notifyMovement_frame _ _)).within
  unfold agreementRound
  split
  · exact s.keepsAllBut_refl _
  · dsimp only
    split
    · exact (s.setSchool_frame _ _).within
    · split
      · exact (s.setSchool_frame _ _).within
      · exact ((s.setSchool_frame _ _).andThen (moved _ _ _ _)).within

theorem reportSent_keepsFloorLaws (f : OutFrame) (s : State) : s.KeepsFloorLaws (reportSent f s) := by
  unfold reportSent
  split
  · exact (agreementRound_frame s).keepsFloorLaws
  · exact claimSent_keepsFloorLaws _ s
  · exact .refl s

theorem frameSent_keepsFloorLaws (i : Nat) (q : QueuedFrame) (s : State) : s.KeepsFloorLaws (frameSent i q s) := by
  rw [frameSent_eq]
  exact ((afterAttempt_frame s _ _).keepsFloorLaws.trans (reportSent_keepsFloorLaws _ _)).trans
    (releaseHeld_keepsFloorLaws _ _)

theorem frameCollided_keepsFloorLaws (i : Nat) (q : QueuedFrame) (s : State) :
    s.KeepsFloorLaws (frameCollided i q s) := by
  by_cases early : q.attempts + 1 < 8
  · rw [frameCollided_of_early i s early]
    exact (afterAttempt_frame s _ _).keepsFloorLaws.trans (releaseHeld_keepsFloorLaws _ _)
  · rw [frameCollided_of_last i s (Nat.not_lt.mp early)]
    exact ((afterAttempt_frame s _ _).keepsFloorLaws.trans (reportLost_keepsFloorLaws _ _)).trans
      (releaseHeld_keepsFloorLaws _ _)

theorem whileSending_keepsFloorLaws {f : Nat → QueuedFrame → State → State}
    (keeps : ∀ i q (t : State), t.KeepsFloorLaws (f i q t)) (s : State) : s.KeepsFloorLaws (whileSending f s) := by
  unfold whileSending
  split
  · split
    · exact .refl s
    · split
      · exact .refl s
      · exact keeps _ _ s
  · exact .refl s

/-- R37 to R40: the receiver's own part of a frame heard leaves the Floor Unit. -/
theorem accept_keepsFloorLaws {sender : Byte} {deliver : Station → ReceiveStamp → State → State}
    (keeps : ∀ n r (t : State), t.KeepsFloorLaws (deliver n r t)) (s : State) :
    s.KeepsFloorLaws (accept sender deliver s) := by
  have hunts := s.setYlc_frame s.ylc.hunt
  have counted (y : YardLine) := (hunts.andThen (State.setYlc_frame _ y)).keepsFloorLaws
  unfold accept
  dsimp only
  split
  · exact hunts.keepsFloorLaws
  · split
    · exact counted _
    · split
      · exact counted _
      · split
        · exact ((counted _).frame (peerHeard_frame _ _)).trans (keeps _ _ _)
        · exact counted _

/-! ## Start-up and supply -/

/-- R161: the entry to HOLD-UP leaves no claim, and MIC-LIVE off. -/
theorem enterHoldUp_keepsFloorLaws (s : State) : s.KeepsFloorLaws (enterHoldUp s) := by
  obtain ⟨-, mic, -, claims, -⟩ := enterHoldUp_fu s
  exact .of_silent claims mic

theorem warningAsserts_keepsFloorLaws (s : State) : s.KeepsFloorLaws (warningAsserts s) := by
  have warned := (setDs_frame s { s.ds with warning := true }).keepsFloorLaws
  unfold warningAsserts
  dsimp only
  split
  · exact warned
  · split
    · exact warned.trans (enterHoldUp_keepsFloorLaws _)
    · exact warned.frame (setDs_frame _ _)

theorem endOfReset_keepsFloorLaws (straps : BitVec 5) (s : State) : s.KeepsFloorLaws (endOfReset straps s) := by
  have loading (t : State) : t.KeepsFloorLaws (startLoading straps t) := by
    unfold startLoading
    split
    · exact (setSp_frame t _).keepsFloorLaws
    · exact (enterConfigFault_frame _ t).keepsFloorLaws
  exact ((eraseIfFull_frame s).keepsFloorLaws.trans (loading _)).trans
    (ite_keepsFloorLaws (fun t => t.ds.warning) warningAsserts_keepsFloorLaws _)

theorem powerOnReset_keepsFloorLaws (straps : BitVec 5) (warning : Bool) (s : State) :
    s.KeepsFloorLaws (powerOnReset straps warning s) := by
  have reset : s.KeepsFloorLaws { collapse s with powered := true } := .of_silent rfl rfl
  have erased := (reset.frame (recoveryScan_frame _)).frame (eraseIfFull_frame _)
  unfold powerOnReset
  dsimp only
  split
  · exact erased.frame (setDs_frame _ _)
  · exact (erased.frame (setDs_frame _ _)).trans (endOfReset_keepsFloorLaws straps _)

/-- R200: an image brings the page keys and the ready wait. -/
theorem imageRead_keepsFloorLaws (memory : List Byte) (s : State) : s.KeepsFloorLaws (imageRead memory s) := by
  unfold imageRead
  split
  · rename_i i _
    have settings : s.KeepsFloorLaws (applySettings i (settingsOf i.sections).1 (settingsOf i.sections).2 s) :=
      .of_same rfl rfl rfl
    have loaded := settings.frame ((bindSlots_frame (settingsOf i.sections).1.clocks _).andThen (bellsTakeUp_frame _))
    exact (loaded.frame (State.setYielding_frame _ false)).trans (updateYield_keepsFloorLaws _)
  · exact (enterConfigFault_frame _ s).keepsFloorLaws

theorem enterRunning_keepsFloorLaws (s : State) : s.KeepsFloorLaws (enterRunning s) := by
  have examined := (((((setSp_frame s { s.sp with config := .running, listeningEnd := none }).andThen
    (startBeaconTimer_frame _)).andThen (forEach_keepsAllBut tryImpulse_frame allSlots _)).andThen
    (forEach_keepsAllBut startEffects_frame allZones _)).andThen (examineDue_frame _)).keepsFloorLaws
  unfold enterRunning
  dsimp only
  split
  · exact examined.trans (enqueue_keepsFloorLaws _ _)
  · exact examined

/-! ## Every command -/

theorem change_keepsFloorLaws {f : State → State} (keeps : ∀ t : State, t.KeepsFloorLaws (f t)) (s : State) :
    s.KeepsFloorLaws (change f s) := by
  unfold change whenUp
  split
  · exact (keeps s).frame (asOneChange_frame f s)
  · exact .refl s

theorem change_keepsFloorLaws_of_frame {f : State → State} {parts : List Part}
    (frame : ∀ t : State, t.keepsAllBut parts (f t)) (s : State) (out : Part.fu ∉ parts := by decide) :
    s.KeepsFloorLaws (change f s) :=
  change_keepsFloorLaws (fun t => (frame t).keepsFloorLaws out) s

theorem heard_keepsFloorLaws {sender : Byte} {deliver : Station → ReceiveStamp → State → State}
    (keeps : ∀ n r (t : State), t.KeepsFloorLaws (deliver n r t)) (s : State) :
    s.KeepsFloorLaws (change (accept sender deliver) s) :=
  change_keepsFloorLaws (accept_keepsFloorLaws keeps) s

theorem heard_keepsFloorLaws_of_frame {sender : Byte} {deliver : Station → ReceiveStamp → State → State}
    {parts : List Part} (frame : ∀ n r (t : State), t.keepsAllBut parts (deliver n r t)) (s : State)
    (out : Part.fu ∉ parts := by decide) : s.KeepsFloorLaws (change (accept sender deliver) s) :=
  heard_keepsFloorLaws (fun n r t => (frame n r t).keepsFloorLaws out) s

/-- R144, R154: no command takes the claim list or MIC-LIVE out of its law. -/
theorem exec_keeps_floor_laws (c : Instr) (s : State) : ∃ t, exec c s = .next t ∧ s.KeepsFloorLaws t := by
  cases c with
  | powerOn straps warning =>
    refine ⟨_, rfl, ?_⟩
    split
    · exact .refl s
    · exact powerOnReset_keepsFloorLaws _ _ s
  | rstAssert =>
    refine ⟨_, rfl, ?_⟩
    split
    · exact .of_silent rfl rfl
    · exact ⟨id, id⟩
  | rstRelease straps =>
    refine ⟨_, rfl, ?_⟩
    have released : s.KeepsFloorLaws { s with rst := false } := ⟨id, id⟩
    split
    · exact released.trans (endOfReset_keepsFloorLaws straps _)
    · exact released
  | configImageRead memory =>
    exact ⟨_, rfl, change_keepsFloorLaws (ite_keepsFloorLaws _ (imageRead_keepsFloorLaws memory)) s⟩
  | listeningEnd => exact ⟨_, rfl, change_keepsFloorLaws (ite_keepsFloorLaws _ enterRunning_keepsFloorLaws) s⟩
  | supplyWarning => exact ⟨_, rfl, ite_keepsFloorLaws State.powered warningAsserts_keepsFloorLaws s⟩
  | warningClears =>
    refine ⟨_, rfl, ?_⟩
    unfold warningClears
    dsimp only
    split
    · split <;> exact (setDs_frame s _).keepsFloorLaws
    · exact .refl s
  | warningReasserts => exact ⟨_, rfl, ite_keepsFloorLaws State.powered warningAsserts_keepsFloorLaws s⟩
  | clearTimerExpiry straps =>
    refine ⟨_, rfl, ?_⟩
    have reset : s.KeepsFloorLaws (warmReset .powerDip s) := .of_silent rfl rfl
    split
    · exact reset.trans (endOfReset_keepsFloorLaws straps _)
    · exact .refl s
  | supplyCollapse => exact ⟨_, rfl, ite_keepsFloorLaws State.powered (fun _ => .of_silent rfl rfl) s⟩
  | displayWord => exact ⟨_, rfl, (whenUp_frame (ite_frame _ fun t => setSp_frame t _) s).keepsFloorLaws⟩
  | beaconTimerExpiry =>
    exact ⟨_, rfl, change_keepsFloorLaws (ite_keepsFloorLaws _ fun t =>
      (setTb_frame t _).keepsFloorLaws.trans (requestBeacon_keepsFloorLaws _)) s⟩
  | schoolTimeBoundary =>
    refine ⟨_, rfl, change_keepsFloorLaws (fun t => ?_) s⟩
    split
    · exact (boundaryReached_frame _ t).keepsFloorLaws
    · exact .refl t
  | idleGapExpiry => exact ⟨_, rfl, change_keepsFloorLaws_of_frame (ite_frame _ lineQuiet_frame) s⟩
  | backOffEnd => exact ⟨_, rfl, change_keepsFloorLaws_of_frame (ite_frame _ beginTransmission_frame) s⟩
  | transmitComplete =>
    exact ⟨_, rfl, change_keepsFloorLaws (whileSending_keepsFloorLaws frameSent_keepsFloorLaws) s⟩
  | collision => exact ⟨_, rfl, change_keepsFloorLaws (whileSending_keepsFloorLaws frameCollided_keepsFloorLaws) s⟩
  | receiveAbort => exact ⟨_, rfl, change_keepsFloorLaws_of_frame receiveAbort_frame s⟩
  | frameRejected frame => exact ⟨_, rfl, change_keepsFloorLaws_of_frame (frameRejected_frame frame) s⟩
  | beacon sender body => exact ⟨_, rfl, heard_keepsFloorLaws (fun n r => beaconFrom_keepsFloorLaws n body r) s⟩
  | dayplan sender day code =>
    refine ⟨_, rfl, heard_keepsFloorLaws_of_frame (parts := [.bs]) (fun _ _ => ifLoaded_frame fun t => ?_) s⟩
    split
    · exact takeDayplan_frame _ _ t
    · exact t.keepsAllBut_refl _
  | removeOverride sender day =>
    exact ⟨_, rfl, heard_keepsFloorLaws_of_frame (fun _ _ => ifLoaded_frame (takeDayplan_frame _ _)) s⟩
  | shift sender day kind first last delta =>
    refine ⟨_, rfl, heard_keepsFloorLaws_of_frame (parts := [.bs]) (fun _ _ => ifLoaded_frame fun t => ?_) s⟩
    split
    · exact takeShift_frame _ _ _ _ _ t
    · exact t.keepsAllBut_refl _
  | cancel sender day first last =>
    exact ⟨_, rfl, heard_keepsFloorLaws_of_frame (fun _ _ => ifLoaded_frame (takeShift_frame _ _ _ _ _)) s⟩
  | clearAll sender day =>
    exact ⟨_, rfl, heard_keepsFloorLaws_of_frame (fun _ _ => ifLoaded_frame (takeShift_frame _ _ _ _ _)) s⟩
  | claim sender body =>
    exact ⟨_, rfl, heard_keepsFloorLaws (fun n _ => ifTaking_keepsFloorLaws (hearClaim_keepsFloorLaws n body)) s⟩
  | object sender claimant number reason =>
    exact ⟨_, rfl, heard_keepsFloorLaws (fun _ _ =>
      ifTaking_keepsFloorLaws (forStation_keepsFloorLaws fun c => hearObject_keepsFloorLaws c number)) s⟩
  | ready sender holder number readyMask refusedMask =>
    exact ⟨_, rfl, heard_keepsFloorLaws (fun n _ =>
      ifTaking_keepsFloorLaws (forStation_keepsFloorLaws fun h => hearReady_keepsFloorLaws n h number readyMask)) s⟩
  | release sender number reason =>
    exact ⟨_, rfl, heard_keepsFloorLaws (fun n _ => ifTaking_keepsFloorLaws (hearRelease_keepsFloorLaws n number)) s⟩
  | drillStart sender body =>
    exact ⟨_, rfl, heard_keepsFloorLaws_of_frame (fun _ _ => ifTaking_frame (takeOffer_frame _)) s⟩
  | silence sender initiator number =>
    exact ⟨_, rfl, heard_keepsFloorLaws_of_frame (fun _ _ =>
      ifTaking_frame (forStation_frame fun i => hearSilence_frame i number)) s⟩
  | muster sender initiator number elapsed =>
    exact ⟨_, rfl, heard_keepsFloorLaws_of_frame (fun n _ =>
      ifTaking_frame (forStation_frame fun i => hearMuster_frame n i number elapsed)) s⟩
  | drillEnd sender initiator number reason =>
    exact ⟨_, rfl, heard_keepsFloorLaws_of_frame (fun _ _ =>
      ifTaking_frame (forStation_frame fun i => hearDrillEnd_frame i number _)) s⟩
  | yield sender state =>
    exact ⟨_, rfl, heard_keepsFloorLaws (fun n _ t =>
      (peerYields_frame n state t).keepsFloorLaws.trans (ifTaking_keepsFloorLaws updateYield_keepsFloorLaws _)) s⟩
  | dialSet sender target line position =>
    exact ⟨_, rfl, heard_keepsFloorLaws_of_frame (fun _ _ =>
      ifTargeted_frame target (ifLoaded_frame (dialSet_frame line position))) s⟩
  | statusAsk sender target page =>
    exact ⟨_, rfl, heard_keepsFloorLaws (fun n _ => ite_keepsFloorLaws (fun t => targetsOwn t.own target)
      (ite_keepsFloorLaws _ (requestReply_keepsFloorLaws n page))) s⟩
  | statusReply sender asker page content => exact ⟨_, rfl, heard_keepsFloorLaws (fun _ _ t => .refl t) s⟩
  | invertNextReply sender target action line =>
    refine ⟨_, rfl, heard_keepsFloorLaws_of_frame (parts := [.ylc]) (fun _ _ => ifTargeted_frame target fun t => ?_) s⟩
    split
    · exact t.setYlc_frame _
    · exact t.keepsAllBut_refl _
  | lockSupervision sender target line =>
    refine ⟨_, rfl, heard_keepsFloorLaws_of_frame (parts := [.dsq]) (fun _ _ =>
      ifTargeted_frame target (ifTaking_frame fun t => ?_)) s⟩
    split
    · exact lockLine_frame _ t
    · exact t.keepsAllBut_refl _
  | unlock sender target line =>
    exact ⟨_, rfl, heard_keepsFloorLaws_of_frame (fun _ _ =>
      ifTargeted_frame target (ifTaking_frame unlockLine_frame)) s⟩
  | agingExpiry peer => exact ⟨_, rfl, change_keepsFloorLaws (ite_keepsFloorLaws _ (peerLost_keepsFloorLaws peer)) s⟩
  | spacingExpiry slot => exact ⟨_, rfl, change_keepsFloorLaws_of_frame (ite_frame _ (tryImpulse_frame slot)) s⟩
  | staggerExpiry => exact ⟨_, rfl, change_keepsFloorLaws State.KeepsFloorLaws.refl s⟩
  | widthExpiry line => exact ⟨_, rfl, change_keepsFloorLaws_of_frame (widthExpires_frame line) s⟩
  | gapExpiry line => exact ⟨_, rfl, change_keepsFloorLaws_of_frame (gapEnds_frame line) s⟩
  | chimeWidthExpiry => exact ⟨_, rfl, change_keepsFloorLaws chimeWidthEnds_keepsFloorLaws s⟩
  | chimeGapExpiry => exact ⟨_, rfl, change_keepsFloorLaws_of_frame chimeGapEnds_frame s⟩
  | overcurrent line => exact ⟨_, rfl, change_keepsFloorLaws_of_frame (overcurrentAt_frame line) s⟩
  | supervisionSlot reading =>
    exact ⟨_, rfl, change_keepsFloorLaws_of_frame (ite_frame _ (supervise_frame reading)) s⟩
  | entryDue => exact ⟨_, rfl, change_keepsFloorLaws_of_frame examineDue_frame s⟩
  | pageKeyPress key =>
    refine ⟨_, rfl, ?_⟩
    split
    · exact change_keepsFloorLaws (keyHeld_keepsFloorLaws key) s
    · exact setKey_keepsFloorLaws s _ _
  | pageKeyRelease key =>
    refine ⟨_, rfl, ?_⟩
    split
    · exact change_keepsFloorLaws (keyReleased_keepsFloorLaws key) s
    · exact setKey_keepsFloorLaws s _ _
  | refusalEnd key =>
    exact ⟨_, rfl, ite_keepsFloorLaws State.up
      (ite_keepsFloorLaws (fun t => reached (t.key key).refusalEnd t.now) (lampOff_keepsFloorLaws key)) s⟩
  | windowClose claimant => exact ⟨_, rfl, change_keepsFloorLaws (windowCloses_keepsFloorLaws claimant) s⟩
  | readyWaitEnd => exact ⟨_, rfl, change_keepsFloorLaws readyWaitEnds_keepsFloorLaws s⟩
  | holdEnd => exact ⟨_, rfl, change_keepsFloorLaws holdEnds_keepsFloorLaws s⟩
  | targetGraceExpiry => exact ⟨_, rfl, change_keepsFloorLaws graceExpires_keepsFloorLaws s⟩
  | drillKeyPress => exact ⟨_, rfl, change_keepsFloorLaws (ite_keepsFloorLaws _ pressDrillKey_keepsFloorLaws) s⟩
  | musterKeyPress => exact ⟨_, rfl, change_keepsFloorLaws (ite_keepsFloorLaws _ pressMusterKey_keepsFloorLaws) s⟩
  | keyArmed key => exact ⟨_, rfl, (whenUp_frame (armKey_frame key) s).keepsFloorLaws⟩
  | drillDeadline => exact ⟨_, rfl, change_keepsFloorLaws_of_frame (ite_frame _ checkPhase_frame) s⟩
  | firePanelChange asserted =>
    refine ⟨_, rfl, change_keepsFloorLaws (fun t => ?_) s⟩
    split
    · exact .refl t
    · exact contactChanges_keepsFloorLaws asserted t
  | writeComplete => exact ⟨_, rfl, (whenUp_frame writeEnds_frame s).keepsFloorLaws⟩
  | eraseComplete => exact ⟨_, rfl, (whenUp_frame eraseEnds_frame s).keepsFloorLaws⟩
  | startBitSeen bit => exact ⟨_, rfl, change_keepsFloorLaws_of_frame (startBit_frame bit) s⟩
  | delimiterRecognised => exact ⟨_, rfl, change_keepsFloorLaws_of_frame delimiter_frame s⟩

/-- Settles O7: a step is one millisecond or one command, and each keeps the laws. -/
theorem stepKeepsFloorLaws : Obligations.StepKeepsFloorLaws := by
  intro s t lawful h
  unfold step at h
  split at h
  · cases h
    exact (tick_frame s).keepsFloorLaws.lawful lawful
  · rename_i c rest _
    obtain ⟨u, ran, keeps⟩ := exec_keeps_floor_laws c { s with pending := rest }
    rw [ran] at h
    cases h
    exact keeps.lawful lawful

end Sys2Proof.Machine
end

section
/-! PROOF. The end of the own claim or floor (R142, R149, R154 to R156): OBJECT, PAGE_KEY_RELEASE, HOLD_END and
TARGET_GRACE_EXPIRY. -/

namespace Sys2Proof.Machine

-- one declaration at a time, as in the tests: the threads of a whole text's proofs do not fit the memory limit
set_option Elab.async false

/-! ## The own record ended -/

/-- R142, R154: the own record is IDLE, MIC-LIVE off and the chime idle, with the key of the record left as `input`. -/
structure State.OwnEnded (t : State) (k : KeyId) (input : KeyInput) : Prop where
  own : t.fu.own = none
  mic : t.fu.micLive = false
  chime : t.dsq.chime = .idle
  key : t.key k = input

section

variable {s t : State} {k : KeyId} {input : KeyInput}

/-- R90, R154: the record's return to IDLE writes the record and MIC-LIVE alone in the FU. -/
theorem ownIdle_fu (s : State) : (ownIdle s).fu = { s.fu with own := none, micLive := false } :=
  (cancelChime_frame ((s.setOwn none).setMic false)).part .fu

theorem ownIdle_ended (k : KeyId) (s : State) : (ownIdle s).OwnEnded k (s.key k) where
  own := by rw [ownIdle_fu]
  mic := by rw [ownIdle_fu]
  chime := cancelChime_chime _
  key := by
    rw [State.key, ownIdle_fu]
    rfl

theorem State.OwnEnded.setKey (h : t.OwnEnded k input) (i : KeyInput) : (t.setKey k i).OwnEnded k i :=
  ⟨h.own, h.mic, h.chime, t.setKey_key_same k i⟩

theorem State.OwnEnded.showRefusal (h : t.OwnEnded k input) :
    (showRefusal k t).OwnEnded k { input with refusalEnd := some (t.now + 2000) } :=
  h.key ▸ h.setKey _

theorem State.OwnEnded.lampOff (h : t.OwnEnded k input) :
    (lampOff k t).OwnEnded k { input with refusalEnd := none } :=
  h.key ▸ h.setKey _

/-- R143: the floor that leaves the view takes nothing else of the FU with it. -/
theorem State.OwnEnded.ownFloorLeaves (h : t.OwnEnded k input) (number : Byte) :
    (ownFloorLeaves number t).OwnEnded k input := by
  have fu := (ownFloorLeaves_spec number t).1
  have dsq : (Machine.ownFloorLeaves number t).dsq = t.dsq := (ownFloorLeaves_frame number t).part .dsq
  have key : (Machine.ownFloorLeaves number t).key k = t.key k :=
    (congrArg (fun f : FloorUnit => f.inputs[k]) fu).trans rfl
  exact ⟨by rw [fu]; exact h.own, by rw [fu]; exact h.mic, by rw [dsq]; exact h.chime, key.trans h.key⟩

/-- R26, R30: with no own record, a request tells the FU nothing. -/
theorem State.OwnEnded.enqueue (h : t.OwnEnded k input) (f : OutFrame) : (enqueue f t).OwnEnded k input := by
  have same := enqueue_frame_of_unclaiming (s := t) (by rw [h.own]; exact nofun) f
  have fu : (Machine.enqueue f t).fu = t.fu := same.part .fu
  have dsq : (Machine.enqueue f t).dsq = t.dsq := same.part .dsq
  exact ⟨by rw [fu]; exact h.own, by rw [fu]; exact h.mic, by rw [dsq]; exact h.chime,
    by rw [State.key, fu]; exact h.key⟩

/-- What a step ends with leaves the FU and the chime. -/
theorem State.OwnEnded.asOneChange {f : State → State} (h : (f s).OwnEnded k input) :
    (asOneChange f s).OwnEnded k input := by
  have fu : (Machine.asOneChange f s).fu = (f s).fu := (asOneChange_frame f s).part .fu
  have dsq := (asOneChange_moves f s).dsq
  exact ⟨by rw [fu]; exact h.own, by rw [fu]; exact h.mic, by rw [dsq]; exact h.chime,
    by rw [State.key, fu]; exact h.key⟩

/-- R142, R147: a request leaves a key armed and held as it was; it may show a refusal. -/
theorem enqueue_key (f : OutFrame) (s : State) (k : KeyId) :
    ((enqueue f s).key k).armed = (s.key k).armed ∧ ((enqueue f s).key k).held = (s.key k).held := by
  have shown (j : KeyId) (u : State) : ((showRefusal j u).key k).armed = (u.key k).armed ∧
      ((showRefusal j u).key k).held = (u.key k).held := by
    unfold showRefusal
    by_cases same : k = j
    · subst same
      rw [State.setKey_key_same]
      exact ⟨rfl, rfl⟩
    · rw [State.setKey_key_ne _ _ _ _ same]
      exact ⟨rfl, rfl⟩
  have lost (g : OutFrame) (u : State) : ((reportLost g u).key k).armed = (u.key k).armed ∧
      ((reportLost g u).key k).held = (u.key k).held := by
    unfold reportLost claimLost
    split
    · split
      · split
        · exact shown _ (u.setOwn none)
        · exact ⟨rfl, rfl⟩
      · exact ⟨rfl, rfl⟩
    · exact ⟨rfl, rfl⟩
  unfold enqueue
  split
  · exact lost f s
  · split
    · exact ⟨rfl, rfl⟩
    · split
      · exact lost f (s.setYlc _)
      · dsimp only
        split
        · exact lost _ ((s.setYlc _).setYlc _)
        · exact ⟨rfl, rfl⟩

/-- R155, R156: the own claim or floor ends with a RELEASE, the lamp of its key off. -/
theorem ownEnds_spec (o : OwnClaim) (why : ReleaseReason) (s : State) :
    let t := lampOff o.key (ownIdle (queueRelease o.number why s))
    t.OwnEnded o.key { s.key o.key with refusalEnd := none } ∧
    t.fu.claims = s.fu.claims ∧ t.fu.view = s.fu.view ∧
    s.keepsAllBut [.ylc, .fu, .dsq] t ∧
    (s.running = true → s.ylc.queue.length < 8 → t.queued (.release o.number (releaseReasonByte why))) := by
  intro t
  have asked := queueRelease_frame o.number why s
  have ended := (ownIdle_frame (queueRelease o.number why s)).andThen (lampOff_frame o.key _)
  obtain ⟨armed, held⟩ := enqueue_key (.release o.number (releaseReasonByte why)) s o.key
  obtain ⟨view, claims⟩ := enqueue_fu (.release o.number (releaseReasonByte why)) s
  have fu := ownIdle_fu (queueRelease o.number why s)
  have key : ({ (queueRelease o.number why s).key o.key with refusalEnd := none } : KeyInput) =
      { s.key o.key with refusalEnd := none } := by
    rw [KeyInput.mk.injEq]
    exact ⟨armed, held, rfl⟩
  refine ⟨key ▸ (ownIdle_ended o.key _).lampOff, ?_, ?_, (asked.andThen ended).within, fun running room => ?_⟩
  · exact (congrArg FloorUnit.claims fu).trans claims
  · exact (congrArg FloorUnit.view fu).trans view
  · exact ended.queued (enqueue_queued running room)

/-- R143: the own floor that the view is HELD by stands nowhere once it has left. -/
theorem ownFloorLeaves_of_held {n : Station} {number : Byte} (own : s.own = some n) (view : s.viewIs n number = true) :
    (ownFloorLeaves number s).fu.view = none ∧ (ownFloorLeaves number s).nowhere (Owner.isFloor n number) := by
  obtain ⟨v, held, rfl, rfl⟩ := held_of_viewIs view
  have left : ownFloorLeaves v.number s = floorLeavesView s := by
    unfold ownFloorLeaves floorLeaves
    rw [own]
    exact if_pos view
  obtain ⟨fu, gone⟩ := floorLeavesView_spec held
  rw [left, fu]
  exact ⟨rfl, gone⟩

/-- The view through what a step ends with. -/
theorem asOneChange_viewIs (f : State → State) (s : State) (n : Station) (number : Byte) :
    (asOneChange f s).viewIs n number = (f s).viewIs n number := by
  rw [State.viewIs, (asOneChange_frame f s).part .fu]
  rfl

end

/-! ## OBJECT -/

/-- R149: what an OBJECT of a peer does in a station that takes it. -/
theorem exec_object {sender claimant number reason : Byte} {n c : Station} {s : State} (hears : s.hears sender n)
    (taking : s.taking = true) (named : stationOfByte claimant = some c) :
    exec (.object sender claimant number reason) s =
      .next (asOneChange (fun _ => hearObject c number (s.heardFrom n)) s) := by
  have delivered : ifTaking (forStation claimant fun c => hearObject c number) (s.heardFrom n) =
      hearObject c number (s.heardFrom n) := by
    simp [ifTaking, forStation, taking, named]
  refine (heard_eq_next hears _).trans ?_
  rw [← delivered]

/-- R149: an OBJECT that leaves the zones. -/
theorem exec_object_of_za {sender claimant number reason : Byte} {n c : Station} {s t : State} (hears : s.hears sender n)
    (taking : s.taking = true) (named : stationOfByte claimant = some c)
    (effect : hearObject c number (s.heardFrom n) = t) (zones : t.za = s.za) :
    exec (.object sender claimant number reason) s = .next (endOfStep t) := by
  rw [exec_object hears taking named, effect, asOneChange_of_za zones]

theorem hearObject_of_listed {c : Station} {number : Byte} {s : State}
    (listed : ∃ e ∈ s.fu.claims, e.claimant = c ∧ e.number = number) :
    hearObject c number s = s.setClaims (s.fu.claims.map fun e =>
      if e.claimant = c ∧ e.number = number then { e with objected := true } else e) := by
  have found : (s.fu.claims.any fun e => e.claimant == c && e.number == number) = true := by simpa using listed
  unfold hearObject
  rw [if_pos found]
  simp only [Bool.and_eq_true, beq_iff_eq]

section

variable {c : Station} {number : Byte} {s : State}

theorem hearObject_of_own {o : OwnClaim} (unlisted : ∀ e ∈ s.fu.claims, ¬(e.claimant = c ∧ e.number = number))
    (record : s.fu.own = some o) (own : s.own = some c) (number_ : o.number = number)
    (floor : o.phase.holdsFloor = true) : hearObject c number s =
      queueRelease number .withdrawn (ownFloorLeaves number (showRefusal o.key (ownIdle s))) := by
  have absent : ¬(s.fu.claims.any fun e => e.claimant == c && e.number == number) = true := by simpa using unlisted
  unfold hearObject
  rw [if_neg absent, record]
  simp [own, number_, floor]

theorem hearObject_of_other (unlisted : ∀ e ∈ s.fu.claims, ¬(e.claimant = c ∧ e.number = number))
    (other : ∀ o, s.fu.own = some o → ¬(s.own = some c ∧ o.number = number ∧ o.phase.holdsFloor = true)) :
    hearObject c number s = s := by
  have absent : ¬(s.fu.claims.any fun e => e.claimant == c && e.number == number) = true := by simpa using unlisted
  unfold hearObject
  rw [if_neg absent]
  split
  · rename_i o record
    exact if_neg (by simpa [and_assoc] using other o record)
  · rfl

/-- R149: what the own floor objected to leaves. -/
theorem objected_spec (own : s.own = some c) (k : KeyId) :
    let t := queueRelease number .withdrawn (ownFloorLeaves number (showRefusal k (ownIdle s)))
    t.OwnEnded k { s.key k with refusalEnd := some (s.now + 2000) } ∧ t.viewIs c number = false ∧
    (s.viewIs c number = true → t.nowhere (Owner.isFloor c number)) ∧
    (s.running = true → s.ylc.queue.length < 8 → t.queued (.release number 2#8)) := by
  intro t
  have idle := ownIdle_frame s
  have shown := idle.andThen (showRefusal_frame k (ownIdle s))
  have left := shown.andThen (ownFloorLeaves_frame number _)
  have asked := queueRelease_frame number .withdrawn (ownFloorLeaves number (showRefusal k (ownIdle s)))
  have own' : (showRefusal k (ownIdle s)).own = some c := (own_of_sp (shown.part .sp)).trans own
  have view : (showRefusal k (ownIdle s)).fu.view = s.fu.view :=
    (congrArg FloorUnit.view (ownIdle_fu s)).trans rfl
  have ended := (((ownIdle_ended k s).showRefusal.ownFloorLeaves number).enqueue
    (.release number (releaseReasonByte .withdrawn)))
  rw [now_of_tb (idle.part .tb)] at ended
  refine ⟨ended, ?_, fun held => ?_, fun running room => ?_⟩
  · refine Eq.trans ?_ ((ownFloorLeaves_spec number (showRefusal k (ownIdle s))).2 c own')
    rw [State.viewIs, State.viewIs, show t.fu.view = _ from (enqueue_fu _ _).1]
  · refine State.nowhere.frame (ownFloorLeaves_of_held own' ?_).2 asked
    rw [State.viewIs, view]
    exact held
  · refine enqueue_queued ?_ (by rw [left.part .ylc]; exact room)
    rw [State.running, left.part .sp, left.part .ds]
    exact running

end

/-- Settles O38: a listed claim is marked, the own floor ends, and nothing else is named by an OBJECT. -/
theorem objectMarksTheClaimOrEndsTheFloor : Obligations.ObjectMarksTheClaimOrEndsTheFloor := by
  unfold Obligations.ObjectMarksTheClaimOrEndsTheFloor
  intro sender claimant number reason n s hears taking
  refine ⟨fun unnamed => ?_, fun c named => ⟨fun listed => ?_, fun unlisted => ⟨fun o record own number_ floor => ?_,
    fun other => ?_⟩⟩⟩
  · have delivered : ifTaking (forStation claimant fun c => hearObject c number) (s.heardFrom n) = s.heardFrom n := by
      simp [ifTaking, forStation, unnamed]
    refine (heard_of_za hears _ ?_).trans (by rw [delivered])
    rw [delivered]
    rfl
  · exact exec_object_of_za hears taking named (hearObject_of_listed (s := s.heardFrom n) listed) rfl
  · obtain ⟨ended, out, gone, queued⟩ := objected_spec (s := s.heardFrom n) (number := number) own o.key
    have effect := hearObject_of_own (s := s.heardFrom n) unlisted record own number_ floor
    rw [← effect] at ended out gone queued
    have after := State.OwnEnded.asOneChange (f := fun _ => hearObject c number (s.heardFrom n)) (s := s) ended
    refine ⟨_, exec_object hears taking named, after.own, after.mic, after.chime, by rw [after.key]; rfl, ?_, fun held => ?_,
      fun running room => ?_⟩
    · exact (asOneChange_viewIs _ s c number).trans out
    · exact (gone held).asOneChange (f := fun _ => hearObject c number (s.heardFrom n)) fun _ => rfl
    · exact (asOneChange_sameFrames (fun _ => hearObject c number (s.heardFrom n)) s).queued (queued running room)
  · exact exec_object_of_za hears taking named (hearObject_of_other (s := s.heardFrom n) unlisted other) rfl

/-! ## PAGE_KEY_RELEASE -/

section

variable {k : KeyId} {n : Station} {o : OwnClaim} {s : State}

theorem keyReleased_of_own (record : s.fu.own = some o) (key : o.key = k) (taking : s.taking = true) :
    keyReleased k s = releaseOwnKey o (s.setKey k { s.key k with held := false, armed := true }) := by
  have record' : (s.setKey k { s.key k with held := false, armed := true }).fu.own = some o := record
  simp [keyReleased, record', key, taking]

theorem keyReleased_of_other (other : ∀ o, s.fu.own = some o → o.key ≠ k) :
    keyReleased k s = s.setKey k { s.key k with held := false, armed := true } := by
  unfold keyReleased
  dsimp only
  split
  · rename_i o record
    have another : o.key ≠ k := other o record
    simp [another]
  · rfl

/-- R155: the release of the key of the own claim or floor. -/
theorem releaseOwnKey_spec (own : s.own = some n) :
    let t := releaseOwnKey o s
    t.OwnEnded o.key { s.key o.key with refusalEnd := none } ∧
    (o.phase = .claiming → t.fu.claims = s.fu.claims.filter (fun e => e.claimant != n) ∧ t.fu.view = s.fu.view) ∧
    (o.phase ≠ .claiming → t.viewIs n o.number = false ∧
      (s.viewIs n o.number = true → t.nowhere (Owner.isFloor n o.number))) ∧
    (s.running = true → s.ylc.queue.length < 8 →
      t.queued (.release o.number (if o.phase = .claiming then 2#8 else 1#8))) := by
  intro t
  by_cases claiming : o.phase = .claiming
  · obtain ⟨ended, claims, view, frame, queued⟩ := ownEnds_spec o .withdrawn s
    have made : t = claimLeaves n (lampOff o.key (ownIdle (queueRelease o.number .withdrawn s))) := by
      have own' : (lampOff o.key (ownIdle (queueRelease o.number .withdrawn s))).own = some n :=
        (own_of_sp (frame.part .sp)).trans own
      simp only [t, releaseOwnKey, claiming, ownClaimLeaves, own']
    rw [made]
    refine ⟨⟨ended.own, ended.mic, ended.chime, ended.key⟩, fun _ => ⟨?_, view⟩, fun not => absurd claiming not,
      fun running room => ?_⟩
    · exact congrArg (List.filter fun e => e.claimant != n) claims
    · rw [if_pos claiming]
      exact (claimLeaves_frame n _).queued (queued running room)
  · obtain ⟨ended, -, view, frame, queued⟩ := ownEnds_spec o .ended s
    have made : t = ownFloorLeaves o.number (lampOff o.key (ownIdle (queueRelease o.number .ended s))) := by
      cases phase : o.phase with
      | claiming => exact absurd phase claiming
      | _ => simp only [t, releaseOwnKey, phase]
    have own' : (lampOff o.key (ownIdle (queueRelease o.number .ended s))).own = some n :=
      (own_of_sp (frame.part .sp)).trans own
    rw [made]
    refine ⟨ended.ownFloorLeaves o.number, fun is => absurd is claiming, fun _ => ⟨?_, fun held => ?_⟩,
      fun running room => ?_⟩
    · exact (ownFloorLeaves_spec o.number _).2 n own'
    · refine (ownFloorLeaves_of_held own' ?_).2
      rw [State.viewIs, view]
      exact held
    · rw [if_neg claiming]
      exact (ownFloorLeaves_frame o.number _).queued (queued running room)

end

theorem exec_pageKeyRelease {k : KeyId} {s t : State} (up : s.up = true) (effect : keyReleased k s = t) :
    exec (.pageKeyRelease k) s = .next (asOneChange (fun _ => t) s) := by
  have released : exec (.pageKeyRelease k) s = .next (change (keyReleased k) s) :=
    congrArg Host.Outcome.next (if_pos up)
  rw [released, change_of_up up, asOneChange_eq effect]

/-- Settles O42: the key is armed first, and then the own claim or floor ends, if the key is that of the record. -/
theorem pageKeyReleaseEndsTheOwnClaim : Obligations.PageKeyReleaseEndsTheOwnClaim := by
  unfold Obligations.PageKeyReleaseEndsTheOwnClaim
  intro k n s up own
  refine ⟨fun o record key taking => ?_, fun other => ?_⟩
  · subst key
    have ran := exec_pageKeyRelease up (keyReleased_of_own record rfl taking)
    obtain ⟨ended, claim, floor, queued⟩ :=
      releaseOwnKey_spec (o := o) (s := s.setKey o.key { s.key o.key with held := false, armed := true }) own
    rw [State.setKey_key_same] at ended
    generalize releaseOwnKey o (s.setKey o.key { s.key o.key with held := false, armed := true }) = u at *
    have after := State.OwnEnded.asOneChange (f := fun _ => u) (s := s) ended
    have fu : (asOneChange (fun _ => u) s).fu = u.fu := (asOneChange_frame (fun _ => u) s).part .fu
    refine ⟨_, ran, after.own, after.mic, after.chime, after.key, fun claiming => ?_, fun holds => ?_,
      fun running room => ?_⟩
    · rw [fu]
      exact claim claiming
    · obtain ⟨out, gone⟩ := floor holds
      refine ⟨(asOneChange_viewIs _ s n o.number).trans out, fun held => ?_⟩
      exact (gone held).asOneChange (f := fun _ => u) fun _ => rfl
    · exact (asOneChange_sameFrames (fun _ => u) s).queued (queued running room)
  · rw [exec_pageKeyRelease up (keyReleased_of_other other), asOneChange_of_za rfl]
    rfl

/-! ## HOLD_END and TARGET_GRACE_EXPIRY -/

/-- Settles O44: the own floor ends as by its key, with another reason; a peer's leaves the view. -/
theorem holdOfAFloorEnds : Obligations.HoldOfAFloorEnds := by
  unfold Obligations.HoldOfAFloorEnds
  intro v n s up own view
  refine ⟨fun o holder record number floor out => ?_, fun foreign out => ?_⟩
  · have effect : holdEnds s = ownFloorLeaves o.number (lampOff o.key (ownIdle (queueRelease o.number .expired s))) := by
      simp [holdEnds, view, record, own, holder, floor, out, ownHoldEnds]
    have ran : exec .holdEnd s = .next (change holdEnds s) := rfl
    rw [change_of_up up, asOneChange_eq effect] at ran
    obtain ⟨ended, -, same, frame, queued⟩ := ownEnds_spec o .expired s
    generalize lampOff o.key (ownIdle (queueRelease o.number .expired s)) = u at *
    have held : u.viewIs n v.number = true := by simp [State.viewIs, same, view, holder]
    rw [number] at ran queued
    obtain ⟨left, gone⟩ := ownFloorLeaves_of_held ((own_of_sp (frame.part .sp)).trans own) held
    have after := State.OwnEnded.asOneChange (f := fun _ => ownFloorLeaves v.number u) (s := s)
      (ended.ownFloorLeaves v.number)
    refine ⟨_, ran, after.own, after.mic, after.chime, by rw [after.key], ?_, ?_, fun running room => ?_⟩
    · rw [(asOneChange_frame (fun _ => ownFloorLeaves v.number u) s).part .fu]
      exact left
    · exact gone.asOneChange (f := fun _ => ownFloorLeaves v.number u) fun _ => rfl
    · exact (asOneChange_sameFrames (fun _ => ownFloorLeaves v.number u) s).queued
        ((ownFloorLeaves_frame v.number u).queued (queued running room))
  · have effect : graceExpires s = floorLeavesView s := by
      have peers : s.own ≠ some v.holder := fun same => foreign (Option.some.inj (own.symm.trans same)).symm
      unfold graceExpires
      rw [view]
      exact if_pos ⟨peers, out⟩
    have ran : exec .targetGraceExpiry s = .next (change graceExpires s) := rfl
    rw [change_of_up up, asOneChange_eq effect] at ran
    obtain ⟨left, gone⟩ := floorLeavesView_spec view
    have frame := asOneChange_frame (fun _ => floorLeavesView s) s
    refine ⟨_, ran, (frame.part .fu).trans left, ?_, ((floorLeavesView_frame s).andThen frame).within⟩
    exact gone.asOneChange (f := fun _ => floorLeavesView s) fun _ => rfl

end Sys2Proof.Machine
end

section
/-! PROOF. PAGE_KEY_PRESS, REFUSAL_END and the lamps of the page keys (R142, R145, R146, R161). -/

namespace Sys2Proof.Machine

-- one declaration at a time, as in the tests: the threads of a whole text's proofs do not fit the memory limit
set_option Elab.async false

/-! ## A press refused or accepted -/

theorem setKey_setKey (s : State) (k : KeyId) (i j : KeyInput) : (s.setKey k i).setKey k j = s.setKey k j := by
  simp [State.setKey]

/-- R146: the conditions that refuse a press. -/
theorem pressRefused_iff (s : State) (own : Station) (k : PageKey) : s.pressRefused own k = true ↔
    s.running = false ∨ k.targets = [] ∨ s.fu.own ≠ none ∨ s.dru.yielding = true ∨
    (s.drillRunning = true ∧ k.cls = .general) ∨
    (∃ v, s.fu.view = some v ∧ v.holder ≠ own ∧ (v.cls = .urgent ∨ k.cls = .general)) ∨
    ∃ e ∈ s.fu.claims, outranks e.cls e.claimant k.cls own = true := by
  unfold State.pressRefused
  simp only [Bool.or_eq_true, or_assoc, Bool.not_eq_true', List.isEmpty_iff, Option.isSome_iff_ne_none,
    Bool.and_eq_true, beq_iff_eq, List.any_eq_true]
  cases s.fu.view with
  | none => simp
  | some v => simp [classAtOrAbove_iff]

section

variable {k : KeyId} {n : Station} {s : State}

/-- R142: a key armed by a release, or by standing open for the first 50 ms. -/
theorem keyArmed_of_armed (armed : (s.key k).armed = true ∨ 100 ≤ s.tb.timer) (free : (s.key k).held = false) :
    s.keyArmed k = true := by
  unfold State.keyArmed State.levelBegan State.now Config.debounceMs
  rw [free, Bool.or_eq_true]
  refine armed.imp_right fun late => ?_
  rw [Bool.not_false, Bool.true_and, decide_eq_true_eq]
  omega

/-- R142: a key held from the first 50 ms on is not armed. -/
theorem keyArmed_of_unarmed (unarmed : (s.key k).armed = false) (early : s.tb.timer < 100) : s.keyArmed k = false := by
  have began : ¬ Config.debounceMs ≤ s.levelBegan := by
    unfold State.levelBegan State.now Config.debounceMs
    omega
  simp [State.keyArmed, unarmed, began]

/-- R142, R146: a press of an armed key. -/
theorem keyHeld_of_armed (armed : s.keyArmed k = true) (free : (s.key k).held = false) (taking : s.taking = true) :
    keyHeld k s = pressKey k (s.setKey k { s.key k with armed := true, held := true }) := by
  simp [keyHeld, armed, free, taking]

/-- R142: a press of a key that is not armed. -/
theorem keyHeld_of_unarmed (unarmed : s.keyArmed k = false) (free : (s.key k).held = false) :
    keyHeld k s = s.setKey k { s.key k with armed := false, held := true } := by
  simp [keyHeld, unarmed, free]

theorem pressKey_of_refused (own : s.own = some n) (refused : s.pressRefused n s.fu.keys[k] = true) :
    pressKey k s = showRefusal k s := by
  unfold pressKey
  rw [own]
  exact if_pos refused

/-- R146: the own record is CLAIMING and its CLAIM is asked for. -/
theorem pressKey_of_accepted (own : s.own = some n) (accepted : ¬ s.pressRefused n s.fu.keys[k] = true) :
    pressKey k s = enqueue (.claim (s.claimOf n k s.fu.keys[k]).body)
      { s with fu := { s.fu with
          own := some (s.claimOf n k s.fu.keys[k]), counter := (s.claimOf n k s.fu.keys[k]).number } } := by
  unfold pressKey
  rw [own]
  exact if_neg accepted

/-- R146: PAGE_KEY_PRESS with an effect that is known and leaves the zones. -/
theorem exec_pageKeyPress {t : State} (up : s.up = true) (effect : keyHeld k s = t) (zones : t.za = s.za) :
    exec (.pageKeyPress k) s = .next (endOfStep t) := by
  have pressed : exec (.pageKeyPress k) s = .next (change (keyHeld k) s) := congrArg Host.Outcome.next (if_pos up)
  rw [pressed]
  exact change_eq_endOfStep up effect zones

end

/-! ## The lamps -/

theorem refusalShown_iff (s : State) (k : KeyId) :
    s.refusalShown k = true ↔ ∃ e, (s.key k).refusalEnd = some e ∧ s.now < e := by
  unfold State.refusalShown
  cases (s.key k).refusalEnd <;> simp

section

variable {k : KeyId} {s : State}

/-- R161: outside LISTENING and RUNNING the lamps are off. -/
theorem lamp_of_not_taking (out : s.up = false ∨ s.taking = false) : s.lamp k = .off := by
  unfold State.lamp
  rcases out with out | out <;> simp [out]

theorem ownOfKey_of_own {o : OwnClaim} (record : s.fu.own = some o) (key : o.key = k) : s.ownOfKey k = some o := by
  simp [State.ownOfKey, record, key]

theorem ownOfKey_of_other (other : ∀ o, s.fu.own = some o → o.key ≠ k) : s.ownOfKey k = none := by
  simpa [State.ownOfKey, Option.filter_eq_none_iff] using other

/-- R142: a slow flash is that of the own record of the key. -/
theorem own_of_slowFlash (flash : s.lamp k = .slowFlash) : ∃ o, s.ownOfKey k = some o ∧
    (o.phase = .claiming ∨ o.phase = .gathering) ∧ s.up = true ∧ s.taking = true := by
  by_cases shows : s.up = true ∧ s.taking = true
  · rw [lamp_of_taking s k shows.1 shows.2] at flash
    cases record : s.ownOfKey k with
    | none =>
      rw [record] at flash
      dsimp only [Option.map_none] at flash
      split at flash <;> cases flash
    | some o =>
      rw [record] at flash
      refine ⟨o, rfl, ?_, shows⟩
      cases phase : o.phase <;> simp [phase] at flash ⊢
  · rw [lamp_of_not_taking (by simpa [or_iff_not_imp_left] using shows)] at flash
    cases flash

/-- R142: a fast flash is that of a refusal, with no own record of the key. -/
theorem unowned_of_fastFlash (flash : s.lamp k = .fastFlash) :
    s.ownOfKey k = none ∧ s.up = true ∧ s.taking = true := by
  by_cases shows : s.up = true ∧ s.taking = true
  · rw [lamp_of_taking s k shows.1 shows.2] at flash
    cases record : s.ownOfKey k with
    | none => exact ⟨rfl, shows⟩
    | some o =>
      rw [record] at flash
      cases phase : o.phase <;> simp [phase] at flash
  · rw [lamp_of_not_taking (by simpa [or_iff_not_imp_left] using shows)] at flash
    cases flash

/-- The state at another moment of the station timer. -/
def State.atTimer (s : State) (timer : Nat) : State := { s with tb := { s.tb with timer } }

theorem lampOn_of_slowFlash (flash : s.lamp k = .slowFlash) :
    ∃ phase : Nat, ∀ timer, (s.atTimer timer).lampOn k = decide ((phase + timer) % 1000 < 500) := by
  obtain ⟨o, record, phase, up, taking⟩ := own_of_slowFlash flash
  refine ⟨Config.slowFlashPhase k o.number, fun timer => ?_⟩
  have record' : (s.atTimer timer).ownOfKey k = some o := record
  have same : (s.atTimer timer).lamp k = .slowFlash := by
    rw [lamp_of_taking (s.atTimer timer) k up taking, record']
    rcases phase with phase | phase <;> simp [phase]
  rw [State.lampOn, same, State.flashPhase, record']
  rfl

theorem lampOn_of_fastFlash (flash : s.lamp k = .fastFlash) :
    ∃ phase : Nat, ∀ timer e, (s.key k).refusalEnd = some e → timer < e →
      (s.atTimer timer).lampOn k = decide ((phase + timer) % 250 < 125) := by
  obtain ⟨unowned, up, taking⟩ := unowned_of_fastFlash flash
  refine ⟨Config.fastFlashPhase k ((s.key k).refusalEnd.getD 0), fun timer e ends early => ?_⟩
  have unowned' : (s.atTimer timer).ownOfKey k = none := unowned
  have shown : (s.atTimer timer).refusalShown k = true := (refusalShown_iff _ k).mpr ⟨e, ends, early⟩
  have same : (s.atTimer timer).lamp k = .fastFlash := by
    rw [lamp_of_taking (s.atTimer timer) k up taking, unowned']
    exact if_pos shown
  rw [State.lampOn, same, State.flashPhase, unowned']
  rfl

end

/-- Settles O41: the press by the cases of `pressKey`, and the lamp by the own record of the key and its refusal. -/
theorem pageKeyPressClaimsOrIsRefused : Obligations.PageKeyPressClaimsOrIsRefused := by
  unfold Obligations.PageKeyPressClaimsOrIsRefused
  refine ⟨fun k n s up own => ⟨fun taking armed free => ?_, fun unarmed early free => ?_, fun out => ?_⟩, fun k s =>
    ⟨lamp_of_not_taking, fun up taking => ⟨fun o record key => ?_, fun other => ?_⟩, fun steady => ?_, fun off => ?_,
      lampOn_of_slowFlash, lampOn_of_fastFlash⟩⟩
  · have held := keyHeld_of_armed (keyArmed_of_armed armed free) free taking
    have refusal := pressRefused_iff s n s.fu.keys[k]
    refine ⟨fun refused => exec_pageKeyPress up ?_ rfl, fun accepted room => ?_⟩
    · rw [held, pressKey_of_refused (s := s.setKey k _) own (refusal.mpr refused), showRefusal, setKey_setKey, State.setKey_key_same]
      rfl
    · have running : s.running = true := by
        simpa using fun stopped => accepted (.inl stopped)
      refine ⟨s.claimOf n k s.fu.keys[k], rfl, rfl, rfl, rfl, rfl, rfl, rfl, rfl, rfl, fun m => ?_,
        exec_pageKeyPress up ?_ rfl⟩
      · simp [State.claimOf]
      · rw [held, pressKey_of_accepted (s := s.setKey k _) own fun refused => accepted (refusal.mp refused)]
        exact enqueue_of_room (takesFrame_of_running running) room
  · refine exec_pageKeyPress up ((keyHeld_of_unarmed (keyArmed_of_unarmed unarmed early) free).trans ?_) rfl
    rw [← unarmed]
    rfl
  · exact congrArg Host.Outcome.next ((whenUp_of_up up).trans (if_pos out))
  · rw [lamp_of_taking s k up taking, ownOfKey_of_own record key]
    refine ⟨fun phase => ?_, fun phase => ?_⟩ <;> rcases phase with phase | phase <;> simp [phase]
  · rw [lamp_of_taking s k up taking, ownOfKey_of_other other]
    exact ⟨fun shown => if_pos ((refusalShown_iff s k).mpr shown),
      fun hidden => if_neg fun shown => hidden ((refusalShown_iff s k).mp shown)⟩
  · rw [State.lampOn, steady]
    rfl
  · rw [State.lampOn, off]
    rfl

end Sys2Proof.Machine
end

section
/-! PROOF. CLAIM (R144, R147, R148): the list that the claim comes to join, the sender's other floor, and the holder's
OBJECT. -/

namespace Sys2Proof.Machine

-- one declaration at a time, as in the tests: the threads of a whole text's proofs do not fit the memory limit
set_option Elab.async false

/-! ## The lowest-ranked claim -/

/-- R144: an entry that every other entry outranks is the lowest-ranked. -/
theorem lowestRanked_of_lowest {list : List ClaimEntry} {low : ClaimEntry} (mem : low ∈ list)
    (lowest : ∀ x ∈ list, x = low ∨ x.outranks low = true) : lowestRanked list = some low := by
  induction list with
  | nil => cases mem
  | cons a rest ih =>
    unfold lowestRanked
    by_cases below : low ∈ rest
    · rw [ih below fun x hx => lowest x (List.mem_cons_of_mem _ hx)]
      dsimp only
      split
      · rfl
      · rename_i higher
        rcases lowest a List.mem_cons_self with same | outranks
        · rw [same]
        · exact absurd outranks higher
    · have same : low = a := (List.mem_cons.mp mem).resolve_right below
      subst same
      cases rest_ : lowestRanked rest with
      | none => rfl
      | some b =>
        have inRest : b ∈ rest := lowestRanked_mem rest_
        have above : b.outranks low = true :=
          (lowest b (List.mem_cons_of_mem _ inRest)).resolve_left fun same => below (same ▸ inRest)
        exact if_neg (by simp [ClaimEntry.outranks, outranks_asymm above])

/-- R144: at a full list the claim takes the place of the lowest-ranked entry, when it outranks it. -/
theorem joinList_of_full {c low : ClaimEntry} {list : List ClaimEntry} (new : ∀ e ∈ list, e.claimant ≠ c.claimant)
    (full : 4 ≤ list.length) (mem : low ∈ list) (lowest : ∀ x ∈ list, x = low ∨ x.outranks low = true) :
    joinList c list =
      if c.outranks low then (list.filter (fun e => e.claimant != low.claimant) ++ [c], some low, true)
      else (list, none, false) := by
  have unknown : (list.any fun e => e.claimant == c.claimant) = false := by
    simpa using new
  unfold joinList
  rw [unknown, if_neg (by simp), if_neg (by simpa [Config.claimLimit] using full), lowestRanked_of_lowest mem lowest]

/-! ## A claim that comes to join -/

section

variable {c low : ClaimEntry} {o : OwnClaim} {s : State}

theorem ownClaimWithdrawn_of_unclaiming (free : ∀ o, s.fu.own = some o → o.phase ≠ .claiming) (number : Byte) :
    ownClaimWithdrawn number s = s := by
  unfold ownClaimWithdrawn
  split
  · rename_i o own
    have floor : o.phase ≠ .claiming := free o own
    simp [floor]
  · rfl

/-- R147: with no own claim under way, a claim that comes to join writes the list alone. -/
theorem joinClaim_of_unclaiming (free : ∀ o, s.fu.own = some o → o.phase ≠ .claiming) (c : ClaimEntry) :
    joinClaim c s = s.setClaims (joinList c s.fu.claims).1 := by
  have stays (number : Byte) (list : List ClaimEntry) :
      ownClaimWithdrawn number (s.setClaims list) = s.setClaims list :=
    ownClaimWithdrawn_of_unclaiming (s := s.setClaims list) free number
  unfold joinClaim
  split
  rename_i made
  rw [made]
  split <;> simp [stays]

/-- R144, R147: a peer's claim that displaces no own claim writes the list alone. -/
theorem joinClaim_of_foreign (foreign : s.own ≠ some c.claimant)
    (kept : ∀ low, (joinList c s.fu.claims).2.1 = some low → s.own ≠ some low.claimant) :
    joinClaim c s = s.setClaims (joinList c s.fu.claims).1 := by
  unfold joinClaim
  split
  rename_i made
  rw [made] at kept ⊢
  split
  · rename_i low
    have peers : s.own ≠ some low.claimant := kept low rfl
    simp [foreign, peers]
  · simp [foreign]

/-- R147: the own claim displaced from a full list is withdrawn. -/
theorem joinClaim_of_own_displaced (new : ∀ e ∈ s.fu.claims, e.claimant ≠ c.claimant) (full : 4 ≤ s.fu.claims.length)
    (mem : low ∈ s.fu.claims) (lowest : ∀ x ∈ s.fu.claims, x = low ∨ x.outranks low = true)
    (higher : c.outranks low = true) (own : s.own = some low.claimant) :
    joinClaim c s = ownClaimWithdrawn low.number
      (s.setClaims (s.fu.claims.filter (fun e => e.claimant != low.claimant) ++ [c])) := by
  unfold joinClaim
  rw [joinList_of_full new full mem lowest, if_pos higher]
  simp [own]

/-- R144, R147: a claim that comes to join leaves the view. -/
theorem joinClaim_view (c : ClaimEntry) (s : State) : (joinClaim c s).fu.view = s.fu.view := by
  have withdrawn (number : Byte) (t : State) : (ownClaimWithdrawn number t).fu.view = t.fu.view := by
    unfold ownClaimWithdrawn
    split
    · split
      · exact (enqueue_fu _ _).1
      · rfl
    · rfl
  have discarded (joined : Bool) (t : State) :
      (if joined then ownClaimWithdrawn c.number t else t).fu.view = t.fu.view := by
    split
    · exact withdrawn _ t
    · rfl
  unfold joinClaim
  split
  dsimp only
  refine (discarded _ _).trans ?_
  split
  · split
    · exact withdrawn _ _
    · rfl
  · rfl

end

/-- R147: a claim under way withdrawn, with a refusal shown and its RELEASE asked for. -/
theorem withdrawn_spec (k : KeyId) (number : Byte) (s : State) :
    let t := queueRelease number .withdrawn (showRefusal k (s.setOwn none))
    t.fu.own = none ∧ (t.key k).refusalEnd = some (s.now + 2000) ∧ t.fu.claims = s.fu.claims ∧
    (s.running = true → s.ylc.queue.length < 8 → t.queued (.release number 2#8)) := by
  intro t
  have fu : t.fu = (showRefusal k (s.setOwn none)).fu :=
    (enqueue_frame_of_unclaiming (s := showRefusal k (s.setOwn none)) nofun _).part .fu
  refine ⟨by rw [fu]; rfl, ?_, by rw [fu]; rfl, fun running room => ?_⟩
  · have key : t.key k = (showRefusal k (s.setOwn none)).key k := by
      rw [State.key, fu]
      rfl
    rw [key, showRefusal, State.setKey_key_same]
    rfl
  · exact enqueue_queued (s := showRefusal k (s.setOwn none)) running room

/-! ## A CLAIM heard -/

/-- R148: the claim that a CLAIM carries, field by field. -/
theorem claimEntryOf_eq (n : Station) (b : ClaimBody) (now : Nat) : claimEntryOf n b now =
    { claimant := n
      number := b.number
      cls := if b.cls = 0#8 then .general else .urgent
      targets := b.targets.filterMap fun p =>
        if p.1 = 31#8 then some { station := .all, zones := p.2 }
        else (stationOfByte p.1).map fun m => { station := .one m, zones := p.2 }
      holdLimit := max 10 (min 600 b.holdLimit.toNat)
      windowEnd := now + max 100 (min 2000 b.window.toNat)
      objected := false } := by
  have target : targetOfPair = fun p => if p.1 = 31#8 then some { station := .all, zones := p.2 }
      else (stationOfByte p.1).map fun m => { station := .one m, zones := p.2 } := by
    funext p
    simp [targetOfPair]
  simp only [claimEntryOf, classOfByte, beq_iff_eq, target, clampNat]

/-- R148 step 1: another floor of the sender in the view ends. -/
def endOtherFloor (n : Station) (b : ClaimBody) (s : State) : State :=
  match s.fu.view with
  | some v => if v.holder == n && v.number != b.number then floorLeavesView s else s
  | none => s

/-- R148 step 3: a holder of a class at or above the claim's objects. -/
def answerClaim (n : Station) (b : ClaimBody) (s : State) : State :=
  match s.fu.own with
  | some o =>
    if s.running && o.phase.holdsFloor && classAtOrAbove o.cls (classOfByte b.cls) then
      enqueue (.object n b.number 1) s
    else s
  | none => s

theorem hearClaim_eq (n : Station) (b : ClaimBody) (s : State) :
    hearClaim n b s = answerClaim n b (joinClaim (claimEntryOf n b s.now) (endOtherFloor n b s)) := rfl

section

variable {n : Station} {b : ClaimBody} {o : OwnClaim} {s : State}

theorem endOtherFloor_of_same (same : ∀ v, s.fu.view = some v → v.holder = n → v.number = b.number) :
    endOtherFloor n b s = s := by
  unfold endOtherFloor
  split
  · rename_i v view
    refine if_neg fun other => ?_
    rw [Bool.and_eq_true, beq_iff_eq, bne_iff_ne] at other
    exact other.2 (same v view other.1)
  · rfl

theorem endOtherFloor_of_other {v : FloorView} (view : s.fu.view = some v) (holder : v.holder = n)
    (other : v.number ≠ b.number) : endOtherFloor n b s = floorLeavesView s := by
  unfold endOtherFloor
  rw [view]
  exact if_pos (by simp [holder, other])

theorem answerClaim_of_quiet (quiet : ∀ o, ¬(s.running = true ∧ s.fu.own = some o ∧ o.phase.holdsFloor = true ∧
    (o.cls = .urgent ∨ classOfByte b.cls = .general))) : answerClaim n b s = s := by
  unfold answerClaim
  split
  · rename_i o own
    refine if_neg fun objects => quiet o ?_
    rw [Bool.and_eq_true, Bool.and_eq_true, classAtOrAbove_iff] at objects
    exact ⟨objects.1.1, own, objects.1.2, objects.2⟩
  · rfl

theorem answerClaim_of_objecting (running : s.running = true) (own : s.fu.own = some o)
    (floor : o.phase.holdsFloor = true) (above : o.cls = .urgent ∨ classOfByte b.cls = .general) :
    answerClaim n b s = enqueue (.object n b.number 1#8) s := by
  unfold answerClaim
  rw [own]
  exact if_pos (by simp [running, floor, (classAtOrAbove_iff _ _).mpr above])

theorem answerClaim_frame (n : Station) (b : ClaimBody) (s : State) : s.keepsAllBut [.ylc, .fu] (answerClaim n b s) := by
  unfold answerClaim
  split
  · split
    · exact enqueue_frame _ s
    · exact s.keepsAllBut_refl _
  · exact s.keepsAllBut_refl _

theorem answerClaim_lists (n : Station) (b : ClaimBody) (s : State) :
    (answerClaim n b s).fu.view = s.fu.view ∧ (answerClaim n b s).fu.claims = s.fu.claims := by
  unfold answerClaim
  split
  · split
    · exact enqueue_fu _ s
    · exact ⟨rfl, rfl⟩
  · exact ⟨rfl, rfl⟩

end

/-! ## CLAIM -/

/-- R148: what a CLAIM of a peer does in a station that takes it. -/
theorem exec_claim {sender : Byte} {b : ClaimBody} {n : Station} {s t : State} (hears : s.hears sender n)
    (taking : s.taking = true) (effect : hearClaim n b (s.heardFrom n) = t) :
    exec (.claim sender b) s = .next (asOneChange (fun _ => t) s) := by
  have delivered : ifTaking (hearClaim n b) (s.heardFrom n) = t := (ifTaking_of_taking taking).trans effect
  refine (heard_eq_next hears _).trans ?_
  rw [← delivered]

section

variable {sender : Byte} {b : ClaimBody} {n : Station} {o : OwnClaim} {s : State}

/-- R148 step 2: a CLAIM that ends no floor, that nobody of this station objects to, and that displaces no own claim. -/
theorem exec_claim_of_quiet (hears : s.hears sender n) (taking : s.taking = true)
    (same : ∀ v, s.fu.view = some v → v.holder = n → v.number = b.number)
    (quiet : ∀ o, ¬(s.running = true ∧ s.fu.own = some o ∧ o.phase.holdsFloor = true ∧
      (o.cls = .urgent ∨ classOfByte b.cls = .general)))
    (kept : ∀ low, (joinList (claimEntryOf n b s.now) s.fu.claims).2.1 = some low → s.own ≠ some low.claimant) :
    exec (.claim sender b) s = .next (endOfStep
      ((s.heardFrom n).setClaims (joinList (claimEntryOf n b s.now) s.fu.claims).1)) := by
  obtain ⟨-, -, -, foreign, -⟩ := id hears
  have joined : joinClaim (claimEntryOf n b s.now) (s.heardFrom n) =
      (s.heardFrom n).setClaims (joinList (claimEntryOf n b s.now) s.fu.claims).1 :=
    joinClaim_of_foreign (c := claimEntryOf n b s.now) (s := s.heardFrom n) foreign kept
  have effect : hearClaim n b (s.heardFrom n) =
      (s.heardFrom n).setClaims (joinList (claimEntryOf n b s.now) s.fu.claims).1 := by
    rw [hearClaim_eq, endOtherFloor_of_same (s := s.heardFrom n) same, State.heardFrom_now, joined]
    exact answerClaim_of_quiet quiet
  rw [exec_claim hears taking effect, asOneChange_of_za rfl]

/-- R148 step 1: another floor of the sender leaves the view and every zone. -/
theorem hearClaim_of_other {v : FloorView} (view : s.fu.view = some v) (holder : v.holder = n)
    (other : v.number ≠ b.number) :
    (hearClaim n b s).fu.view = none ∧ (hearClaim n b s).nowhere (Owner.isFloor n v.number) ∧
    (s.fu.claims.length < 4 → (∀ x ∈ s.fu.claims, x.claimant ≠ n) →
      (hearClaim n b s).fu.claims = s.fu.claims ++ [claimEntryOf n b s.now]) := by
  subst holder
  obtain ⟨left, gone⟩ := floorLeavesView_spec view
  rw [hearClaim_eq, endOtherFloor_of_other view rfl other]
  generalize floorLeavesView s = u at *
  have joined := joinClaim_view (claimEntryOf v.holder b s.now) u
  obtain ⟨view', claims'⟩ := answerClaim_lists v.holder b (joinClaim (claimEntryOf v.holder b s.now) u)
  have claims : u.fu.claims = s.fu.claims := by rw [left]
  refine ⟨?_, ?_, fun room new => ?_⟩
  · rw [view', joined, left]
  · exact gone.frame ((joinClaim_frame _ u).andThen (answerClaim_frame _ _ _))
  · rw [claims', joinClaim_of_room (by rw [claims]; exact new) (by rw [claims]; exact room), ← claims]
    rfl

/-- R148 step 3: the holder of a class at or above the claim's objects. -/
theorem hearClaim_of_objecting (same : ∀ v, s.fu.view = some v → v.holder = n → v.number = b.number)
    (running : s.running = true) (own : s.fu.own = some o) (floor : o.phase.holdsFloor = true)
    (above : o.cls = .urgent ∨ classOfByte b.cls = .general) :
    hearClaim n b s = enqueue (.object n b.number 1#8)
      (s.setClaims (joinList (claimEntryOf n b s.now) s.fu.claims).1) := by
  have free : ∀ p, s.fu.own = some p → p.phase ≠ .claiming := fun p record claiming => by
    rw [Option.some.inj (own.symm.trans record), claiming] at floor
    cases floor
  rw [hearClaim_eq, endOtherFloor_of_same same, joinClaim_of_unclaiming free]
  exact answerClaim_of_objecting running own floor above

/-- R144, R147: the own claim at a full list, displaced by a CLAIM that outranks it. -/
theorem hearClaim_of_own_displaced {low : ClaimEntry}
    (same : ∀ v, s.fu.view = some v → v.holder = n → v.number = b.number) (record : s.fu.own = some o)
    (claiming : o.phase = .claiming) (mem : low ∈ s.fu.claims) (own : s.own = some low.claimant)
    (number : low.number = o.number) (full : 4 ≤ s.fu.claims.length) (new : ∀ x ∈ s.fu.claims, x.claimant ≠ n)
    (lowest : ∀ x ∈ s.fu.claims, x = low ∨ x.outranks low = true)
    (higher : (claimEntryOf n b s.now).outranks low = true) :
    hearClaim n b s = queueRelease o.number .withdrawn (showRefusal o.key ((s.setClaims
      (s.fu.claims.filter (fun e => e.claimant != low.claimant) ++ [claimEntryOf n b s.now])).setOwn none)) := by
  have joined := joinClaim_of_own_displaced (c := claimEntryOf n b s.now) new full mem lowest higher own
  generalize s.fu.claims.filter (fun e => e.claimant != low.claimant) ++ [claimEntryOf n b s.now] = list at joined ⊢
  rw [ownClaimWithdrawn_of_claiming (s := s.setClaims list) record claiming number.symm, number] at joined
  rw [hearClaim_eq, endOtherFloor_of_same same, joined]
  refine answerClaim_of_quiet fun p ⟨_, own, _⟩ => ?_
  exact absurd (own.symm.trans (withdrawn_spec o.key o.number (s.setClaims list)).1) nofun

end

/-- Settles O37: the list is that of `joinList`; the sender's other floor ends first, and a holder objects last. -/
theorem claimJoinsTheList : Obligations.ClaimJoinsTheList := by
  unfold Obligations.ClaimJoinsTheList
  intro sender b n s hears taking e after sameFloor objects
  have entry : claimEntryOf n b s.now = e := claimEntryOf_eq n b s.now
  have cls : classOfByte b.cls = e.cls := congrArg ClaimEntry.cls entry
  refine ⟨fun same none_ => ?_, fun v view holder other => ?_, fun o same objecting room => ?_,
    fun o low same record claiming mem own number full new lowest higher => ?_⟩
  · have quiet (kept : ∀ low, (joinList e s.fu.claims).2.1 = some low → s.own ≠ some low.claimant) :
        exec (.claim sender b) s = .next (after (joinList e s.fu.claims).1) := by
      rw [← entry] at kept ⊢
      exact exec_claim_of_quiet hears taking same (by rw [cls]; exact none_) kept
    refine ⟨fun known => ?_, fun new => ⟨fun room => ?_, fun low mem full peers lowest =>
      ⟨fun higher => ?_, fun lower => ?_⟩⟩⟩
    · have list := joinList_of_known (c := e) known
      rw [quiet (by rw [list]; exact nofun), list]
      simp only [beq_iff_eq]
      rfl
    · have list := joinList_of_room (c := e) new room
      rw [quiet (by rw [list]; exact nofun), list]
    · have list := joinList_of_full (c := e) new full mem lowest
      rw [if_pos higher] at list
      rw [quiet (by rw [list]; exact fun x same => Option.some.inj same ▸ peers), list]
    · have list := joinList_of_full (c := e) new full mem lowest
      rw [if_neg (by rw [lower]; exact nofun)] at list
      rw [quiet (by rw [list]; exact nofun), list]
  · obtain ⟨left, gone, list⟩ := hearClaim_of_other (s := s.heardFrom n) view holder other
    rw [State.heardFrom_now, entry] at list
    have ran := exec_claim hears taking (rfl : hearClaim n b (s.heardFrom n) = _)
    generalize hearClaim n b (s.heardFrom n) = u at *
    have fu : (asOneChange (fun _ => u) s).fu = u.fu := (asOneChange_frame (fun _ => u) s).part .fu
    refine ⟨_, ran, by rw [fu, left], gone.asOneChange (f := fun _ => u) fun _ => rfl, fun room new => ?_⟩
    rw [fu]
    exact list room new
  · obtain ⟨running, record, floor, above⟩ := objecting
    have effect := hearClaim_of_objecting (s := s.heardFrom n) same running record floor (by rw [cls]; exact above)
    rw [State.heardFrom_now, entry, State.heardFrom_fu] at effect
    have ran := exec_claim hears taking effect
    have queued := enqueue_queued (s := (s.heardFrom n).setClaims (joinList e s.fu.claims).1)
      (f := .object n b.number 1#8) running room
    have joined : (enqueue (.object n b.number 1#8) ((s.heardFrom n).setClaims (joinList e s.fu.claims).1)).fu =
        { s.fu with claims := (joinList e s.fu.claims).1 } := by
      rw [enqueue_of_room (s := (s.heardFrom n).setClaims _) (takesFrame_of_running running) room]
      rfl
    generalize enqueue (.object n b.number 1#8) ((s.heardFrom n).setClaims (joinList e s.fu.claims).1) = u at *
    have fu : (asOneChange (fun _ => u) s).fu = u.fu := (asOneChange_frame (fun _ => u) s).part .fu
    rw [joined] at fu
    refine ⟨_, ran, (asOneChange_sameFrames (fun _ => u) s).queued queued, by rw [fu], by rw [fu], fun room new => ?_⟩
    rw [fu]
    exact congrArg Prod.fst (joinList_of_room (c := e) new room)
  · have effect := hearClaim_of_own_displaced (s := s.heardFrom n) same record claiming mem own number full new lowest
      (by rw [State.heardFrom_now, entry]; exact higher)
    rw [State.heardFrom_now, entry, State.heardFrom_fu] at effect
    generalize s.fu.claims.filter (fun x => x.claimant != low.claimant) ++ [e] = list at effect ⊢
    have ran := exec_claim hears taking effect
    obtain ⟨idle, refusal, claims, queued⟩ := withdrawn_spec o.key o.number ((s.heardFrom n).setClaims list)
    generalize queueRelease o.number .withdrawn (showRefusal o.key (((s.heardFrom n).setClaims list).setOwn none)) = u at *
    have fu : (asOneChange (fun _ => u) s).fu = u.fu := (asOneChange_frame (fun _ => u) s).part .fu
    refine ⟨_, ran, by rw [fu, idle], ?_, by rw [fu, claims]; rfl, fun running room => ?_⟩
    · rw [State.key, fu]
      exact refusal
    · exact (asOneChange_sameFrames (fun _ => u) s).queued (queued running room)

end Sys2Proof.Machine
end
